-- ==== Sys2Proof/Config.lean ====
section
/-! DEFINITION. What an implementation fixes: the ordering codes (R1), and the values and functions the model leaves
uninterpreted. No definition here has a body a proof can see but the ordering codes' figures. -/

namespace Sys2Proof

/-- The ordering codes of R1: IV64-B0-S, IV64-B0-M and IV64-A1-E. -/
inductive Part where
  | b0s | b0m | a1
  deriving DecidableEq, Repr

/-- GLOBAL_ID.stepping (R4). -/
def Part.stepping : Part → Nat
  | .a1 => 0xA1
  | _ => 0xB0

/-- GLOBAL_ID.needle_count (R1, R4). -/
def Part.needleCount : Part → Nat
  | .b0m => 48
  | _ => 64

/-- GLOBAL_ID.stitch_count (R1, R4). -/
def Part.stitchCount : Part → Nat
  | .b0m => 12
  | _ => 16

namespace Config

/-- The salt that GCM-AES-XPN-256 takes with a SAK, and the short SCI of an SCI: MKA, which would give them, is not supported
(R415; log 132). -/
opaque xpnSalt : List Nat → Nat
opaque shortSci : Nat → Nat

/-- Free values: the `n`-th value the spec leaves open. Uninterpreted; State.freeCtr says which comes next. -/
opaque free : Nat → Nat

/-- The bytes of the Needle boot ROM (R319), which the spec does not give. -/
opaque bootRom : Nat → BitVec 8

/-- Which version of a halfword a fetch delivers between a store to the instruction store and the next SYS.t.ifence (R317):
by Needle, number of the bundle in issue order, halfword address. -/
opaque staleVersion : Nat → Nat → Nat → Nat

/-- The `i`-th probable prime of `bits` bits that the RSA key generation of R139 draws. -/
opaque prime : Nat → Nat → Nat

/-- The data of fuse word `i` of the identity seed where the model's fuses hold none (R454): each die has its own. -/
opaque seedWord : Nat → Nat

/-- The digest of a VT_SHARD map that membership frames carry (R417), by the map's bytes; the spec names no function. -/
opaque mapDigest : List Nat → Nat

/-- The 12 bytes of IV under which a checkpoint record's tag is made (R151), by key ID and sequence; the spec names none. -/
opaque ckptIv : Nat → Nat → List Nat

/-- Where hash memory of a length is placed, as a number of 128-byte lines into the room there is (R117); the spec names no
rule. -/
opaque hashPlace : Nat → Nat → Nat

/-- The Device Serial Number (R454), fused at Isaric test. -/
opaque serial : Nat

/-- Whether an access at this offset of the SPI NOR controller's window reaches the retirement-log partition (R355). The
controller's run-time registers are not given. -/
opaque spiLog : Nat → Bool

/-- What the board record of SPI NOR gives, by the bytes of its 4 KiB (R27, R460): subsystem vendor ID and subsystem ID, or
none where it is not valid. The spec names neither its layout nor its check. -/
opaque boardRecord : List Nat → Option (Nat × Nat)

end Config

end Sys2Proof
end

