-- ==== Sys2Proof/Syntax.lean ====
section
/-! DEFINITION. The commands the block takes: one constructor of Instr for each row of spec/opcode_table.json, with the
operands the step needs from outside the die (data that arrives, who asks, what a sensor or a test found). -/

namespace Sys2Proof

/-! ## Operands shared by several commands -/

/-- What host memory answers to the reads of one operation: extents (address, bytes). A byte that no extent lists gets
no completion, so a read of it fails (R31, R100). -/
abbrev HostView := List (Nat × List Byte)

/-- A work descriptor but for its opcode, which the command names (R71): header bytes and the 56-byte body. -/
structure Desc where
  flags : Byte
  rsvd3 : Byte
  cid   : W16
  rsvd6 : W16
  body  : List Byte
  deriving DecidableEq, Repr

/-- How a read the device issued came back (R31, R75): with data, or with one of the three failures. -/
inductive ReadFail where
  | timeout | unsupportedRequest | completerAbort
  deriving DecidableEq, Repr

/-- How a CAS came back (R61, R64). -/
inductive CasResult where
  | value (w : W64)
  | unsupportedRequest
  | completerAbort
  deriving DecidableEq, Repr

/-- Who writes a register: a BAR0 write, the debug master, the Fitter, the Thimble, or Warden firmware of a Needle
through the internal map (R10, R35, R349). -/
inductive RegWriter where
  | bar0 | debug | fitter | thimble | warden
  deriving DecidableEq, Repr

/-- A register access: function (0 for PF0), writer, byte offset in that function's BAR0, size in bytes, value. -/
structure RegAccess where
  fn     : Nat
  writer : RegWriter
  offset : Nat
  size   : Nat
  value  : Nat
  deriving DecidableEq, Repr

/-- The control fields of configuration space that the host sets beside Bus Master Enable (R43 steps 2 and 11): of PF0 also
its BAR0 and the VF BAR0 (R32, R33), the System Page Size in bytes, ECRC (R28) and the power state. -/
structure CfgControls where
  memorySpace    : Bool
  atomicOp       : Bool
  tag10          : Bool
  relaxedOrder   : Bool
  mps            : Nat
  mrrs           : Nat
  numVfs         : Nat
  vfEnable       : Bool
  msixEnable     : Bool
  msixFnMask     : Bool
  ctoValue       : Nat
  ctoDisable     : Bool
  bar0           : Nat
  vfBar0         : Nat
  pageSize       : Nat
  ecrcGen        : Bool
  ecrcCheck      : Bool
  d3hot          : Bool
  deriving DecidableEq, Repr

/-- How an INVOKE stands when its command is taken: left running on the Needle, or already at its own end with a return
value and the bytes it wrote. The spec gives no mark by which a program ends (log 21). -/
inductive InvokeEnd where
  | running
  | ok (ret : W32) (out : List Byte)
  deriving DecidableEq, Repr

/-- Where STREAM_ADMIT takes its stream from: the admission queue of a retire ring, or the post queue of a Needle, with what
host memory answers where its block names lists in host memory. -/
inductive AdmitFrom where
  | ring (r : Nat)
  | needle (n : Nat) (h : HostView)
  deriving DecidableEq, Repr

/-- What a seam's abort response concerns (R17, R186, R354). -/
inductive AbortAt where
  | quad (q : Nat)
  | ddrRead (stream : Nat)
  | ddrWrite (stream : Nat)
  | hub (master : Nat) (id : Nat)
  deriving DecidableEq, Repr

/-- How memory answered a Needle access (R242). -/
inductive MemAnswer where
  | ok | fault | ecc
  deriving DecidableEq, Repr

/-- ECC state of the words an access touched (R338, R401). -/
inductive EccEvent where
  | none | single | double
  deriving DecidableEq, Repr

/-- One request presented to a Bolt bank in one cycle (R329): port, bank, word, first byte in the word, data (empty for
a read), the read length, and what ECC found. -/
structure BoltReq where
  port : Nat
  bank : Nat
  word : Nat
  byte : Nat
  len  : Nat
  data : Option (List Byte)
  ecc  : EccEvent
  deriving DecidableEq, Repr

/-- What a Bolt request meets at its bank word beside its own cycle (R330, R331): nothing, a write of another port in its commit
cycle, or in maintenance a write of a lower port. -/
inductive BankMeet where
  | none | commit | lowerWrite
  deriving DecidableEq, Repr

/-- A Hub transaction (R348, R349): master, privilege of a Needle master, ID, address, size, data of a write. -/
structure HubReq where
  master : Nat
  priv   : Nat
  id     : Nat
  addr   : Nat
  size   : Nat
  data   : Option (List Byte)
  met    : BankMeet
  deriving DecidableEq, Repr

/-- A DDR5 access at a channel (R401): channel, DDR5 offset, data of a write, and what its ECC, write CRC and CA parity
did: the retries taken and whether they were exhausted. -/
structure DdrReq where
  offset        : Nat
  len           : Nat
  data          : Option (List Byte)
  stream        : Option Nat
  ecc           : EccEvent
  crcRetries    : Nat
  parityRetries : Nat
  exhausted     : Bool
  deriving DecidableEq, Repr

/-- What training found on a channel (R390, R391); `die` is the code of R390: 0 for 16 Gb, 1 for 24 Gb, 2 for 32 Gb. -/
structure DdrFound where
  present : Bool
  x4      : Bool
  die     : Nat
  ranks   : Nat
  rdimm   : Bool
  trained : Bool
  deriving DecidableEq, Repr

/-- One table write as mesh frames carry it (R412): index, generation, header fields and material. -/
structure TableWrite where
  index      : Nat
  live       : Bool
  generation : Nat
  tenant     : Nat
  keyType    : Nat
  usage      : Nat
  nonceSalt  : Nat
  created    : Nat
  expiry     : Nat
  material   : List Byte
  deriving DecidableEq, Repr

/-- A received Selvage frame but for its body: the port it came on, its MAC addresses, its MACsec packet number and ICV, and
the fields of its header, as its ciphertext opens (R410, R411, R413, R415). -/
structure FrameHdr where
  port    : Nat
  dstMac  : Nat
  srcMac  : Nat
  pn      : Nat
  icv     : List Byte
  src     : Nat
  dst     : Nat
  group   : Bool
  /-- flags bit 0: a retransmission -/
  resent  : Bool
  seq     : Nat
  ack     : Nat
  shard   : Nat
  epoch   : Nat
  deriving DecidableEq, Repr

/-- What a member tells of a shard: its replica list, commit count, epoch and primary (R419). -/
structure ShardConf where
  shard    : Nat
  replicas : List Nat
  k        : Nat
  epoch    : Nat
  primary  : Nat
  deriving DecidableEq, Repr

/-- MEMBERSHIP bodies (R412, R417): join, join answer (member list, VT_SHARD digest), announcement, leave, the shard
configuration that SHARD_CONFIG carries to every listed replica, and what a member tells once its claim has succeeded: to the
issuer of the configuration at once, to the replicas once it has reconciled (R419, R423; the spec names no class for these
two, log 42). -/
inductive MemberBody where
  | join (peers : List Nat) (digest : Nat)
  | answer (members : List Nat) (digest : Nat) (shards : List ShardConf)
  | announce (id : Nat)
  | leave
  | config (c : ShardConf)
  | claimed (shard epoch : Nat) (settled : Bool)
  deriving DecidableEq, Repr

/-- RELOAD bodies (R412, R424, R425): a request, a refusal naming the epoch and its holder, a batch of entries, the write
sequence it reaches and whether it is the last. -/
inductive ReloadBody where
  | request
  | refuse (epoch : Nat) (holder : Nat)
  | batch (entries : List TableWrite) (applied : Nat) (last : Bool)
  deriving DecidableEq, Repr

/-- SHARD_WRITE bodies (R422): the write with its sequence in the shard, its commit, its abort. -/
inductive ShardBody where
  | write (num : Nat) (w : TableWrite)
  | commit (index : Nat)
  | abort (index : Nat)
  deriving DecidableEq, Repr

/-- A session context and its key as a HANDOFF frame carries them (R148). -/
structure SessionImage where
  tenant   : Nat
  chacha   : Bool
  opening  : Bool
  dataPhase : Bool
  nonce    : List Byte
  key      : List Byte
  aad      : List Byte
  text     : List Byte
  source   : Option (Nat × Nat)
  deriving DecidableEq, Repr

/-- Bodies of Selvage frames (R412). -/
inductive MeshBody where
  | keepalive (time ports : Nat)
  | membership (b : MemberBody)
  | shardWrite (b : ShardBody)
  | shardReply (accept : Bool) (heldEpoch : Nat)
  | forward (w : TableWrite)
  | claim (claimant : Nat)
  | claimReply (accept : Bool) (value : Nat)
  | reload (b : ReloadBody)
  | handoff (s : SessionImage)
  | handoffReply (reference : Nat)
  | ack
  deriving DecidableEq, Repr

/-- The bytes of the bodies whose layout the spec does not give: all but KEEPALIVE's, and ACK has none (R412; log 132). -/
opaque Config.bodyBytes : MeshBody → List Nat

/-- The margins of one lane at the end of a rank sweep (R399). -/
structure LaneMargin where
  width  : Nat
  height : Nat
  deriving DecidableEq, Repr

/-- An attempt of an engine to issue the bundle at its pc: whether the fetch met an uncorrectable error (R295). -/
structure BundleFetch where
  n   : Nat
  ecc : Bool
  deriving DecidableEq, Repr

/-- A DDR5 channel has left self-refresh, with what the sweep of each of its ranks measured (R396). -/
structure ChanRestore where
  ch     : Nat
  sweeps : List (List LaneMargin)
  deriving DecidableEq, Repr

/-- An sPPR repair has ended: `lost` are the row's columns, in granules, that the code could not correct (R403). -/
structure RowRepair where
  ch   : Nat
  lost : List Nat
  deriving DecidableEq, Repr

/-- What a Selvage port's auto-negotiation found: the 200 Gb/s type, or the 100 Gb/s one (R408). -/
structure LinkUp where
  port    : Nat
  hundred : Bool
  deriving DecidableEq, Repr

/-- One sample of each Tape input of an island (R430). -/
structure TapeInputs where
  island : Nat
  values : List Nat
  deriving DecidableEq, Repr

/-- What one function's queues did over an adaptation period (R448). -/
inductive QueueUse where
  | empty | waited | otherwise
  deriving DecidableEq, Repr

/-- Why an image was rejected (R471, BOOT_IMAGE_REJECTED detail). -/
inductive ImageJudge where
  | ok (svn : Nat)
  | hash | signature | svn | header
  deriving DecidableEq, Repr

/-- The session in which a vendor request arrived (R466): secured, and authenticated by the owner. -/
structure VendorAuth where
  secured : Bool
  owner   : Bool
  deriving DecidableEq, Repr

/-- SPDM requests the Thimble answers itself (R466). -/
inductive SpdmReq where
  | getMeasurement (index : Nat)
  | getCertificate (slot : Nat)
  | setCertificate (slot : Nat) (chain : List Byte) (auth : VendorAuth)
  | challenge (nonce : List Byte)
  | getCsr
  | keyExchange (transport : Nat)
  | endSession (transport : Nat)
  | ideKey (stream : Nat) (key : List Byte) (auth : VendorAuth)
  | other
  deriving DecidableEq, Repr

/-- The commands of the block: the rows of spec/opcode_table.json, in its order. -/
inductive Instr where
  | powerOnReset
  | powerOnResetRelease
  | sysRstNAssert (below100 : Bool)
  | perstNAssert
  | perstNRelease
  | hotReset
  | dlDown
  | linkTrained
  | flrPf0
  | flrVf (n : Nat)
  | d3hotToD0
  | busMasterEnableSet (fn : Nat) (cfg : CfgControls)
  | bar0BadAccess (a : RegAccess) (write : Bool)
  | gatedBlockAccess (a : RegAccess) (write : Bool)
  | registerWrite (a : RegAccess)
  | setupLockRequest
  | lockCheckDone
  | ringVfLockRequest (fn : Nat)
  | vfLockCheckDone (fn : Nat)
  | lcReqDeploy (value : W32)
  | ndlEngineReset (n : Nat)
  | ndlModeWrite (n : Nat) (remap debug : Bool)
  | msixUnmask (fn vector : Nat)
  | sweepIssue
  | sweepReturn (words : List W64)
  | doorbellReadReturn (sq : Nat) (word : W64)
  | descriptorLand (sq : Nat) (ds : List (W16 × Desc × HostView))
  | casReturn (word : Nat) (res : CasResult)
  | clearRereadReturn (sq : Nat) (word : W64)
  | fetchFail (sq : Nat) (addr : Nat) (why : ReadFail)
  | summaryReadFail (addr : Nat) (why : ReadFail)
  | readyBitSet (bit : Nat)
  | holdLimitExpiry (sq : Nat) (cid : W16)
  | cqCoalTimer (cq : Nat)
  | statusPageWrite
  | errConsumerReadReturn (count : W32)
  | stream (sq : Nat) (d : Desc) (h : HostView)
  | streamCmd (sq : Nat) (d : Desc) (h : HostView)
  | sign (sq : Nat) (d : Desc) (h : HostView)
  | verify (sq : Nat) (d : Desc) (h : HostView)
  | ecdh (sq : Nat) (d : Desc) (h : HostView)
  | rsaEncrypt (sq : Nat) (d : Desc) (h : HostView)
  | rsaDecrypt (sq : Nat) (d : Desc) (h : HostView)
  | kemEncaps (sq : Nat) (d : Desc) (h : HostView)
  | kemDecaps (sq : Nat) (d : Desc) (h : HostView)
  | pubkeyExport (sq : Nat) (d : Desc) (h : HostView)
  | mac (sq : Nat) (d : Desc) (h : HostView)
  | macVerify (sq : Nat) (d : Desc) (h : HostView)
  | passwordVerify (sq : Nat) (d : Desc) (h : HostView)
  | passwordHash (sq : Nat) (d : Desc) (h : HostView)
  | passwordDerive (sq : Nat) (d : Desc) (h : HostView)
  | create (sq : Nat) (d : Desc) (h : HostView)
  | importKey (sq : Nat) (d : Desc) (h : HostView)
  | exportWrapped (sq : Nat) (d : Desc) (h : HostView)
  | derive (sq : Nat) (d : Desc) (h : HostView)
  | rotate (sq : Nat) (d : Desc) (h : HostView)
  | destroy (sq : Nat) (d : Desc) (h : HostView)
  | query (sq : Nat) (d : Desc) (h : HostView)
  | rewrapStart (sq : Nat) (d : Desc) (h : HostView)
  | rewrapStatus (sq : Nat) (d : Desc) (h : HostView)
  | backupSeal (sq : Nat) (d : Desc) (h : HostView)
  | backupRestore (sq : Nat) (d : Desc) (h : HostView)
  | openSession (sq : Nat) (d : Desc) (h : HostView)
  | update (sq : Nat) (d : Desc) (h : HostView)
  | final (sq : Nat) (d : Desc) (h : HostView)
  | close (sq : Nat) (d : Desc) (h : HostView)
  | migrate (sq : Nat) (d : Desc) (h : HostView)
  | migrateTimeout (peer seq : Nat)
  | load (sq : Nat) (d : Desc) (h : HostView)
  | invoke (sq : Nat) (d : Desc) (h : HostView) (fin : InvokeEnd)
  | unload (sq : Nat) (d : Desc) (h : HostView)
  | join (sq : Nat) (d : Desc) (h : HostView)
  | leave (sq : Nat) (d : Desc) (h : HostView)
  | shardConfig (sq : Nat) (d : Desc) (h : HostView)
  | memberQuery (sq : Nat) (d : Desc) (h : HostView)
  | takeover (sq : Nat) (d : Desc) (h : HostView)
  | nop (sq : Nat) (d : Desc) (h : HostView)
  | errorRingSetup (sq : Nat) (d : Desc) (h : HostView)
  | profileChange (sq : Nat) (d : Desc) (h : HostView)
  | retire (sq : Nat) (d : Desc) (h : HostView)
  | restore (sq : Nat) (d : Desc) (h : HostView) (testPassed : Bool)
  | selfTest (sq : Nat) (d : Desc) (h : HostView) (failed : Bool)
  | ringRestart (sq : Nat) (d : Desc) (h : HostView)
  | ringClass (sq : Nat) (d : Desc) (h : HostView)
  | vectorRetarget (sq : Nat) (d : Desc) (h : HostView)
  | tenantLimits (sq : Nat) (d : Desc) (h : HostView)
  | streamAdmit (src : AdmitFrom)
  | chunkSourceLand (stream : Nat) (data : Option (List Byte)) (ecc : EccEvent)
  | keyScheduleBuilt (pipe : Nat)
  | jobFinish (pipe : Nat) (fault : Bool)
  | outputDrainDone (stream : Nat) (bolt : MemAnswer)
  | streamRetire (ring : Nat)
  | seamAbort (at_ : AbortAt)
  | selftestInterval
  | selfTestEnd (pipe : Nat) (failed : Bool)
  | stitchQuadDrained
  | rewrapSweepStep
  | freeListRebuildDone
  | bundleIssue (n : BundleFetch)
  | lockupClearDone (n : Nat)
  | unitResultPush (n : Nat) (unit : Nat)
  | longOpComplete (n : Nat)
  | loadReturn (n : Nat) (ans : MemAnswer)
  | directLoadWrite (n : Nat) (ans : MemAnswer)
  | storePerform (n : Nat)
  | storeFaultReport (n : Nat) (ecc : Bool)
  | gatherElementFault (n : Nat) (element : Nat) (ecc : Bool)
  | vgatherFfCount (n : Nat)
  | budgetExpiry (n : Nat)
  | fitterInterrupt (n : Nat)
  | debugHalt (n : Nat)
  | watchdogExpiry (n : Nat)
  | critWindowExpiry (n : Nat)
  | boltCycle (reqs : List BoltReq)
  | boltScrubRead (ecc : EccEvent) (clientWrote : Bool)
  | bankIdleTimeout (bank : Nat)
  | bankWakeDone (bank : Nat)
  | vaultReadbackDone (nonZero : List (Nat × Nat))
  | donorCopyDone (bank : Nat)
  | cacheWritebackDone
  | hubRequest (r : HubReq)
  | hubResponse (master id : Nat)
  | tackCycle
  | tackDelivery (input : Nat)
  | checkpointMirrorDone
  | gpioEdge (pin : Nat) (rising : Bool)
  | periTimerExpiry (timer : Nat)
  | missingEdge
  | xtalJudgedStable
  | rootPllLock
  | divisorSwitch (island : Nat) (divisor : Nat)
  | droopStretch (island : Nat) (edges : Nat)
  | islandReset (island : Nat)
  | ddrTrainingDone (ch : Nat) (found : DdrFound)
  | ddrRestoreDone (ch : ChanRestore)
  | dqsOscInterval (ch rank : Nat) (drift64 : Int)
  | zqCalInterval (ch rank : Nat)
  | ddrRefresh (ch : Nat) (above85 : Bool)
  | rankSweepBurst (ch rank : Nat)
  | rankSweepEnd (ch rank : Nat) (lanes : List LaneMargin)
  | patrolScrubStep (ch : Nat) (ecc : EccEvent) (clientWrote : Bool)
  | ddrAccess (r : DdrReq)
  | ddrSpprDone (ch : RowRepair)
  | migrationGranuleCopy (uncorrectable : Bool)
  | keepalive (f : FrameHdr) (deviceTime : Nat) (ports : Nat)
  | membership (f : FrameHdr) (b : MemberBody)
  | shardWrite (f : FrameHdr) (b : ShardBody)
  | shardReply (f : FrameHdr) (accept : Bool) (heldEpoch : Nat)
  | forward (f : FrameHdr) (w : TableWrite)
  | claim (f : FrameHdr) (claimant : Nat)
  | claimReply (f : FrameHdr) (accept : Bool) (value : Nat)
  | reload (f : FrameHdr) (b : ReloadBody)
  | handoff (f : FrameHdr) (s : SessionImage)
  | handoffReply (f : FrameHdr) (reference : W64)
  | ack (f : FrameHdr)
  | keepaliveTimer
  | peerLostTimeout (device : Nat)
  | retransmitTimer (peer : Nat)
  | ackTimer (peer : Nat)
  | joinTimeout
  | claimRetryTimer (shard : Nat)
  | berWindowEnd (port : Nat) (corrected : List Nat) (uncorrected : Nat)
  | renegotiationDone (port : Nat) (ok : Bool)
  | svLinkUp (port : LinkUp)
  | tapeSample (island : TapeInputs)
  | hbOutToggle
  | livenessDeadlineMiss (lockup : Bool)
  | fitterRestart
  | fitterAlive
  | bucketSliceAdvance (unit : Nat)
  | retirementLogWrite
  | coalWindowClose (origin cls : Nat)
  | policyInterval
  | adaptPeriod (use : List QueueUse)
  | thermalSample (celsius : Nat)
  | powerWindow (watts : Nat)
  | profileSwitchDone
  | stage1Verified (active other : ImageJudge)
  | imageVerified (kind : Nat) (j : ImageJudge)
  | trngStartupDone
  | trngHealthFail (adaptive : Bool)
  | drbgReseed
  | tamperTrip (sensor : Nat) (celsius : Nat)
  | thimbleWatchdogExpiry
  | thermalTrip
  | debugUnlock (signatureOk : Bool)
  | spdmRequest (r : SpdmReq)
  | fwWrite (auth : VendorAuth) (offset : Nat) (data : List Byte)
  | fwActivate (auth : VendorAuth) (j : ImageJudge)
  | fwCommit (auth : VendorAuth)
  | fwRevert (auth : VendorAuth)
  | meshKeyInstall (auth : VendorAuth) (key : List Byte) (number : W32)
  | lcRetire (auth : VendorAuth)
  | completionTimeout (sq : Nat) (cid : W16)
  | sysRstNRelease
  | svLinkDown (port : Nat)
  | aerError (uncorrectable : Bool)
  | jtagProvisionRequest
  deriving DecidableEq, Repr

end Sys2Proof
end

