-- ==== Sys2Proof/Machine/Bytes.lean ====
section
/-! DEFINITION. Byte lists as numbers, for the cryptographic definitions. -/

namespace Sys2Proof.Machine

open Sys2Proof

/-- Bytes held as numbers. -/
abbrev Bs := List Nat

/-- The numbers of a list of bytes. -/
def natsOf (bs : List Byte) : Bs := bs.map BitVec.toNat

/-- The bytes of a list of numbers. -/
def bytesOf (ns : Bs) : List Byte := ns.map (BitVec.ofNat 8)

/-- Little-endian value of a list of byte numbers. -/
def valLe : Bs → Nat
  | [] => 0
  | b :: bs => b + 256 * valLe bs

/-- Big-endian value of a list of byte numbers. -/
def valBe (bs : Bs) : Nat := bs.foldl (fun a b => a * 256 + b) 0

/-- `n` little-endian byte numbers of `v`. -/
def toLe : Nat → Nat → Bs
  | 0, _ => []
  | n + 1, v => v % 256 :: toLe n (v / 256)

/-- `n` big-endian byte numbers of `v`. -/
def toBe (n v : Nat) : Bs := (toLe n v).reverse

/-- `n` zero byte numbers. -/
def zeros (n : Nat) : Bs := List.replicate n 0

/-- Exclusive or of two lists, as long as the shorter. -/
def xorBs (a b : Bs) : Bs := List.zipWith (fun x y => x ^^^ y) a b

/-- The list cut in pieces of `n` (fuel: at most as many pieces as given). -/
def chunks (n : Nat) : Nat → List α → List (List α)
  | 0, _ => []
  | fuel + 1, bs => if bs.isEmpty then [] else bs.take n :: chunks n fuel (bs.drop n)

/-- The list cut in pieces of `n` bytes, the last possibly shorter. -/
def blocksOf (n : Nat) (bs : List α) : List (List α) := chunks n (bs.length / n + 1) bs

/-- The list padded with zeros to a multiple of `n`. -/
def padTo (n : Nat) (bs : Bs) : Bs := bs ++ zeros ((n - bs.length % n) % n)

/-- Rotation of a `w`-bit word to the left. -/
def rotl (w x r : Nat) : Nat := (x * 2 ^ (r % w)) % 2 ^ w + x / 2 ^ (w - r % w)

/-- Rotation of a `w`-bit word to the right. -/
def rotr (w x r : Nat) : Nat := rotl w x (w - r % w)

end Sys2Proof.Machine
end

