-- ==== Sys2Proof/Machine/CryptoAes.lean ====
section
/-! DEFINITION. AES (FIPS 197) and its modes as R87 names them: XTS, GCM, GCM-SIV, CTR, CBC, KW and KWP. Blocks and keys
are lists of bytes held as numbers. -/

namespace Sys2Proof.Machine.Aes

open Sys2Proof.Machine

/-- The S-box of FIPS 197, byte `i` at bits [8i + 7 : 8i]. -/
def sboxTable : Nat := 0x16bb54b00f2d99416842e6bf0d89a18cdf2855cee9871e9b948ed9691198f8e19e1dc186b95735610ef6034866b53e708a8bbd4b1f74dde8c6b4a61c2e2578ba08ae7a65eaf4566ca94ed58d6d37c8e779e4959162acd3c25c2406490a3a32e0db0b5ede14b8ee4688902a22dc4f816073195d643d7ea7c41744975fec130ccdd2f3ff1021dab6bcf5389d928f40a351a89f3c507f02f94585334d43fbaaefd0cf584c4a39becb6a5bb1fc20ed00d153842fe329b3d63b52a05a6e1b1a2c830975b227ebe28012079a059618c323c7041531d871f1e5a534ccf73f362693fdb7c072a49cafa2d4adf04759fa7dc982ca76abd7fe2b670130c56f6bf27b777c63

/-- The inverse S-box, laid out as sboxTable. -/
def invSboxTable : Nat := 0x7d0c2155631469e126d677ba7e042b17619953833cbbebc8b0f52aae4d3be0a0ef9cc9939f7ae52d0d4ab519a97f51605fec8027591012b131c7078833a8dd1ff45acd78fec0db9a2079d2c64b3e56fc1bbe18aa0e62b76f89c5291d711af1476edf751ce837f9e28535ade72274ac9673e6b4f0cecff297eadc674f4111913a6b8a130103bdafc1020f3fca8f1e2cd00645b3b80558e4f70ad3bc8c00abd890849d8da75746155edab9edfd5048706c92b6655dcc5ca4d41698688664f6f87225d18b6d49a25b76b224d92866a12e084ec3fa420b954cee3d23c2a632947b54cbe9dec444438e3487ff2f9b8239e37cfbd7f3819ea340bf38a53630d56a0952

def sbox (b : Nat) : Nat := sboxTable / 2 ^ (8 * b) % 256
def invSbox (b : Nat) : Nat := invSboxTable / 2 ^ (8 * b) % 256

/-- Multiplication by x in GF(2^8). -/
def xtime (b : Nat) : Nat := if b < 128 then 2 * b else (2 * b) ^^^ 0x11b

/-- Multiplication in GF(2^8), `n` bits of the multiplier. -/
def gmulFuel : Nat → Nat → Nat → Nat
  | 0, _, _ => 0
  | n + 1, a, b => (if b % 2 = 1 then a else 0) ^^^ gmulFuel n (xtime a) (b / 2)

def gmul (a b : Nat) : Nat := gmulFuel 8 a b

/-- SubBytes. -/
def subBytes (st : Bs) : Bs := st.map sbox
def invSubBytes (st : Bs) : Bs := st.map invSbox

/-- ShiftRows: byte r + 4c takes the byte of row r, column c + r. -/
def shiftRows (st : Bs) : Bs :=
  (List.range 16).map (fun i => st.getD (i % 4 + 4 * ((i / 4 + i % 4) % 4)) 0)

def invShiftRows (st : Bs) : Bs :=
  (List.range 16).map (fun i => st.getD (i % 4 + 4 * ((i / 4 + 4 - i % 4) % 4)) 0)

/-- One column through a MixColumns row (a, b, c, d). -/
def mixCol (m : Bs) (col : Bs) : Bs :=
  (List.range 4).map (fun r =>
    (List.range 4).foldl (fun acc j => acc ^^^ gmul (col.getD j 0) (m.getD ((j + 4 - r) % 4) 0)) 0)

def mixColumns (st : Bs) : Bs := ((blocksOf 4 st).map (mixCol [2, 3, 1, 1])).flatten
def invMixColumns (st : Bs) : Bs := ((blocksOf 4 st).map (mixCol [14, 11, 13, 9])).flatten

/-- The number of rounds: 10 for 128-bit keys, 14 for 256-bit keys. -/
def rounds (key : Bs) : Nat := key.length / 4 + 6

/-- Round constants: x^(i-1) in GF(2^8). -/
def rcon : Nat → Nat
  | 0 => 0x8d
  | n + 1 => xtime (rcon n)

/-- The next word of the key schedule: `i` is its index, `prev` the word before it, `back` the word Nk before it. -/
def nextWord (nk i : Nat) (prev back : Bs) : Bs :=
  let t :=
    if i % nk = 0 then
      xorBs (subBytes (prev.drop 1 ++ prev.take 1)) [rcon (i / nk), 0, 0, 0]
    else if nk > 6 ∧ i % nk = 4 then subBytes prev
    else prev
  xorBs back t

/-- Extends the schedule by `n` words; the list holds the words newest first. -/
def expandFuel (nk : Nat) : Nat → List Bs → List Bs
  | 0, ws => ws
  | n + 1, ws => expandFuel nk n (nextWord nk ws.length (ws.getD 0 []) (ws.getD (nk - 1) []) :: ws)

/-- The round keys, 16 bytes each, in order. -/
def roundKeys (key : Bs) : List Bs :=
  let nk := key.length / 4
  let ws := (expandFuel nk (4 * (rounds key + 1) - nk) (blocksOf 4 key).reverse).reverse
  blocksOf 16 ws.flatten

/-- The cipher of FIPS 197 on one block, with its round keys. -/
def encRounds : List Bs → Bs → Bs
  | [], st => st
  | [k], st => xorBs (shiftRows (subBytes st)) k
  | k :: ks, st => encRounds ks (xorBs (mixColumns (shiftRows (subBytes st))) k)

def encryptWith (ks : List Bs) (blk : Bs) : Bs :=
  match ks with
  | [] => blk
  | k :: rest => encRounds rest (xorBs blk k)

/-- The inverse cipher; the round keys come last first. -/
def decRounds : List Bs → Bs → Bs
  | [], st => st
  | [k], st => xorBs (invSubBytes (invShiftRows st)) k
  | k :: ks, st => decRounds ks (invMixColumns (xorBs (invSubBytes (invShiftRows st)) k))

def decryptWith (ks : List Bs) (blk : Bs) : Bs :=
  match ks.reverse with
  | [] => blk
  | k :: rest => decRounds rest (xorBs blk k)

def encrypt (key blk : Bs) : Bs := encryptWith (roundKeys key) blk
def decrypt (key blk : Bs) : Bs := decryptWith (roundKeys key) blk

/-! ## XTS (IEEE 1619) -/

/-- Multiplication of a tweak, a little-endian number, by α. -/
def xtsDouble (t : Nat) : Nat := if t < 2 ^ 127 then 2 * t else (2 * t - 2 ^ 128) ^^^ 0x87

def xtsBlock (enc : Bool) (ks : List Bs) (t : Nat) (blk : Bs) : Bs :=
  let tw := toLe 16 t
  xorBs (if enc then encryptWith ks (xorBs blk tw) else decryptWith ks (xorBs blk tw)) tw

/-- The blocks of a unit from tweak `t`, with ciphertext stealing on the last two when the length is no multiple of 16. -/
def xtsGo (enc : Bool) (ks : List Bs) : Nat → Nat → Bs → Bs
  | 0, _, _ => []
  | fuel + 1, t, bs =>
    if bs.length = 0 then []
    else if bs.length ≤ 16 then xtsBlock enc ks t bs
    else if bs.length < 32 then
      let t2 := xtsDouble t
      let (ta, tb) := if enc then (t, t2) else (t2, t)
      let first := xtsBlock enc ks ta (bs.take 16)
      let tail := bs.drop 16
      xtsBlock enc ks tb (tail ++ first.drop tail.length) ++ first.take tail.length
    else xtsBlock enc ks t (bs.take 16) ++ xtsGo enc ks fuel (xtsDouble t) (bs.drop 16)

/-- XTS on one data unit number `u`; the key is the two halves, data key first. -/
def xts (enc : Bool) (key : Bs) (u : Nat) (bs : Bs) : Bs :=
  let h := key.length / 2
  let t := valLe (encrypt (key.drop h) (toLe 16 u))
  xtsGo enc (roundKeys (key.take h)) (bs.length / 16 + 1) t bs

/-! ## CTR and CBC (SP 800-38A) -/

/-- Keystream blocks from successive counter blocks `ctr 0`, `ctr 1`, …, applied to the data. -/
def ctrWith (ks : List Bs) (ctr : Nat → Bs) (bs : Bs) : Bs :=
  (((blocksOf 16 bs).zipIdx).map (fun p => xorBs p.1 (encryptWith ks (ctr p.2)))).flatten

/-- CTR on unit `u` (R107): `u` little-endian, then the block index big-endian. -/
def ctr (key : Bs) (u : Nat) (bs : Bs) : Bs :=
  ctrWith (roundKeys key) (fun i => toLe 8 u ++ toBe 8 i) bs

def cbcEnc (ks : List Bs) : Bs → List Bs → Bs
  | _, [] => []
  | iv, b :: rest => let c := encryptWith ks (xorBs b iv); c ++ cbcEnc ks c rest

def cbcDec (ks : List Bs) : Bs → List Bs → Bs
  | _, [] => []
  | iv, c :: rest => xorBs (decryptWith ks c) iv ++ cbcDec ks c rest

/-- CBC with IV the 16-byte little-endian value `u` (R107). -/
def cbc (enc : Bool) (key : Bs) (u : Nat) (bs : Bs) : Bs :=
  let ks := roundKeys key
  if enc then cbcEnc ks (toLe 16 u) (blocksOf 16 bs) else cbcDec ks (toLe 16 u) (blocksOf 16 bs)

/-! ## GCM (SP 800-38D) and GCM-SIV (RFC 8452) -/

/-- Multiplication in GF(2^128) of GCM, blocks as big-endian numbers: `n` bits of `x`, from the top. -/
def gfMulFuel : Nat → Nat → Nat → Nat → Nat
  | 0, _, _, z => z
  | n + 1, x, v, z =>
    let z' := if x.testBit n then z ^^^ v else z
    let v' := if v % 2 = 1 then (v / 2) ^^^ (0xe1 * 2 ^ 120) else v / 2
    gfMulFuel n x v' z'

def gfMul (x y : Nat) : Nat := gfMulFuel 128 x y 0

/-- GHASH of whole blocks under `h`, from a running value. -/
def ghashFrom (h y : Nat) (bs : Bs) : Nat :=
  (blocksOf 16 bs).foldl (fun y b => gfMul (y ^^^ valBe b) h) y

/-- The GHASH input of AAD and text: both padded, then their bit lengths. -/
def ghashInput (aad text : Bs) : Bs :=
  padTo 16 aad ++ padTo 16 text ++ toBe 8 (8 * aad.length) ++ toBe 8 (8 * text.length)

def inc32 (j : Bs) (i : Nat) : Bs := j.take 12 ++ toBe 4 ((valBe (j.drop 12) + i) % 2 ^ 32)

/-- GCM with a 96-bit nonce: the keystream applied to the data from counter 2, and the tag of the ciphertext. -/
def gcmCrypt (key nonce bs : Bs) : Bs :=
  ctrWith (roundKeys key) (inc32 (nonce ++ [0, 0, 0, 2])) bs

def gcmTag (key nonce aad ct : Bs) : Bs :=
  let ks := roundKeys key
  let h := valBe (encryptWith ks (zeros 16))
  xorBs (toBe 16 (ghashFrom h 0 (ghashInput aad ct))) (encryptWith ks (nonce ++ [0, 0, 0, 1]))

/-- Encrypts: (ciphertext, tag). -/
def gcmSeal (key nonce aad pt : Bs) : Bs × Bs :=
  let ct := gcmCrypt key nonce pt
  (ct, gcmTag key nonce aad ct)

/-- Decrypts: the plaintext, none when the tag does not match. -/
def gcmOpen (key nonce aad ct tag : Bs) : Option Bs :=
  if gcmTag key nonce aad ct = tag then some (gcmCrypt key nonce ct) else none

/-- The per-nonce keys of GCM-SIV: 16 bytes of authentication key, then the encryption key. -/
def sivKeys (key nonce : Bs) : Bs × Bs :=
  let ks := roundKeys key
  let half := fun i => (encryptWith ks (toLe 4 i ++ nonce)).take 8
  let n := if key.length = 32 then 6 else 4
  (half 0 ++ half 1, ((List.range (n - 2)).map (fun i => half (i + 2))).flatten)

/-- POLYVAL by GHASH of byte-reversed blocks. -/
def polyval (h bs : Bs) : Bs :=
  let hr := valBe h.reverse
  let h' := if hr % 2 = 1 then (hr / 2) ^^^ (0xe1 * 2 ^ 120) else hr / 2
  (toBe 16 ((blocksOf 16 bs).foldl (fun y b => gfMul (y ^^^ valBe b.reverse) h') 0)).reverse

def sivTag (ak ek nonce aad pt : Bs) : Bs :=
  let s := polyval ak (padTo 16 aad ++ padTo 16 pt ++ toLe 8 (8 * aad.length) ++ toLe 8 (8 * pt.length))
  let x := xorBs (s.take 12) nonce ++ s.drop 12
  encrypt ek (x.take 15 ++ [(x.getD 15 0) % 128])

/-- The AES-CTR of GCM-SIV: a 32-bit little-endian counter in the first four bytes. -/
def sivCtr (ek tag bs : Bs) : Bs :=
  let top := (tag.drop 4).take 11 ++ [(tag.getD 15 0) % 128 + 128]
  ctrWith (roundKeys ek) (fun i => toLe 4 ((valLe (tag.take 4) + i) % 2 ^ 32) ++ top) bs

def sivSeal (key nonce aad pt : Bs) : Bs × Bs :=
  let (ak, ek) := sivKeys key nonce
  let tag := sivTag ak ek nonce aad pt
  (sivCtr ek tag pt, tag)

def sivOpen (key nonce aad ct tag : Bs) : Option Bs :=
  let (ak, ek) := sivKeys key nonce
  let pt := sivCtr ek tag ct
  if sivTag ak ek nonce aad pt = tag then some pt else none

/-! ## KW and KWP (SP 800-38F, RFC 3394, RFC 5649) -/

/-- One step of the wrapping function W on (A, R-list rotated): t counts from 1. -/
def wrapStep (ks : List Bs) (t : Nat) (a : Bs) (r : Bs) : Bs × Bs :=
  let b := encryptWith ks (a ++ r)
  (xorBs (b.take 8) (toBe 8 t), b.drop 8)

def wrapGo (ks : List Bs) : Nat → Nat → Bs → List Bs → Bs × List Bs
  | 0, _, a, rs => (a, rs)
  | n + 1, t, a, rs =>
    match rs with
    | [] => (a, rs)
    | r :: rest => let (a', r') := wrapStep ks t a r; wrapGo ks n (t + 1) a' (rest ++ [r'])

/-- W of SP 800-38F on A and n ≥ 2 semiblocks. -/
def wrapW (key a : Bs) (rs : List Bs) : Bs :=
  let (a', rs') := wrapGo (roundKeys key) (6 * rs.length) 1 a rs
  a' ++ rs'.flatten

def unwrapGo (ks : List Bs) : Nat → Bs → List Bs → Bs × List Bs
  | 0, a, rs => (a, rs)
  | n + 1, a, rs =>
    match rs with
    | [] => (a, rs)
    | r :: rest =>
      let b := decryptWith ks (xorBs a (toBe 8 (n + 1)) ++ r)
      unwrapGo ks n (b.take 8) (rest ++ [b.drop 8])

/-- The inverse of W: (A, semiblocks). -/
def unwrapW (key : Bs) (c : Bs) : Bs × List Bs :=
  let rs := (blocksOf 8 (c.drop 8))
  let (a, out) := unwrapGo (roundKeys key) (6 * rs.length) (c.take 8) rs.reverse
  (a, out.reverse)

/-- KWP of a byte string. -/
def kwp (key p : Bs) : Bs :=
  let a := [0xa6, 0x59, 0x59, 0xa6] ++ toBe 4 p.length
  let q := padTo 8 p
  if q.length ≤ 8 then encrypt key (a ++ q) else wrapW key a (blocksOf 8 q)

/-- KWP unwrap: none when the integrity check fails. -/
def kwpUnwrap (key c : Bs) : Option Bs :=
  let (a, q) := if c.length = 16 then let b := decrypt key c; (b.take 8, b.drop 8)
                else let (a, rs) := unwrapW key c; (a, rs.flatten)
  let n := valBe (a.drop 4)
  if a.take 4 = [0xa6, 0x59, 0x59, 0xa6] ∧ n ≤ q.length ∧ q.length < n + 8 ∧ n ≠ 0
      ∧ (q.drop n).all (fun b => b == 0) then some (q.take n) else none

end Sys2Proof.Machine.Aes
end

