-- ==== Sys2Proof/Machine/CryptoHash.lean ====
section
/-! DEFINITION. SHA-1, SHA-2 (FIPS 180-4), SHA-3 (FIPS 202), CRC64 (ECMA-182), HMAC, HKDF, PBKDF2 and the scrypt core, as R87
names them. Messages are lists of bytes held as numbers. -/

namespace Sys2Proof.Machine.Hash

open Sys2Proof.Machine

/-! ## The constants of SHA-2: fractional parts of roots of primes (FIPS 180-4, 4.2 and 5.3) -/

/-- The first 80 primes: every composite below 410 has a factor of at most 19. -/
def primes80 : List Nat :=
  (List.range' 2 408).filter (fun n => ([2, 3, 5, 7, 11, 13, 17, 19] : List Nat).all (fun p => n == p || n % p != 0))

/-- Newton's steps from above towards the `k`-th root of `n`, which stay once they are there. -/
def rootFrom (k n : Nat) : Nat → Nat → Nat
  | 0, x => x
  | step + 1, x => let y := ((k - 1) * x + n / x ^ (k - 1)) / k; rootFrom k n step (bif y.ble x then y else x)

/-- The first 64 bits of the fractional part of the `k`-th root of `p`, for a root below 8. -/
def rootBits (k p : Nat) : Nat := rootFrom k (p * 2 ^ (64 * k)) 16 (2 ^ 67) % 2 ^ 64

/-- Cube roots give the round constants of SHA-512; their upper halves are those of SHA-256. -/
def cubeBits : List Nat := primes80.map (rootBits 3)

/-- Square roots of the first eight primes give the initial values of SHA-512, and by their upper halves of SHA-256; those of
the next eight give the initial values of SHA-384. -/
def squareBits : List Nat := (primes80.take 16).map (rootBits 2)

/-- Round constants of Keccak-f[1600]. -/
def keccakRc : List Nat :=
  [0x1, 0x8082, 0x800000000000808a, 0x8000000080008000,
   0x808b, 0x80000001, 0x8000000080008081, 0x8000000000008009,
   0x8a, 0x88, 0x80008009, 0x8000000a,
   0x8000808b, 0x800000000000008b, 0x8000000000008089, 0x8000000000008003,
   0x8000000000008002, 0x8000000000000080, 0x800a, 0x800000008000000a,
   0x8000000080008081, 0x8000000000008080, 0x80000001, 0x8000000080008008]

/-- Rotation offsets of Keccak-f[1600], lane x + 5y. -/
def keccakRot : List Nat :=
  [0, 1, 62, 28, 27, 36, 44, 6, 55, 20, 3, 10, 43, 25, 39, 41, 45, 15, 21, 8, 18, 2, 61, 56, 14]

/-! ## SHA-2 and SHA-1 -/

/-- Merkle–Damgård padding for blocks of `b` bytes with an `l`-byte big-endian length. -/
def mdPad (b l : Nat) (m : Bs) : Bs :=
  let z := (b - (m.length + 1 + l) % b) % b
  m ++ [0x80] ++ zeros z ++ toBe l (8 * m.length)

/-- A SHA-2 family: its word width, its round constants, the rotations of its upper and lower sigma functions, and the shift
that ends each lower one. -/
structure Sha2 where
  w      : Nat
  consts : List Nat
  upper0 : List Nat
  upper1 : List Nat
  lower0 : List Nat × Nat
  lower1 : List Nat × Nat
  deriving DecidableEq, Repr

def sha2w32 : Sha2 :=
  { w := 32, consts := (cubeBits.take 64).map (fun k => k / 2 ^ 32), upper0 := [2, 13, 22], upper1 := [6, 11, 25],
    lower0 := ([7, 18], 3), lower1 := ([17, 19], 10) }

def sha2w64 : Sha2 :=
  { w := 64, consts := cubeBits, upper0 := [28, 34, 39], upper1 := [14, 18, 41], lower0 := ([1, 8], 7),
    lower1 := ([19, 61], 6) }

/-- An upper sigma function: the exclusive or of rotations; a lower one takes a shift besides. -/
def Sha2.upper (p : Sha2) (rs : List Nat) (x : Nat) : Nat := (rs.map (rotr p.w x)).foldl (fun u v => u ^^^ v) 0
def Sha2.lower (p : Sha2) (l : List Nat × Nat) (x : Nat) : Nat := p.upper l.1 x ^^^ (x / 2 ^ l.2)

/-- A round on the working words a to h, where `x` is the round constant and the schedule word together. -/
def Sha2.round (p : Sha2) (v : List Nat) (x : Nat) : List Nat :=
  match v with
  | a :: b :: c :: d :: e :: f :: g :: rest =>
    -- where e has a one the bit of f, elsewhere that of g; and the bit that two of a, b, c agree on
    let choice := g ^^^ (e &&& (f ^^^ g))
    let most := (a &&& b) ||| (c &&& (a ||| b))
    let t := rest.headD 0 + p.upper p.upper1 e + choice + x
    ((t + p.upper p.upper0 a + most) % 2 ^ p.w) :: a :: b :: c :: ((d + t) % 2 ^ p.w) :: [e, f, g]
  | _ => v

/-- The schedule word after 16 others, given oldest first. -/
def Sha2.scheduled (p : Sha2) (win : List Nat) : Nat :=
  (p.lower p.lower1 (win.getD 14 0) + win.getD 9 0 + p.lower p.lower0 (win.getD 1 0) + win.getD 0 0) % 2 ^ p.w

/-- All rounds: the schedule's last 16 words are held, the one that a round uses first; each round adds one at the end. -/
def Sha2.rounds (p : Sha2) : List Nat → List Nat → List Nat → List Nat
  | [], _, v => v
  | k :: ks, win, v =>
    p.rounds ks (win.drop 1 ++ [p.scheduled win]) (p.round v (k + win.getD 0 0))

/-- Takes one block into the chaining words. -/
def Sha2.block (p : Sha2) (h : List Nat) (blk : Bs) : List Nat :=
  List.zipWith (fun a b => (a + b) % 2 ^ p.w) h (p.rounds p.consts ((blocksOf (p.w / 8) blk).map valBe) h)

/-- The digest from an initial value, cut to `n` bytes. -/
def Sha2.hash (p : Sha2) (iv : List Nat) (n : Nat) (m : Bs) : Bs :=
  let h := (blocksOf (2 * p.w) (mdPad (2 * p.w) (p.w / 4) m)).foldl p.block iv
  ((h.map (toBe (p.w / 8))).flatten).take n

/-- Initial values. -/
def init256 : List Nat := (squareBits.take 8).map (fun x => x / 2 ^ 32)
def init384 : List Nat := squareBits.drop 8
def init512 : List Nat := squareBits.take 8

def sha256 (m : Bs) : Bs := sha2w32.hash init256 32 m
def sha384 (m : Bs) : Bs := sha2w64.hash init384 48 m
def sha512 (m : Bs) : Bs := sha2w64.hash init512 64 m

/-- One round of SHA-1. -/
def sha1Round (v : List Nat) (p : Nat × Nat) : List Nat :=
  match v with
  | [a, b, c, d, e] =>
    let t := p.2
    let nb := 2 ^ 32 - 1 - b
    let f := if t < 20 then (b &&& c) ^^^ (nb &&& d) else if t < 40 then b ^^^ c ^^^ d
      else if t < 60 then (b &&& c) ^^^ (b &&& d) ^^^ (c &&& d) else b ^^^ c ^^^ d
    let k := if t < 20 then 0x5a827999 else if t < 40 then 0x6ed9eba1 else if t < 60 then 0x8f1bbcdc else 0xca62c1d6
    [(rotl 32 a 5 + f + e + k + p.1) % 2 ^ 32, a, rotl 32 b 30, c, d]
  | _ => v

def sha1Sched : Nat → List Nat → List Nat
  | 0, ws => ws
  | n + 1, ws =>
    sha1Sched n (rotl 32 (ws.getD 2 0 ^^^ ws.getD 7 0 ^^^ ws.getD 13 0 ^^^ ws.getD 15 0) 1 :: ws)

def sha1 (m : Bs) : Bs :=
  let iv := [0x67452301, 0xefcdab89, 0x98badcfe, 0x10325476, 0xc3d2e1f0]
  let h := (blocksOf 64 (mdPad 64 8 m)).foldl (fun h blk =>
    let ws := (sha1Sched 64 ((blocksOf 4 blk).map valBe).reverse).reverse
    List.zipWith (fun a b => (a + b) % 2 ^ 32) h (ws.zipIdx.foldl sha1Round h)) iv
  (h.map (toBe 4)).flatten

/-! ## SHA-3 -/

/-- One round of Keccak-f[1600] on 25 lanes. -/
def keccakRound (a : List Nat) (rc : Nat) : List Nat :=
  let c := (List.range 5).map (fun x => (List.range 5).foldl (fun v y => v ^^^ a.getD (x + 5 * y) 0) 0)
  let d := (List.range 5).map (fun x => c.getD ((x + 4) % 5) 0 ^^^ rotl 64 (c.getD ((x + 1) % 5) 0) 1)
  let t := (List.range 25).map (fun i => rotl 64 (a.getD i 0 ^^^ d.getD (i % 5) 0) (keccakRot.getD i 0))
  -- π: lane (y, 2x + 3y) takes lane (x, y); read back: lane (x, y) comes from (x + 3y, x)
  let b := (List.range 25).map (fun i => t.getD ((i % 5 + 3 * (i / 5)) % 5 + 5 * (i % 5)) 0)
  let e := (List.range 25).map (fun i =>
    b.getD i 0 ^^^ ((2 ^ 64 - 1 - b.getD ((i % 5 + 1) % 5 + 5 * (i / 5)) 0) &&& b.getD ((i % 5 + 2) % 5 + 5 * (i / 5)) 0))
  match e with
  | x :: rest => (x ^^^ rc) :: rest
  | [] => []

def keccakF (a : List Nat) : List Nat := keccakRc.foldl keccakRound a

/-- Absorbs padded blocks of `r` bytes. -/
def absorb (r : Nat) (m : Bs) (dom : Nat) : List Nat :=
  let pl := r - m.length % r
  let pad := if pl = 1 then [dom + 0x80] else [dom] ++ zeros (pl - 2) ++ [0x80]
  (blocksOf r (m ++ pad)).foldl (fun st blk =>
    keccakF (xorBs st (((blocksOf 8 blk).map valLe) ++ zeros (25 - r / 8)))) (zeros 25)

/-- Squeezes `n` blocks of `r` bytes. -/
def squeeze (r : Nat) : Nat → List Nat → Bs
  | 0, _ => []
  | n + 1, st => ((st.map (toLe 8)).flatten).take r ++ squeeze r n (keccakF st)

def sponge (r dom outLen : Nat) (m : Bs) : Bs := (squeeze r (outLen / r + 1) (absorb r m dom)).take outLen

def sha3_256 (m : Bs) : Bs := sponge 136 0x06 32 m
def sha3_512 (m : Bs) : Bs := sponge 72 0x06 64 m
def shake128 (n : Nat) (m : Bs) : Bs := sponge 168 0x1f n m
def shake256 (n : Nat) (m : Bs) : Bs := sponge 136 0x1f n m

/-! ## CRC64 (R87) -/

def crcBit (c : Nat) : Nat := if c < 2 ^ 63 then 2 * c else (2 * c - 2 ^ 64) ^^^ 0x42f0e1eba9ea3693

def crcByte (c b : Nat) : Nat := (List.range 8).foldl (fun c _ => crcBit c) (c ^^^ (b * 2 ^ 56))

def crc64 (m : Bs) : Nat := m.foldl crcByte 0

/-! ## HMAC, HKDF, PBKDF2 -/

/-- The hash functions an operation can name. -/
inductive Alg where
  | sha1 | sha256 | sha384 | sha512 | sha3_256 | sha3_512
  deriving DecidableEq, Repr

def digest : Alg → Bs → Bs
  | .sha1, m => sha1 m
  | .sha256, m => sha256 m
  | .sha384, m => sha384 m
  | .sha512, m => sha512 m
  | .sha3_256, m => Hash.sha3_256 m
  | .sha3_512, m => Hash.sha3_512 m

def outLen : Alg → Nat
  | .sha1 => 20 | .sha256 => 32 | .sha384 => 48 | .sha512 => 64 | .sha3_256 => 32 | .sha3_512 => 64

def blockLen : Alg → Nat
  | .sha1 => 64 | .sha256 => 64 | .sha384 => 128 | .sha512 => 128 | .sha3_256 => 136 | .sha3_512 => 72

/-- HMAC (FIPS 198-1). -/
def hmac (a : Alg) (key m : Bs) : Bs :=
  let b := blockLen a
  let k0 := if key.length > b then digest a key else key
  let k := k0 ++ zeros (b - k0.length)
  digest a (k.map (fun x => x ^^^ 0x5c) ++ digest a (k.map (fun x => x ^^^ 0x36) ++ m))

def hkdfExpand (a : Alg) (prk info : Bs) : Nat → Nat → Bs → Bs
  | 0, _, _ => []
  | n + 1, i, prev => let t := hmac a prk (prev ++ info ++ [i]); t ++ hkdfExpand a prk info n (i + 1) t

/-- HKDF (RFC 5869). -/
def hkdf (a : Alg) (ikm salt info : Bs) (len : Nat) : Bs :=
  (hkdfExpand a (hmac a salt ikm) info (len / outLen a + 1) 1 []).take len

def pbkdf2F (a : Alg) (pwd : Bs) : Nat → Bs → Bs → Bs
  | 0, _, acc => acc
  | n + 1, u, acc => let u' := hmac a pwd u; pbkdf2F a pwd n u' (xorBs acc u')

/-- PBKDF2 (SP 800-132). -/
def pbkdf2 (a : Alg) (pwd salt : Bs) (iters len : Nat) : Bs :=
  (((List.range (len / outLen a + 1)).map (fun i =>
    let u := hmac a pwd (salt ++ toBe 4 (i + 1))
    pbkdf2F a pwd (iters - 1) u u)).flatten).take len

end Sys2Proof.Machine.Hash
end

