-- ==== Sys2Proof/Machine/NdlState.lean ====
section
/-! DEFINITION. The state of one Needle engine (chapters 07 to 11), as plain data; State holds sixty-five of them, the last
being the Fitter's engine. -/

namespace Sys2Proof.Machine

open Sys2Proof

/-- Value tags (R271); the reserved tags 8 to 14 never exist. -/
inductive Tag where
  | raw | int | ptr | handle | key | ctx | fp | code | poison
  deriving DecidableEq, Repr

/-- A value with its tag (R192); 64-bit places use bits [63:0]. -/
structure Val where
  v   : W128
  tag : Tag
  deriving DecidableEq, Repr

/-- The function units, in the order of R222. -/
inductive NUnit where
  | alu0 | alu1 | shf | mul | div | lsu | fpu | vec | bigm | aesr | shar | ntt | tag | br | loop | strm | evt | time | sys
  deriving DecidableEq, Repr

/-- A fault of a bundle or of a unit (R295): cause, ECAUSE.sub, the move and bundle ELOC names, whether a store fault is
imprecise, EADDR, whether the faulting read removes its queue entry, and the record of a failed load it uses up. -/
structure Flt where
  cause : Nat
  sub   : Nat
  move  : Option Nat
  bundle : Option Nat
  imprecise : Bool
  addr  : Option Nat
  pop   : Bool
  load  : Option Nat
  deriving DecidableEq, Repr

/-- A restart record of a gather or scatter (R269): form is the VEC trigger offset; bundle and move are the trigger's. -/
structure Restart where
  form : Nat
  p    : Val
  a    : Val
  b    : Val
  vd   : Val
  ew   : Val
  n    : Nat
  bundle : Nat
  move : Nat
  deriving DecidableEq, Repr

/-- An element fault found and not yet taken (R265, R266): the record, the element, the underlying cause, its address. -/
structure ElemFlt where
  rec_  : Restart
  element : Nat
  cause : Nat
  addr  : Nat
  deriving DecidableEq, Repr

/-- An entry of a result queue (R198, R223). A DIV entry is a pair, `halves` marking what was read (bit 0 r, bit 1 rem); `fp`
is the FP state word after an FPU operation; `late` an operation whose late operand is not latched; `mark` a post's
STRM.tag, or for the count of a fault-first gather 1 while its elements are out and the count plus 2 once they are done;
`addrs` the first byte of each half of a load (R294). -/
structure QEnt where
  val   : Val
  rem   : Val
  halves : Nat
  ready : Bool
  flt   : Option Flt
  fp    : Nat
  late  : Bool
  mark  : Nat
  addrs : List Nat
  deriving DecidableEq, Repr

/-- A pending direct write of a load (R239, R262, R306): for each register (0-63 G, 64-95 V) the bits written and their
data; the first byte of each half of the access; what its memory answered; for a gather its record, element width and the
element faults known; `ff` marks the fault-first form. -/
structure Direct where
  dsts  : List (Nat × W128 × W128)
  tag   : Tag
  addrs : List Nat
  bad   : Option (Nat × Nat)
  gather : Option Restart
  w     : Nat
  fail  : Option (Nat × Nat × Nat)
  ff    : Bool
  /-- of a gather: its elements with the first byte of each of their halves -/
  elems : List (Nat × List Nat)
  deriving DecidableEq, Repr

/-- A store-buffer entry (R241): internal-map address, bytes, slot kind (0 for an absolute address), the bundle and move of
its trigger, the number and privilege of that bundle, and for an element of a scatter its record and number. -/
structure SbEnt where
  addr  : Nat
  data  : List Byte
  kind  : Nat
  priv  : Nat
  bundle : Nat
  move  : Nat
  seq   : Nat
  elem  : Option (Restart × Nat)
  deriving DecidableEq, Repr

/-- A bounds slot (R238). -/
structure Slot where
  base  : Nat
  limit : Nat
  kind  : Nat
  ro    : Bool
  window : Nat
  minPriv : Nat
  deriving DecidableEq, Repr

/-- An active hardware loop (R217): passes not yet completed, first body bundle, last body bundle. -/
structure Loop where
  count : Nat
  start : Nat
  last  : Nat
  deriving DecidableEq, Repr

/-- Delay bundles still to execute and the target of a taken branch (R213). -/
structure Br where
  remain : Nat
  target : Option Nat
  deriving DecidableEq, Repr

/-- What the next bundle is the shadow of (R290, R291, R320). -/
inductive Shadow where
  | enter (svc : Nat)
  | leave (priv : Nat)
  | mode
  deriving DecidableEq, Repr

/-- A critical window (R299): cycles asked for, when they were asked for and when it opened (State.time). -/
structure Crit where
  asked : Nat
  since : Nat
  opened : Nat
  deriving DecidableEq, Repr

/-- An operation whose late port is not latched (R307): unit, offset, operands, VL, bank. -/
structure Late where
  unit : NUnit
  off  : Nat
  a    : Val
  b    : Val
  ew   : Val
  vl   : Nat
  bank : Nat
  deriving DecidableEq, Repr

/-- Exception and control state (R279-R302). -/
structure NExc where
  /-- system sockets 0x090-0x097, 0x0A0-0x0AF, 0x0B0-0x0B2 -/
  sys    : List (Nat × W128)
  epcTag : Tag
  handler : Bool
  heldPriv : Nat
  firstCause : Nat
  dlevel : Bool
  shadow : Option Shadow
  crit   : Option Crit
  irqs   : List Nat
  /-- an interrupt that a critical window held when it closed: due at the next boundary, whatever window opens before it (R299) -/
  owed   : Bool
  /-- an entry that waits for direct writes (R289 step 2) -/
  entering : Option (Flt × Option ElemFlt)
  deferred : Option ElemFlt
  /-- the restart record is due to resume before the bundle at EPC issues (R269) -/
  resuming : Bool
  storeFlt : Option (Flt × Option ElemFlt)
  deriving DecidableEq, Repr

/-- Memory side of an engine. -/
structure NMem where
  directs : List Direct
  /-- failed direct-write loads that no bundle has met: the registers of each (R242) -/
  regFlts : List (List Nat × Flt × Option ElemFlt)
  sbuf   : List SbEnt
  slots  : List (Nat × Slot)
  dstore : List (Nat × Byte)
  istore : List (Nat × Byte)
  /-- halfwords stored to since the last SYS.t.ifence: their versions, oldest first, and how many of them the latest bundle
  made (R317) -/
  stale  : List (Nat × List Nat × Nat)
  deriving DecidableEq, Repr

/-- SHAR's hash state (R248). -/
structure Shar where
  h    : List Nat
  vars : List Nat
  win  : List Nat
  ctr  : Nat
  mode : Nat
  key  : Bool
  deriving DecidableEq, Repr

/-- Unit-internal state (R243-R246, R254, R257, R268). -/
structure NUnits where
  bx     : List (Nat × (Nat × Bool))
  m      : Nat × Bool
  /-- BIGM operations in flight, oldest first; true for one that pushes -/
  bigmOps : List Bool
  shar   : Shar
  fp     : Nat
  evtGen : Nat
  longOp : List NUnit
  fence  : Bool
  late   : List Late
  vl     : Nat
  vsElem : Nat
  vsCause : Nat
  restart : Option Restart
  deriving DecidableEq, Repr

/-- The invocation a Needle runs (R123): the descriptor's SQ and cid, tenant, the buffers a Tenant post may name, the output
buffer; `flt` is the fault a handler has in hand, cause and ELOC content (R303). -/
structure Inv where
  sq     : Nat
  cid    : Nat
  tenant : Nat
  bufs   : List (Nat × Nat)
  out    : Nat × Nat
  flt    : Option (Nat × Nat)
  deriving DecidableEq, Repr

/-- One engine. `regs` is keyed 0-63 for G and 64-95 for V, `ports` by bank * 1024 + socket, `queues` by bank * 32 + unit
number; `seq` counts bundles issued, `done` is the address of the last completed one; `cycles` counts Needle cycles since
engine reset (R252). -/
structure Needle where
  pc     : Nat
  priv   : Nat
  regs   : List (Nat × Val)
  ports  : List (Nat × Val)
  queues : List (Nat × List QEnt)
  loops  : List Loop
  branch : Option Br
  /-- where a LOOP.t.go of count 0 in the bundle that runs continues (R217) -/
  skip : Option Nat
  /-- the mode bits in effect (R281, R320) and a mode write by another master that waits for a boundary (R321) -/
  remap  : Bool
  debug  : Bool
  modeReq : Bool
  /-- the bundle at `pc` has reached T and is held there (R305) -/
  held   : Bool
  done   : Nat
  seq    : Nat
  cycles : Nat
  tenant : Nat
  inv    : Option Inv
  x      : NExc
  m      : NMem
  u      : NUnits
  deriving DecidableEq, Repr

end Sys2Proof.Machine
end

