-- ==== Sys2Proof/Machine/RegMap.lean ====
section
/-! DEFINITION. The register map: one name for every field of every register the spec's register tables give
(BAR0, VF BAR0, the MSI-X tables and the PBA), with its place, width, access type (R10) and reset value. -/

namespace Sys2Proof.Machine

/-- The access types of R10. -/
inductive Access where
  | ro | rw | rw1c | wo | rwl | rws
  deriving DecidableEq, Repr

/-- Which window a register lies in: BAR0 of PF0 (R32) or VF BAR0 (R33). -/
inductive Space where
  | bar0 | vf
  deriving DecidableEq, Repr

/-- Every register field of the spec that is not reserved, named REGISTER_field. -/
inductive Fld where
  /-- R40, GLOBAL_ID.stepping -/
  | globalId_stepping
  /-- R40, GLOBAL_ID.needle_count -/
  | globalId_needleCount
  /-- R40, GLOBAL_ID.stitch_count -/
  | globalId_stitchCount
  /-- R40, GLOBAL_ID.device_id -/
  | globalId_deviceId
  /-- R40, GLOBAL_READY.bits -/
  | globalReady_bits
  /-- R40, GLOBAL_SETUP_LOCK.lock -/
  | globalSetupLock_lock
  /-- R40, GLOBAL_SETUP_LOCK.check_busy -/
  | globalSetupLock_checkBusy
  /-- R40, GLOBAL_SETUP_ERR.ring_assign -/
  | globalSetupErr_ringAssign
  /-- R40, GLOBAL_SETUP_ERR.host_area -/
  | globalSetupErr_hostArea
  /-- R40, GLOBAL_SETUP_ERR.bolt_partition -/
  | globalSetupErr_boltPartition
  /-- R40, GLOBAL_SETUP_ERR.ddr_spare -/
  | globalSetupErr_ddrSpare
  /-- R40, GLOBAL_SETUP_ERR.ddr_regions -/
  | globalSetupErr_ddrRegions
  /-- R40, GLOBAL_SETUP_ERR.write_during_check -/
  | globalSetupErr_writeDuringCheck
  /-- R40, GLOBAL_SETUP_ERR.lock_refused -/
  | globalSetupErr_lockRefused
  /-- R40, GLOBAL_PROFILE.requested -/
  | globalProfile_requested
  /-- R40, GLOBAL_PROFILE.active -/
  | globalProfile_active
  /-- R40, GLOBAL_PROFILE.switching -/
  | globalProfile_switching
  /-- R54, RING_DB_BASE.addr -/
  | ringDbBase_addr
  /-- R54, RING_SUM_BASE.addr -/
  | ringSumBase_addr
  /-- R54, RING_STATUS_BASE.addr -/
  | ringStatusBase_addr
  /-- R54, RING_CTRL.force_sequence -/
  | ringCtrl_forceSequence
  /-- R54, RING_CTRL.sequence -/
  | ringCtrl_sequence
  /-- R54, RING_CTRL.fetch_max -/
  | ringCtrl_fetchMax
  /-- R54, RING_POLL.hot_max -/
  | ringPoll_hotMax
  /-- R54, RING_POLL.warm_max -/
  | ringPoll_warmMax
  /-- R54, RING_POLL.promote_polls -/
  | ringPoll_promotePolls
  /-- R54, RING_POLL.demote_polls -/
  | ringPoll_demotePolls
  /-- R54, RING_HOLD_LIMIT.limit_ms -/
  | ringHoldLimit_limitMs
  /-- R54, RING_STAT.cas_retries -/
  | ringStat_casRetries
  /-- R54, RING_STAT.held -/
  | ringStat_held
  /-- R54, RING_GROUP.function -/
  | ringGroup_function
  /-- R54, RING_GROUP.valid -/
  | ringGroup_valid
  /-- R54, RING_SQ_BASE.addr -/
  | ringSqBase_addr
  /-- R54, RING_CQ_BASE.addr -/
  | ringCqBase_addr
  /-- R54, RING_SQ_CFG.enable -/
  | ringSqCfg_enable
  /-- R54, RING_SQ_CFG.size_log2 -/
  | ringSqCfg_sizeLog2
  /-- R54, RING_SQ_CFG.class_pin -/
  | ringSqCfg_classPin
  /-- R54, RING_SQ_CFG.cq -/
  | ringSqCfg_cq
  /-- R54, RING_CQ_CFG.enable -/
  | ringCqCfg_enable
  /-- R54, RING_CQ_CFG.size_log2 -/
  | ringCqCfg_sizeLog2
  /-- R54, RING_CQ_CFG.irq_enable -/
  | ringCqCfg_irqEnable
  /-- R54, RING_CQ_CFG.vector -/
  | ringCqCfg_vector
  /-- R54, RING_CQ_COAL.count_m1 -/
  | ringCqCoal_countM1
  /-- R54, RING_CQ_COAL.timer_us -/
  | ringCqCoal_timerUs
  /-- R54, RING_SQ_STATE.head -/
  | ringSqState_head
  /-- R54, RING_SQ_STATE.class -/
  | ringSqState_class
  /-- R54, RING_SQ_STATE.stopped -/
  | ringSqState_stopped
  /-- R54, RING_SQ_STATE.last_seq -/
  | ringSqState_lastSeq
  /-- R54, RING_CQ_STATE.tail -/
  | ringCqState_tail
  /-- R54, RING_CQ_STATE.phase -/
  | ringCqState_phase
  /-- R54, RING_CQ_STATE.stopped -/
  | ringCqState_stopped
  /-- R55, RING_VF_INFO.groups_owned -/
  | ringVfInfo_groupsOwned
  /-- R55, RING_VF_INFO.groups_visible -/
  | ringVfInfo_groupsVisible
  /-- R55, RING_VF_LOCK.lock -/
  | ringVfLock_lock
  /-- R55, RING_VF_LOCK.check_busy -/
  | ringVfLock_checkBusy
  /-- R55, RING_VF_LOCK.refused -/
  | ringVfLock_refused
  /-- R55, RING_VF_GROUP.group0 -/
  | ringVfGroup_group0
  /-- R55, RING_VF_GROUP.group1 -/
  | ringVfGroup_group1
  /-- R55, RING_VF_GROUP.group2 -/
  | ringVfGroup_group2
  /-- R55, RING_VF_GROUP.group3 -/
  | ringVfGroup_group3
  /-- R156, VT_BASE.addr -/
  | vtBase_addr
  /-- R156, VT_EXT.addr -/
  | vtExt_addr
  /-- R156, VT_EXT.size_64mib -/
  | vtExt_size64mib
  /-- R156, VT_CTRL.size_m20 -/
  | vtCtrl_sizeM20
  /-- R156, VT_CTRL.key_slot_mib -/
  | vtCtrl_keySlotMib
  /-- R156, VT_TIME_BASE.unix_s -/
  | vtTimeBase_unixS
  /-- R156, VT_STATUS.live -/
  | vtStatus_live
  /-- R156, VT_STATUS.sweep_running -/
  | vtStatus_sweepRunning
  /-- R156, VT_STATUS.epoch -/
  | vtStatus_epoch
  /-- R156, VT_STATUS.sweep_next -/
  | vtStatus_sweepNext
  /-- R156, VT_SESSIONS.open -/
  | vtSessions_open
  /-- R156, VT_CACHE_STAT.hits -/
  | vtCacheStat_hits
  /-- R156, VT_CACHE_STAT.misses -/
  | vtCacheStat_misses
  /-- R156, VT_SHARD.base -/
  | vtShard_base
  /-- R156, VT_SHARD.size -/
  | vtShard_size
  /-- R191, SHT_CTRL.chunk_kib -/
  | shtCtrl_chunkKib
  /-- R191, SHT_CTRL.inline_ddr -/
  | shtCtrl_inlineDdr
  /-- R191, SHT_SBUF_BASE.offset -/
  | shtSbufBase_offset
  /-- R191, SHT_STAT.rerun -/
  | shtStat_rerun
  /-- R191, SHT_STAT.buf_wait -/
  | shtStat_bufWait
  /-- R191, SHT_STAT.collided -/
  | shtStat_collided
  /-- R191, SHT_BYTES.bytes -/
  | shtBytes_bytes
  /-- R191, SHT_RR_STATE.in_flight -/
  | shtRrState_inFlight
  /-- R191, SHT_RR_STATE.waiting -/
  | shtRrState_waiting
  /-- R191, SHT_RR_STATE.retired -/
  | shtRrState_retired
  /-- R191, STC_SELFTEST.interval_ms -/
  | stcSelftest_intervalMs
  /-- R191, STC_PIPE_STATE.ready -/
  | stcPipeState_ready
  /-- R191, STC_PIPE_STATE.retired -/
  | stcPipeState_retired
  /-- R191, STC_PIPE_STATE.gated -/
  | stcPipeState_gated
  /-- R191, STC_PIPE_STATE.self_test -/
  | stcPipeState_selfTest
  /-- R191, STC_PIPE_STATE.last_test_failed -/
  | stcPipeState_lastTestFailed
  /-- R191, STC_PIPE_STATE.ks_slots -/
  | stcPipeState_ksSlots
  /-- R191, STC_PIPE_STATE.job_faults -/
  | stcPipeState_jobFaults
  /-- R191, STC_PIPE_STATE.jobs -/
  | stcPipeState_jobs
  /-- R191, STC_KS_STAT.hits -/
  | stcKsStat_hits
  /-- R191, STC_KS_STAT.misses -/
  | stcKsStat_misses
  /-- R322, NDL_CTRL.remap -/
  | ndlCtrl_remap
  /-- R322, NDL_CTRL.debug -/
  | ndlCtrl_debug
  /-- R322, NDL_CTRL.vault_assign -/
  | ndlCtrl_vaultAssign
  /-- R322, NDL_CTRL.engine_reset -/
  | ndlCtrl_engineReset
  /-- R322, NDL_CTRL.hold -/
  | ndlCtrl_hold
  /-- R322, NDL_CTRL.in_service -/
  | ndlCtrl_inService
  /-- R322, NDL_STATUS.ready -/
  | ndlStatus_ready
  /-- R322, NDL_STATUS.lockup -/
  | ndlStatus_lockup
  /-- R322, NDL_STATUS.vault_class -/
  | ndlStatus_vaultClass
  /-- R322, NDL_STATUS.in_reset -/
  | ndlStatus_inReset
  /-- R322, NDL_STATUS.handler_level -/
  | ndlStatus_handlerLevel
  /-- R322, NDL_STATUS.priv -/
  | ndlStatus_priv
  /-- R322, NDL_STATUS.retired -/
  | ndlStatus_retired
  /-- R322, NDL_STATUS.hazard_kind -/
  | ndlStatus_hazardKind
  /-- R322, NDL_STATUS.last_cause -/
  | ndlStatus_lastCause
  /-- R322, NDL_FPSTATE.state -/
  | ndlFpstate_state
  /-- R322, NDL_CRIT_MAX.cap -/
  | ndlCritMax_cap
  /-- R322, NDL_PERF.issued -/
  | ndlPerf_issued
  /-- R322, NDL_PERF.held -/
  | ndlPerf_held
  /-- R322, NDL_COUNT.crit_overrun -/
  | ndlCount_critOverrun
  /-- R322, NDL_COUNT.hazard -/
  | ndlCount_hazard
  /-- R322, NDL_COUNT.watchdog -/
  | ndlCount_watchdog
  /-- R322, NDL_LAT.min -/
  | ndlLat_min
  /-- R322, NDL_LAT.max -/
  | ndlLat_max
  /-- R322, NDL_READY.ready -/
  | ndlReady_ready
  /-- R346, BOLT_PART.vault_banks -/
  | boltPart_vaultBanks
  /-- R346, BOLT_PART.session_banks -/
  | boltPart_sessionBanks
  /-- R346, BOLT_PART.cache_banks -/
  | boltPart_cacheBanks
  /-- R346, BOLT_MODE.session_part -/
  | boltMode_sessionPart
  /-- R346, BOLT_MODE.scratch_part -/
  | boltMode_scratchPart
  /-- R346, BOLT_MODE.maint -/
  | boltMode_maint
  /-- R346, BOLT_LAYOUT.vault -/
  | boltLayout_vault
  /-- R346, BOLT_LAYOUT.session -/
  | boltLayout_session
  /-- R346, BOLT_LAYOUT.scratch -/
  | boltLayout_scratch
  /-- R346, BOLT_LAYOUT.cache -/
  | boltLayout_cache
  /-- R346, BOLT_SCRUB.rate_mbs -/
  | boltScrub_rateMbs
  /-- R346, BOLT_PWR_IDLE.idle_us -/
  | boltPwrIdle_idleUs
  /-- R346, BOLT_KEEP.scratch -/
  | boltKeep_scratch
  /-- R346, BOLT_STAT.collided -/
  | boltStat_collided
  /-- R346, BOLT_STAT.write_lost -/
  | boltStat_writeLost
  /-- R346, BOLT_STAT.refused -/
  | boltStat_refused
  /-- R346, BOLT_ECC_STAT.corrected -/
  | boltEccStat_corrected
  /-- R346, BOLT_ECC_STAT.uncorrectable -/
  | boltEccStat_uncorrectable
  /-- R346, BOLT_ECC_STAT.scrub_passes -/
  | boltEccStat_scrubPasses
  /-- R346, BOLT_BANK_CFG.master -/
  | boltBankCfg_master
  /-- R346, BOLT_BANK_CFG.dedicated -/
  | boltBankCfg_dedicated
  /-- R346, BOLT_BANK_CFG.pwr -/
  | boltBankCfg_pwr
  /-- R346, BOLT_BANK_STATE.power -/
  | boltBankState_power
  /-- R346, BOLT_BANK_STATE.partition -/
  | boltBankState_partition
  /-- R346, BOLT_BANK_STATE.retired -/
  | boltBankState_retired
  /-- R346, BOLT_BANK_STATE.donor -/
  | boltBankState_donor
  /-- R346, BOLT_BANK_STATE.replaces -/
  | boltBankState_replaces
  /-- R346, BOLT_BANK_STATE.repaired_cols -/
  | boltBankState_repairedCols
  /-- R346, BOLT_BANK_STATE.ce -/
  | boltBankState_ce
  /-- R346, BOLT_BANK_STATE.ue -/
  | boltBankState_ue
  /-- R346, BOLT_WIN.valid -/
  | boltWin_valid
  /-- R346, BOLT_WIN.base -/
  | boltWin_base
  /-- R346, BOLT_WIN.size_128 -/
  | boltWin_size128
  /-- R357, HUB_ERR_LOG.addr -/
  | hubErrLog_addr
  /-- R357, HUB_ERR_LOG.master -/
  | hubErrLog_master
  /-- R357, HUB_ERR_LOG.kind -/
  | hubErrLog_kind
  /-- R357, HUB_ERR_LOG.valid -/
  | hubErrLog_valid
  /-- R357, HUB_MASTER_CFG.max_out -/
  | hubMasterCfg_maxOut
  /-- R357, HUB_MASTER_CFG.weight -/
  | hubMasterCfg_weight
  /-- R357, HUB_STAT.grants -/
  | hubStat_grants
  /-- R357, HUB_STAT.decerr -/
  | hubStat_decerr
  /-- R357, HUB_STAT.refused_abort -/
  | hubStat_refusedAbort
  /-- R357, PERI_GPIO_CFG.dir -/
  | periGpioCfg_dir
  /-- R357, PERI_GPIO_CFG.safe_val -/
  | periGpioCfg_safeVal
  /-- R357, PERI_GPIO_CFG.safe_hiz -/
  | periGpioCfg_safeHiz
  /-- R357, PERI_GPIO_EVT.edge_en -/
  | periGpioEvt_edgeEn
  /-- R357, PERI_GPIO_EVT.edge_fall -/
  | periGpioEvt_edgeFall
  /-- R357, PERI_SMB_CFG.smb0_addr -/
  | periSmbCfg_smb0Addr
  /-- R357, PERI_SMB_CFG.smb0_en -/
  | periSmbCfg_smb0En
  /-- R357, PERI_SMB_CFG.smb1_en -/
  | periSmbCfg_smb1En
  /-- R357, PERI_SMB_CFG.speed -/
  | periSmbCfg_speed
  /-- R357, PERI_SPI_CFG.clk_div -/
  | periSpiCfg_clkDiv
  /-- R357, PERI_SPI_CFG.width_max -/
  | periSpiCfg_widthMax
  /-- R357, PERI_TIMER.period_us -/
  | periTimer_periodUs
  /-- R357, PERI_TIMER.repeat -/
  | periTimer_repeat
  /-- R357, PERI_TIMER.event -/
  | periTimer_event
  /-- R367, TCK_LOOP_DROP.count -/
  | tckLoopDrop_count
  /-- R367, TCK_LOOP_DROP.last_source -/
  | tckLoopDrop_lastSource
  /-- R367, TCK_ROUTE.dest -/
  | tckRoute_dest
  /-- R367, TCK_ROUTE.en -/
  | tckRoute_en
  /-- R367, TCK_SRC.raised -/
  | tckSrc_raised
  /-- R367, TCK_SRC.merged -/
  | tckSrc_merged
  /-- R367, TCK_DROP.count -/
  | tckDrop_count
  /-- R367, TCK_MERGE.count -/
  | tckMerge_count
  /-- R387, CLK_STATUS.xtal_stable -/
  | clkStatus_xtalStable
  /-- R387, CLK_STATUS.root_lock -/
  | clkStatus_rootLock
  /-- R387, CLK_STATUS.thimble_root -/
  | clkStatus_thimbleRoot
  /-- R387, CLK_STATUS.judge_restarts -/
  | clkStatus_judgeRestarts
  /-- R387, CLK_OUT.out0_en -/
  | clkOut_out0En
  /-- R387, CLK_OUT.out1_en -/
  | clkOut_out1En
  /-- R387, CLK_OUT.out0_depth -/
  | clkOut_out0Depth
  /-- R387, CLK_OUT.out0_rate -/
  | clkOut_out0Rate
  /-- R387, CLK_OUT.out1_depth -/
  | clkOut_out1Depth
  /-- R387, CLK_OUT.out1_rate -/
  | clkOut_out1Rate
  /-- R387, CLK_GATE_NDL.needle -/
  | clkGateNdl_needle
  /-- R387, CLK_GATE.stitch_q -/
  | clkGate_stitchQ
  /-- R387, CLK_GATE.sv -/
  | clkGate_sv
  /-- R387, CLK_GATE.ddr -/
  | clkGate_ddr
  /-- R387, CLK_GATED_TOUCH.count -/
  | clkGatedTouch_count
  /-- R387, CLK_ISLAND.divisor -/
  | clkIsland_divisor
  /-- R387, CLK_ISLAND.running -/
  | clkIsland_running
  /-- R387, CLK_ISLAND.in_reset -/
  | clkIsland_inReset
  /-- R387, CLK_ISLAND.gated -/
  | clkIsland_gated
  /-- R387, CLK_ISLAND.switches -/
  | clkIsland_switches
  /-- R387, CLK_ISLAND.stretched -/
  | clkIsland_stretched
  /-- R387, RST_CTRL.perst_warm -/
  | rstCtrl_perstWarm
  /-- R387, RST_STATUS.last_kind -/
  | rstStatus_lastKind
  /-- R387, RST_STATUS.warm_count -/
  | rstStatus_warmCount
  /-- R387, RST_STATUS.hold_count -/
  | rstStatus_holdCount
  /-- R387, RST_STATUS.hot_count -/
  | rstStatus_hotCount
  /-- R407, DDR_CFG.rate -/
  | ddrCfg_rate
  /-- R407, DDR_CFG.recentre_ms -/
  | ddrCfg_recentreMs
  /-- R407, DDR_CFG.dqs_ms -/
  | ddrCfg_dqsMs
  /-- R407, DDR_CFG.migrate_pct -/
  | ddrCfg_migratePct
  /-- R407, DDR_CFG.scrub_h -/
  | ddrCfg_scrubH
  /-- R407, DDR_SPARE.enable -/
  | ddrSpare_enable
  /-- R407, DDR_MARGIN_FLOOR.width_64ui -/
  | ddrMarginFloor_width64ui
  /-- R407, DDR_MARGIN_FLOOR.height_mv -/
  | ddrMarginFloor_heightMv
  /-- R407, DDR_MARGIN_FLOOR.sweeps -/
  | ddrMarginFloor_sweeps
  /-- R407, DDR_STATUS.map7 -/
  | ddrStatus_map7
  /-- R407, DDR_STATUS.spare_used_by -/
  | ddrStatus_spareUsedBy
  /-- R407, DDR_STATUS.fenced_ch -/
  | ddrStatus_fencedCh
  /-- R407, DDR_STATUS.usable_gib -/
  | ddrStatus_usableGib
  /-- R407, DDR_STATUS.fenced_rank -/
  | ddrStatus_fencedRank
  /-- R407, DDR_MIGRATE.running -/
  | ddrMigrate_running
  /-- R407, DDR_MIGRATE.next -/
  | ddrMigrate_next
  /-- R407, DDRC_GEOM.present -/
  | ddrcGeom_present
  /-- R407, DDRC_GEOM.x4 -/
  | ddrcGeom_x4
  /-- R407, DDRC_GEOM.die -/
  | ddrcGeom_die
  /-- R407, DDRC_GEOM.ranks -/
  | ddrcGeom_ranks
  /-- R407, DDRC_GEOM.rdimm -/
  | ddrcGeom_rdimm
  /-- R407, DDRC_GEOM.mismatch -/
  | ddrcGeom_mismatch
  /-- R407, DDRC_GEOM.capacity_gib -/
  | ddrcGeom_capacityGib
  /-- R407, DDRC_STATE.trained -/
  | ddrcState_trained
  /-- R407, DDRC_STATE.self_refresh -/
  | ddrcState_selfRefresh
  /-- R407, DDRC_STATE.retired -/
  | ddrcState_retired
  /-- R407, DDRC_STATE.fenced -/
  | ddrcState_fenced
  /-- R407, DDRC_STATE.rank_fenced -/
  | ddrcState_rankFenced
  /-- R407, DDRC_STATE.sweeping -/
  | ddrcState_sweeping
  /-- R407, DDRC_STATE.sppr_used -/
  | ddrcState_spprUsed
  /-- R407, DDRC_ECC_STAT.ce -/
  | ddrcEccStat_ce
  /-- R407, DDRC_ECC_STAT.ue -/
  | ddrcEccStat_ue
  /-- R407, DDRC_ECC_STAT.scrub_passes -/
  | ddrcEccStat_scrubPasses
  /-- R407, DDRC_RETRY_STAT.crc_retries -/
  | ddrcRetryStat_crcRetries
  /-- R407, DDRC_RETRY_STAT.parity_retries -/
  | ddrcRetryStat_parityRetries
  /-- R407, DDRC_MARGIN.width_64ui -/
  | ddrcMargin_width64ui
  /-- R407, DDRC_MARGIN.height_mv -/
  | ddrcMargin_heightMv
  /-- R407, DDRC_MARGIN.worst_lane -/
  | ddrcMargin_worstLane
  /-- R407, DDRC_MARGIN.low_sweeps -/
  | ddrcMargin_lowSweeps
  /-- R407, DDRC_MARGIN.sweeps -/
  | ddrcMargin_sweeps
  /-- R427, SV_CTRL.ethertype -/
  | svCtrl_ethertype
  /-- R427, SV_CTRL.vlan_en -/
  | svCtrl_vlanEn
  /-- R427, SV_CTRL.vlan_id -/
  | svCtrl_vlanId
  /-- R427, SV_CTRL.pcp -/
  | svCtrl_pcp
  /-- R427, SV_CTRL.mtu -/
  | svCtrl_mtu
  /-- R427, SV_CTRL.replay_window -/
  | svCtrl_replayWindow
  /-- R427, SV_MAC_BASE.base -/
  | svMacBase_base
  /-- R427, SV_BER_FLOOR.neg_exp -/
  | svBerFloor_negExp
  /-- R427, SV_BER_FLOOR.windows -/
  | svBerFloor_windows
  /-- R427, SV_MESH_STATE.device_id -/
  | svMeshState_deviceId
  /-- R427, SV_MESH_STATE.joined -/
  | svMeshState_joined
  /-- R427, SV_MESH_STATE.members -/
  | svMeshState_members
  /-- R427, SV_MESH_STATE.lost -/
  | svMeshState_lost
  /-- R427, SV_SHARD.epoch -/
  | svShard_epoch
  /-- R427, SV_SHARD.primary -/
  | svShard_primary
  /-- R427, SV_SHARD.replicas -/
  | svShard_replicas
  /-- R427, SV_SHARD.k -/
  | svShard_k
  /-- R427, SV_SHARD.role -/
  | svShard_role
  /-- R427, SV_PORT_CTRL.enable -/
  | svPortCtrl_enable
  /-- R427, SV_PORT_CTRL.kr -/
  | svPortCtrl_kr
  /-- R427, SV_PORT_CTRL.allow_100g -/
  | svPortCtrl_allow100g
  /-- R427, SV_PORT_STATE.link_up -/
  | svPortState_linkUp
  /-- R427, SV_PORT_STATE.lanes -/
  | svPortState_lanes
  /-- R427, SV_PORT_STATE.keyed -/
  | svPortState_keyed
  /-- R427, SV_PORT_STATE.retired -/
  | svPortState_retired
  /-- R427, SV_PORT_STATE.lane_retired -/
  | svPortState_laneRetired
  /-- R427, SV_PORT_STATE.paths -/
  | svPortState_paths
  /-- R427, SV_PORT_STAT.tx -/
  | svPortStat_tx
  /-- R427, SV_PORT_STAT.rx -/
  | svPortStat_rx
  /-- R427, SV_PORT_ERR.retx -/
  | svPortErr_retx
  /-- R427, SV_PORT_ERR.fec_uncorr -/
  | svPortErr_fecUncorr
  /-- R427, SV_PORT_ERR.discarded -/
  | svPortErr_discarded
  /-- R427, SV_LANE_BER.corrected -/
  | svLaneBer_corrected
  /-- R427, SV_LANE_BER.over -/
  | svLaneBer_over
  /-- R452, FIT_CTRL.retire_en -/
  | fitCtrl_retireEn
  /-- R452, FIT_CTRL.adapt -/
  | fitCtrl_adapt
  /-- R452, FIT_CTRL.avoid_en -/
  | fitCtrl_avoidEn
  /-- R452, FIT_STATUS.alive -/
  | fitStatus_alive
  /-- R452, FIT_STATUS.settled -/
  | fitStatus_settled
  /-- R452, FIT_STATUS.thermal_step -/
  | fitStatus_thermalStep
  /-- R452, FIT_STATUS.power_step -/
  | fitStatus_powerStep
  /-- R452, FIT_STATUS.hottest_c -/
  | fitStatus_hottestC
  /-- R452, FIT_STATUS.power_w -/
  | fitStatus_powerW
  /-- R452, FIT_STATUS.restarts -/
  | fitStatus_restarts
  /-- R452, FIT_COAL.window_us -/
  | fitCoal_windowUs
  /-- R452, FIT_COAL.policy_ms -/
  | fitCoal_policyMs
  /-- R452, FIT_ADAPT.period_ms -/
  | fitAdapt_periodMs
  /-- R452, FIT_THERMAL.throttle_c -/
  | fitThermal_throttleC
  /-- R452, FIT_THERMAL.release_c -/
  | fitThermal_releaseC
  /-- R452, FIT_POWER.cap_w -/
  | fitPower_capW
  /-- R452, FIT_LOG.last_seq -/
  | fitLog_lastSeq
  /-- R452, FIT_LOG.used -/
  | fitLog_used
  /-- R452, FIT_LOG.half -/
  | fitLog_half
  /-- R452, FIT_BUCKET.threshold -/
  | fitBucket_threshold
  /-- R452, FIT_BUCKET.window_s -/
  | fitBucket_windowS
  /-- R452, FIT_BITMAP.reporters -/
  | fitBitmap_reporters
  /-- R452, FIT_BITMAP_TAG.seq -/
  | fitBitmapTag_seq
  /-- R452, FIT_TENANT.effective -/
  | fitTenant_effective
  /-- R452, FIT_TENANT.weight -/
  | fitTenant_weight
  /-- R452, FIT_TENANT.minimum -/
  | fitTenant_minimum
  /-- R452, FIT_TENANT.maximum -/
  | fitTenant_maximum
  /-- R471, THM_LC.state -/
  | thmLc_state
  /-- R471, THM_LC.debug_open -/
  | thmLc_debugOpen
  /-- R471, THM_LC.seal_epoch -/
  | thmLc_sealEpoch
  /-- R471, THM_LC.rollback -/
  | thmLc_rollback
  /-- R471, THM_LC.tamper_used -/
  | thmLc_tamperUsed
  /-- R471, THM_LC.slot -/
  | thmLc_slot
  /-- R471, THM_LC.trial -/
  | thmLc_trial
  /-- R471, THM_LC.svn -/
  | thmLc_svn
  /-- R471, THM_LC_REQ.target -/
  | thmLcReq_target
  /-- R471, THM_LC_REQ.confirm -/
  | thmLcReq_confirm
  /-- R471, THM_OWNER_HASH.hash -/
  | thmOwnerHash_hash
  /-- R471, THM_TAMPER_CFG.in_en -/
  | thmTamperCfg_inEn
  /-- R471, THM_TAMPER_CFG.in_high -/
  | thmTamperCfg_inHigh
  /-- R471, THM_TAMPER_CFG.mesh_en -/
  | thmTamperCfg_meshEn
  /-- R471, THM_TAMPER_CFG.volt_en -/
  | thmTamperCfg_voltEn
  /-- R471, THM_TAMPER_CFG.temp_en -/
  | thmTamperCfg_tempEn
  /-- R471, THM_TAMPER_CFG.clk_en -/
  | thmTamperCfg_clkEn
  /-- R471, THM_TAMPER_STAT.last -/
  | thmTamperStat_last
  /-- R471, THM_TAMPER_STAT.count -/
  | thmTamperStat_count
  /-- R471, THM_TRNG.rct_fail -/
  | thmTrng_rctFail
  /-- R471, THM_TRNG.apt_fail -/
  | thmTrng_aptFail
  /-- R471, THM_TRNG.reseeds -/
  | thmTrng_reseeds
  /-- R471, THM_PROG.base -/
  | thmProg_base
  /-- R471, THM_PROG.size_4mib -/
  | thmProg_size4mib
  /-- R32, MSIX.addr -/
  | msix_addr
  /-- R32, MSIX.data -/
  | msix_data
  /-- R32, MSIX.mask -/
  | msix_mask
  /-- R34, VF_MSIX.addr -/
  | vfMsix_addr
  /-- R34, VF_MSIX.data -/
  | vfMsix_data
  /-- R34, VF_MSIX.mask -/
  | vfMsix_mask
  /-- R32, PBA.word -/
  | pba_word
  /-- R33, VF_PBA.word -/
  | vfPba_word
  deriving DecidableEq, Repr

/-- Where a field lies and how it behaves. Element `o * iCount + i` of an array field starts at byte
`base + oStride * o + iStride * i`, and the field holds bits `lo` to `lo + width - 1` counted from there. -/
structure FieldSpec where
  space   : Space
  base    : Nat
  oStride : Nat
  oCount  : Nat
  iStride : Nat
  iCount  : Nat
  lo      : Nat
  width   : Nat
  acc     : Access
  deriving DecidableEq, Repr

/-- The spec's register tables, one line a field. -/
def Fld.spec : Fld → FieldSpec
  | .globalId_stepping => ⟨.bar0, 0x0, 0x0, 1, 0, 1, 0, 8, .ro⟩
  | .globalId_needleCount => ⟨.bar0, 0x0, 0x0, 1, 0, 1, 8, 8, .ro⟩
  | .globalId_stitchCount => ⟨.bar0, 0x0, 0x0, 1, 0, 1, 16, 8, .ro⟩
  | .globalId_deviceId => ⟨.bar0, 0x0, 0x0, 1, 0, 1, 24, 16, .ro⟩
  | .globalReady_bits => ⟨.bar0, 0x8, 0x0, 1, 0, 1, 0, 39, .ro⟩
  | .globalSetupLock_lock => ⟨.bar0, 0x10, 0x0, 1, 0, 1, 0, 1, .rwl⟩
  | .globalSetupLock_checkBusy => ⟨.bar0, 0x10, 0x0, 1, 0, 1, 1, 1, .ro⟩
  | .globalSetupErr_ringAssign => ⟨.bar0, 0x18, 0x0, 1, 0, 1, 0, 1, .rw1c⟩
  | .globalSetupErr_hostArea => ⟨.bar0, 0x18, 0x0, 1, 0, 1, 1, 1, .rw1c⟩
  | .globalSetupErr_boltPartition => ⟨.bar0, 0x18, 0x0, 1, 0, 1, 2, 1, .rw1c⟩
  | .globalSetupErr_ddrSpare => ⟨.bar0, 0x18, 0x0, 1, 0, 1, 3, 1, .rw1c⟩
  | .globalSetupErr_ddrRegions => ⟨.bar0, 0x18, 0x0, 1, 0, 1, 4, 1, .rw1c⟩
  | .globalSetupErr_writeDuringCheck => ⟨.bar0, 0x18, 0x0, 1, 0, 1, 8, 1, .rw1c⟩
  | .globalSetupErr_lockRefused => ⟨.bar0, 0x18, 0x0, 1, 0, 1, 9, 1, .rw1c⟩
  | .globalProfile_requested => ⟨.bar0, 0x20, 0x0, 1, 0, 1, 0, 2, .rwl⟩
  | .globalProfile_active => ⟨.bar0, 0x20, 0x0, 1, 0, 1, 8, 2, .ro⟩
  | .globalProfile_switching => ⟨.bar0, 0x20, 0x0, 1, 0, 1, 10, 1, .ro⟩
  | .ringDbBase_addr => ⟨.bar0, 0x100000, 0x0, 1, 0, 1, 12, 52, .rwl⟩
  | .ringSumBase_addr => ⟨.bar0, 0x100008, 0x0, 1, 0, 1, 12, 52, .rwl⟩
  | .ringStatusBase_addr => ⟨.bar0, 0x100010, 0x0, 1, 0, 1, 12, 52, .rwl⟩
  | .ringCtrl_forceSequence => ⟨.bar0, 0x100018, 0x0, 1, 0, 1, 0, 1, .rwl⟩
  | .ringCtrl_sequence => ⟨.bar0, 0x100018, 0x0, 1, 0, 1, 1, 1, .ro⟩
  | .ringCtrl_fetchMax => ⟨.bar0, 0x100018, 0x0, 1, 0, 1, 8, 7, .rwl⟩
  | .ringPoll_hotMax => ⟨.bar0, 0x100020, 0x0, 1, 0, 1, 0, 12, .rwl⟩
  | .ringPoll_warmMax => ⟨.bar0, 0x100020, 0x0, 1, 0, 1, 12, 12, .rwl⟩
  | .ringPoll_promotePolls => ⟨.bar0, 0x100020, 0x0, 1, 0, 1, 24, 4, .rwl⟩
  | .ringPoll_demotePolls => ⟨.bar0, 0x100020, 0x0, 1, 0, 1, 32, 16, .rwl⟩
  | .ringHoldLimit_limitMs => ⟨.bar0, 0x100028, 0x0, 1, 0, 1, 0, 10, .rwl⟩
  | .ringStat_casRetries => ⟨.bar0, 0x100030, 0x0, 1, 0, 1, 0, 32, .ro⟩
  | .ringStat_held => ⟨.bar0, 0x100030, 0x0, 1, 0, 1, 32, 13, .ro⟩
  | .ringGroup_function => ⟨.bar0, 0x101000, 0x4, 256, 0, 1, 0, 8, .rwl⟩
  | .ringGroup_valid => ⟨.bar0, 0x101000, 0x4, 256, 0, 1, 8, 1, .rwl⟩
  | .ringSqBase_addr => ⟨.bar0, 0x140000, 0x40, 4096, 0, 1, 12, 52, .rwl⟩
  | .ringCqBase_addr => ⟨.bar0, 0x140008, 0x40, 4096, 0, 1, 12, 52, .rwl⟩
  | .ringSqCfg_enable => ⟨.bar0, 0x140010, 0x40, 4096, 0, 1, 0, 1, .rwl⟩
  | .ringSqCfg_sizeLog2 => ⟨.bar0, 0x140010, 0x40, 4096, 0, 1, 1, 5, .rwl⟩
  | .ringSqCfg_classPin => ⟨.bar0, 0x140010, 0x40, 4096, 0, 1, 6, 2, .rwl⟩
  | .ringSqCfg_cq => ⟨.bar0, 0x140010, 0x40, 4096, 0, 1, 8, 12, .rwl⟩
  | .ringCqCfg_enable => ⟨.bar0, 0x140014, 0x40, 4096, 0, 1, 0, 1, .rwl⟩
  | .ringCqCfg_sizeLog2 => ⟨.bar0, 0x140014, 0x40, 4096, 0, 1, 1, 5, .rwl⟩
  | .ringCqCfg_irqEnable => ⟨.bar0, 0x140014, 0x40, 4096, 0, 1, 6, 1, .rwl⟩
  | .ringCqCfg_vector => ⟨.bar0, 0x140014, 0x40, 4096, 0, 1, 7, 11, .rwl⟩
  | .ringCqCoal_countM1 => ⟨.bar0, 0x140018, 0x40, 4096, 0, 1, 0, 8, .rwl⟩
  | .ringCqCoal_timerUs => ⟨.bar0, 0x140018, 0x40, 4096, 0, 1, 8, 10, .rwl⟩
  | .ringSqState_head => ⟨.bar0, 0x140020, 0x40, 4096, 0, 1, 0, 16, .ro⟩
  | .ringSqState_class => ⟨.bar0, 0x140020, 0x40, 4096, 0, 1, 16, 2, .ro⟩
  | .ringSqState_stopped => ⟨.bar0, 0x140020, 0x40, 4096, 0, 1, 18, 1, .ro⟩
  | .ringSqState_lastSeq => ⟨.bar0, 0x140020, 0x40, 4096, 0, 1, 32, 32, .ro⟩
  | .ringCqState_tail => ⟨.bar0, 0x140028, 0x40, 4096, 0, 1, 0, 16, .ro⟩
  | .ringCqState_phase => ⟨.bar0, 0x140028, 0x40, 4096, 0, 1, 16, 1, .ro⟩
  | .ringCqState_stopped => ⟨.bar0, 0x140028, 0x40, 4096, 0, 1, 17, 1, .ro⟩
  | .ringVfInfo_groupsOwned => ⟨.vf, 0x0, 0x0, 256, 0, 1, 0, 8, .ro⟩
  | .ringVfInfo_groupsVisible => ⟨.vf, 0x0, 0x0, 256, 0, 1, 8, 5, .ro⟩
  | .ringVfLock_lock => ⟨.vf, 0x8, 0x0, 256, 0, 1, 0, 1, .rwl⟩
  | .ringVfLock_checkBusy => ⟨.vf, 0x8, 0x0, 256, 0, 1, 1, 1, .ro⟩
  | .ringVfLock_refused => ⟨.vf, 0x8, 0x0, 256, 0, 1, 2, 1, .rw1c⟩
  | .ringVfGroup_group0 => ⟨.vf, 0x10, 0x0, 256, 4, 8, 0, 8, .ro⟩
  | .ringVfGroup_group1 => ⟨.vf, 0x10, 0x0, 256, 4, 8, 8, 8, .ro⟩
  | .ringVfGroup_group2 => ⟨.vf, 0x10, 0x0, 256, 4, 8, 16, 8, .ro⟩
  | .ringVfGroup_group3 => ⟨.vf, 0x10, 0x0, 256, 4, 8, 24, 8, .ro⟩
  | .vtBase_addr => ⟨.bar0, 0xC10000, 0x0, 1, 0, 1, 31, 17, .rwl⟩
  | .vtExt_addr => ⟨.bar0, 0xC10008, 0x0, 1, 0, 1, 22, 26, .rwl⟩
  | .vtExt_size64mib => ⟨.bar0, 0xC10008, 0x0, 1, 0, 1, 56, 7, .rwl⟩
  | .vtCtrl_sizeM20 => ⟨.bar0, 0xC10010, 0x0, 1, 0, 1, 0, 3, .rwl⟩
  | .vtCtrl_keySlotMib => ⟨.bar0, 0xC10010, 0x0, 1, 0, 1, 8, 5, .rwl⟩
  | .vtTimeBase_unixS => ⟨.bar0, 0xC10018, 0x0, 1, 0, 1, 0, 64, .rwl⟩
  | .vtStatus_live => ⟨.bar0, 0xC10020, 0x0, 1, 0, 1, 0, 25, .ro⟩
  | .vtStatus_sweepRunning => ⟨.bar0, 0xC10020, 0x0, 1, 0, 1, 25, 1, .ro⟩
  | .vtStatus_epoch => ⟨.bar0, 0xC10020, 0x0, 1, 0, 1, 26, 1, .ro⟩
  | .vtStatus_sweepNext => ⟨.bar0, 0xC10020, 0x0, 1, 0, 1, 32, 25, .ro⟩
  | .vtSessions_open => ⟨.bar0, 0xC10028, 0x0, 1, 0, 1, 0, 17, .ro⟩
  | .vtCacheStat_hits => ⟨.bar0, 0xC10030, 0x0, 1, 0, 1, 0, 32, .ro⟩
  | .vtCacheStat_misses => ⟨.bar0, 0xC10030, 0x0, 1, 0, 1, 32, 32, .ro⟩
  | .vtShard_base => ⟨.bar0, 0xC10100, 0x4, 256, 0, 1, 0, 12, .rwl⟩
  | .vtShard_size => ⟨.bar0, 0xC10100, 0x4, 256, 0, 1, 12, 13, .rwl⟩
  | .shtCtrl_chunkKib => ⟨.bar0, 0x500000, 0x0, 1, 0, 1, 0, 5, .rwl⟩
  | .shtCtrl_inlineDdr => ⟨.bar0, 0x500000, 0x0, 1, 0, 1, 8, 1, .rwl⟩
  | .shtSbufBase_offset => ⟨.bar0, 0x500008, 0x0, 1, 0, 1, 16, 13, .rwl⟩
  | .shtStat_rerun => ⟨.bar0, 0x500010, 0x0, 1, 0, 1, 0, 16, .ro⟩
  | .shtStat_bufWait => ⟨.bar0, 0x500010, 0x0, 1, 0, 1, 16, 16, .ro⟩
  | .shtStat_collided => ⟨.bar0, 0x500010, 0x0, 1, 0, 1, 32, 32, .ro⟩
  | .shtBytes_bytes => ⟨.bar0, 0x500018, 0x0, 1, 0, 1, 0, 64, .ro⟩
  | .shtRrState_inFlight => ⟨.bar0, 0x500100, 0x8, 16, 0, 1, 0, 6, .ro⟩
  | .shtRrState_waiting => ⟨.bar0, 0x500100, 0x8, 16, 0, 1, 8, 7, .ro⟩
  | .shtRrState_retired => ⟨.bar0, 0x500100, 0x8, 16, 0, 1, 16, 32, .ro⟩
  | .stcSelftest_intervalMs => ⟨.bar0, 0x600000, 0x0, 1, 0, 1, 0, 16, .rwl⟩
  | .stcPipeState_ready => ⟨.bar0, 0x600100, 0x8, 16, 0, 1, 0, 1, .ro⟩
  | .stcPipeState_retired => ⟨.bar0, 0x600100, 0x8, 16, 0, 1, 1, 1, .ro⟩
  | .stcPipeState_gated => ⟨.bar0, 0x600100, 0x8, 16, 0, 1, 2, 1, .ro⟩
  | .stcPipeState_selfTest => ⟨.bar0, 0x600100, 0x8, 16, 0, 1, 3, 1, .ro⟩
  | .stcPipeState_lastTestFailed => ⟨.bar0, 0x600100, 0x8, 16, 0, 1, 4, 1, .ro⟩
  | .stcPipeState_ksSlots => ⟨.bar0, 0x600100, 0x8, 16, 0, 1, 8, 5, .ro⟩
  | .stcPipeState_jobFaults => ⟨.bar0, 0x600100, 0x8, 16, 0, 1, 16, 16, .ro⟩
  | .stcPipeState_jobs => ⟨.bar0, 0x600100, 0x8, 16, 0, 1, 32, 32, .ro⟩
  | .stcKsStat_hits => ⟨.bar0, 0x600200, 0x8, 16, 0, 1, 0, 32, .ro⟩
  | .stcKsStat_misses => ⟨.bar0, 0x600200, 0x8, 16, 0, 1, 32, 32, .ro⟩
  | .ndlCtrl_remap => ⟨.bar0, 0x800000, 0x10000, 64, 0, 1, 0, 1, .rw⟩
  | .ndlCtrl_debug => ⟨.bar0, 0x800000, 0x10000, 64, 0, 1, 1, 1, .rw⟩
  | .ndlCtrl_vaultAssign => ⟨.bar0, 0x800000, 0x10000, 64, 0, 1, 2, 1, .rw⟩
  | .ndlCtrl_engineReset => ⟨.bar0, 0x800000, 0x10000, 64, 0, 1, 8, 1, .wo⟩
  | .ndlCtrl_hold => ⟨.bar0, 0x800000, 0x10000, 64, 0, 1, 9, 1, .rw⟩
  | .ndlCtrl_inService => ⟨.bar0, 0x800000, 0x10000, 64, 0, 1, 10, 1, .rw⟩
  | .ndlStatus_ready => ⟨.bar0, 0x800008, 0x10000, 64, 0, 1, 0, 1, .ro⟩
  | .ndlStatus_lockup => ⟨.bar0, 0x800008, 0x10000, 64, 0, 1, 1, 1, .ro⟩
  | .ndlStatus_vaultClass => ⟨.bar0, 0x800008, 0x10000, 64, 0, 1, 2, 1, .ro⟩
  | .ndlStatus_inReset => ⟨.bar0, 0x800008, 0x10000, 64, 0, 1, 3, 1, .ro⟩
  | .ndlStatus_handlerLevel => ⟨.bar0, 0x800008, 0x10000, 64, 0, 1, 4, 1, .ro⟩
  | .ndlStatus_priv => ⟨.bar0, 0x800008, 0x10000, 64, 0, 1, 5, 2, .ro⟩
  | .ndlStatus_retired => ⟨.bar0, 0x800008, 0x10000, 64, 0, 1, 7, 1, .ro⟩
  | .ndlStatus_hazardKind => ⟨.bar0, 0x800008, 0x10000, 64, 0, 1, 8, 2, .ro⟩
  | .ndlStatus_lastCause => ⟨.bar0, 0x800008, 0x10000, 64, 0, 1, 16, 8, .ro⟩
  | .ndlFpstate_state => ⟨.bar0, 0x800010, 0x10000, 64, 0, 1, 0, 7, .ro⟩
  | .ndlCritMax_cap => ⟨.bar0, 0x800018, 0x10000, 64, 0, 1, 0, 13, .rwl⟩
  | .ndlPerf_issued => ⟨.bar0, 0x800020, 0x10000, 64, 0, 1, 0, 32, .ro⟩
  | .ndlPerf_held => ⟨.bar0, 0x800020, 0x10000, 64, 0, 1, 32, 32, .ro⟩
  | .ndlCount_critOverrun => ⟨.bar0, 0x800028, 0x10000, 64, 0, 1, 0, 16, .ro⟩
  | .ndlCount_hazard => ⟨.bar0, 0x800028, 0x10000, 64, 0, 1, 16, 16, .ro⟩
  | .ndlCount_watchdog => ⟨.bar0, 0x800028, 0x10000, 64, 0, 1, 32, 16, .ro⟩
  | .ndlLat_min => ⟨.bar0, 0x800100, 0x10000, 64, 8, 19, 0, 16, .ro⟩
  | .ndlLat_max => ⟨.bar0, 0x800100, 0x10000, 64, 8, 19, 16, 16, .ro⟩
  | .ndlReady_ready => ⟨.bar0, 0x80F000, 0x10000, 64, 0, 1, 0, 64, .ro⟩
  | .boltPart_vaultBanks => ⟨.bar0, 0x200000, 0x0, 1, 0, 1, 0, 3, .rwl⟩
  | .boltPart_sessionBanks => ⟨.bar0, 0x200000, 0x0, 1, 0, 1, 8, 6, .rwl⟩
  | .boltPart_cacheBanks => ⟨.bar0, 0x200000, 0x0, 1, 0, 1, 16, 6, .rwl⟩
  | .boltMode_sessionPart => ⟨.bar0, 0x200008, 0x0, 1, 0, 1, 0, 1, .rwl⟩
  | .boltMode_scratchPart => ⟨.bar0, 0x200008, 0x0, 1, 0, 1, 1, 1, .rwl⟩
  | .boltMode_maint => ⟨.bar0, 0x200008, 0x0, 1, 0, 1, 8, 1, .ro⟩
  | .boltLayout_vault => ⟨.bar0, 0x200010, 0x0, 1, 0, 1, 0, 8, .ro⟩
  | .boltLayout_session => ⟨.bar0, 0x200010, 0x0, 1, 0, 1, 8, 8, .ro⟩
  | .boltLayout_scratch => ⟨.bar0, 0x200010, 0x0, 1, 0, 1, 16, 8, .ro⟩
  | .boltLayout_cache => ⟨.bar0, 0x200010, 0x0, 1, 0, 1, 24, 8, .ro⟩
  | .boltScrub_rateMbs => ⟨.bar0, 0x200018, 0x0, 1, 0, 1, 0, 16, .rwl⟩
  | .boltPwrIdle_idleUs => ⟨.bar0, 0x200020, 0x0, 1, 0, 1, 0, 16, .rwl⟩
  | .boltKeep_scratch => ⟨.bar0, 0x200028, 0x0, 1, 0, 1, 0, 1, .rws⟩
  | .boltStat_collided => ⟨.bar0, 0x200030, 0x0, 1, 0, 1, 0, 32, .ro⟩
  | .boltStat_writeLost => ⟨.bar0, 0x200030, 0x0, 1, 0, 1, 32, 16, .ro⟩
  | .boltStat_refused => ⟨.bar0, 0x200030, 0x0, 1, 0, 1, 48, 16, .ro⟩
  | .boltEccStat_corrected => ⟨.bar0, 0x200038, 0x0, 1, 0, 1, 0, 32, .ro⟩
  | .boltEccStat_uncorrectable => ⟨.bar0, 0x200038, 0x0, 1, 0, 1, 32, 16, .ro⟩
  | .boltEccStat_scrubPasses => ⟨.bar0, 0x200038, 0x0, 1, 0, 1, 48, 16, .ro⟩
  | .boltBankCfg_master => ⟨.bar0, 0x200100, 0x4, 48, 0, 1, 0, 4, .rwl⟩
  | .boltBankCfg_dedicated => ⟨.bar0, 0x200100, 0x4, 48, 0, 1, 4, 1, .rwl⟩
  | .boltBankCfg_pwr => ⟨.bar0, 0x200100, 0x4, 48, 0, 1, 5, 2, .rwl⟩
  | .boltBankState_power => ⟨.bar0, 0x200200, 0x8, 48, 0, 1, 0, 2, .ro⟩
  | .boltBankState_partition => ⟨.bar0, 0x200200, 0x8, 48, 0, 1, 2, 3, .ro⟩
  | .boltBankState_retired => ⟨.bar0, 0x200200, 0x8, 48, 0, 1, 5, 1, .ro⟩
  | .boltBankState_donor => ⟨.bar0, 0x200200, 0x8, 48, 0, 1, 6, 1, .ro⟩
  | .boltBankState_replaces => ⟨.bar0, 0x200200, 0x8, 48, 0, 1, 7, 6, .ro⟩
  | .boltBankState_repairedCols => ⟨.bar0, 0x200200, 0x8, 48, 0, 1, 16, 8, .ro⟩
  | .boltBankState_ce => ⟨.bar0, 0x200200, 0x8, 48, 0, 1, 32, 16, .ro⟩
  | .boltBankState_ue => ⟨.bar0, 0x200200, 0x8, 48, 0, 1, 48, 16, .ro⟩
  | .boltWin_valid => ⟨.bar0, 0x200400, 0x8, 64, 0, 1, 0, 1, .rw⟩
  | .boltWin_base => ⟨.bar0, 0x200400, 0x8, 64, 0, 1, 7, 22, .rw⟩
  | .boltWin_size128 => ⟨.bar0, 0x200400, 0x8, 64, 0, 1, 32, 21, .rw⟩
  | .hubErrLog_addr => ⟨.bar0, 0x300000, 0x0, 1, 0, 1, 0, 48, .ro⟩
  | .hubErrLog_master => ⟨.bar0, 0x300000, 0x0, 1, 0, 1, 48, 4, .ro⟩
  | .hubErrLog_kind => ⟨.bar0, 0x300000, 0x0, 1, 0, 1, 52, 2, .ro⟩
  | .hubErrLog_valid => ⟨.bar0, 0x300000, 0x0, 1, 0, 1, 63, 1, .rw1c⟩
  | .hubMasterCfg_maxOut => ⟨.bar0, 0x300100, 0x4, 16, 0, 1, 0, 7, .rwl⟩
  | .hubMasterCfg_weight => ⟨.bar0, 0x300100, 0x4, 16, 0, 1, 8, 4, .rwl⟩
  | .hubStat_grants => ⟨.bar0, 0x300200, 0x8, 16, 0, 1, 0, 32, .ro⟩
  | .hubStat_decerr => ⟨.bar0, 0x300200, 0x8, 16, 0, 1, 32, 16, .ro⟩
  | .hubStat_refusedAbort => ⟨.bar0, 0x300200, 0x8, 16, 0, 1, 48, 16, .ro⟩
  | .periGpioCfg_dir => ⟨.bar0, 0xC50000, 0x0, 1, 0, 1, 0, 16, .rwl⟩
  | .periGpioCfg_safeVal => ⟨.bar0, 0xC50000, 0x0, 1, 0, 1, 16, 16, .rwl⟩
  | .periGpioCfg_safeHiz => ⟨.bar0, 0xC50000, 0x0, 1, 0, 1, 32, 16, .rwl⟩
  | .periGpioEvt_edgeEn => ⟨.bar0, 0xC50008, 0x0, 1, 0, 1, 0, 16, .rwl⟩
  | .periGpioEvt_edgeFall => ⟨.bar0, 0xC50008, 0x0, 1, 0, 1, 16, 16, .rwl⟩
  | .periSmbCfg_smb0Addr => ⟨.bar0, 0xC50010, 0x0, 1, 0, 1, 0, 7, .rwl⟩
  | .periSmbCfg_smb0En => ⟨.bar0, 0xC50010, 0x0, 1, 0, 1, 7, 1, .rwl⟩
  | .periSmbCfg_smb1En => ⟨.bar0, 0xC50010, 0x0, 1, 0, 1, 8, 1, .rwl⟩
  | .periSmbCfg_speed => ⟨.bar0, 0xC50010, 0x0, 1, 0, 1, 16, 2, .rwl⟩
  | .periSpiCfg_clkDiv => ⟨.bar0, 0xC50018, 0x0, 1, 0, 1, 0, 4, .rwl⟩
  | .periSpiCfg_widthMax => ⟨.bar0, 0xC50018, 0x0, 1, 0, 1, 4, 2, .rwl⟩
  | .periTimer_periodUs => ⟨.bar0, 0xC50100, 0x8, 8, 0, 1, 0, 32, .rwl⟩
  | .periTimer_repeat => ⟨.bar0, 0xC50100, 0x8, 8, 0, 1, 32, 1, .rwl⟩
  | .periTimer_event => ⟨.bar0, 0xC50100, 0x8, 8, 0, 1, 33, 1, .rwl⟩
  | .tckLoopDrop_count => ⟨.bar0, 0xC00000, 0x0, 1, 0, 1, 0, 32, .ro⟩
  | .tckLoopDrop_lastSource => ⟨.bar0, 0xC00000, 0x0, 1, 0, 1, 32, 8, .ro⟩
  | .tckRoute_dest => ⟨.bar0, 0xC01000, 0x10, 256, 2, 8, 0, 9, .rwl⟩
  | .tckRoute_en => ⟨.bar0, 0xC01000, 0x10, 256, 2, 8, 15, 1, .rwl⟩
  | .tckSrc_raised => ⟨.bar0, 0xC02000, 0x8, 256, 0, 1, 0, 32, .ro⟩
  | .tckSrc_merged => ⟨.bar0, 0xC02000, 0x8, 256, 0, 1, 32, 16, .ro⟩
  | .tckDrop_count => ⟨.bar0, 0xC03000, 0x4, 512, 0, 1, 0, 16, .ro⟩
  | .tckMerge_count => ⟨.bar0, 0xC04000, 0x4, 512, 0, 1, 0, 16, .ro⟩
  | .clkStatus_xtalStable => ⟨.bar0, 0x10000, 0x0, 1, 0, 1, 0, 1, .ro⟩
  | .clkStatus_rootLock => ⟨.bar0, 0x10000, 0x0, 1, 0, 1, 1, 1, .ro⟩
  | .clkStatus_thimbleRoot => ⟨.bar0, 0x10000, 0x0, 1, 0, 1, 2, 1, .ro⟩
  | .clkStatus_judgeRestarts => ⟨.bar0, 0x10000, 0x0, 1, 0, 1, 16, 16, .ro⟩
  | .clkOut_out0En => ⟨.bar0, 0x10008, 0x0, 1, 0, 1, 0, 1, .rws⟩
  | .clkOut_out1En => ⟨.bar0, 0x10008, 0x0, 1, 0, 1, 1, 1, .rws⟩
  | .clkOut_out0Depth => ⟨.bar0, 0x10008, 0x0, 1, 0, 1, 8, 4, .rws⟩
  | .clkOut_out0Rate => ⟨.bar0, 0x10008, 0x0, 1, 0, 1, 16, 6, .rws⟩
  | .clkOut_out1Depth => ⟨.bar0, 0x10008, 0x0, 1, 0, 1, 24, 4, .rws⟩
  | .clkOut_out1Rate => ⟨.bar0, 0x10008, 0x0, 1, 0, 1, 32, 6, .rws⟩
  | .clkGateNdl_needle => ⟨.bar0, 0x10010, 0x0, 1, 0, 1, 0, 64, .rwl⟩
  | .clkGate_stitchQ => ⟨.bar0, 0x10018, 0x0, 1, 0, 1, 0, 4, .rwl⟩
  | .clkGate_sv => ⟨.bar0, 0x10018, 0x0, 1, 0, 1, 4, 4, .rwl⟩
  | .clkGate_ddr => ⟨.bar0, 0x10018, 0x0, 1, 0, 1, 8, 8, .rwl⟩
  | .clkGatedTouch_count => ⟨.bar0, 0x10020, 0x0, 1, 0, 1, 0, 32, .ro⟩
  | .clkIsland_divisor => ⟨.bar0, 0x10100, 0x8, 85, 0, 1, 0, 6, .ro⟩
  | .clkIsland_running => ⟨.bar0, 0x10100, 0x8, 85, 0, 1, 6, 1, .ro⟩
  | .clkIsland_inReset => ⟨.bar0, 0x10100, 0x8, 85, 0, 1, 7, 1, .ro⟩
  | .clkIsland_gated => ⟨.bar0, 0x10100, 0x8, 85, 0, 1, 8, 1, .ro⟩
  | .clkIsland_switches => ⟨.bar0, 0x10100, 0x8, 85, 0, 1, 16, 16, .ro⟩
  | .clkIsland_stretched => ⟨.bar0, 0x10100, 0x8, 85, 0, 1, 32, 32, .ro⟩
  | .rstCtrl_perstWarm => ⟨.bar0, 0x20000, 0x0, 1, 0, 1, 0, 1, .rws⟩
  | .rstStatus_lastKind => ⟨.bar0, 0x20008, 0x0, 1, 0, 1, 0, 8, .rws⟩
  | .rstStatus_warmCount => ⟨.bar0, 0x20008, 0x0, 1, 0, 1, 16, 16, .rws⟩
  | .rstStatus_holdCount => ⟨.bar0, 0x20008, 0x0, 1, 0, 1, 32, 16, .rws⟩
  | .rstStatus_hotCount => ⟨.bar0, 0x20008, 0x0, 1, 0, 1, 48, 16, .rws⟩
  | .ddrCfg_rate => ⟨.bar0, 0x40F000, 0x0, 1, 0, 1, 0, 3, .rwl⟩
  | .ddrCfg_recentreMs => ⟨.bar0, 0x40F000, 0x0, 1, 0, 1, 8, 8, .rwl⟩
  | .ddrCfg_dqsMs => ⟨.bar0, 0x40F000, 0x0, 1, 0, 1, 16, 8, .rwl⟩
  | .ddrCfg_migratePct => ⟨.bar0, 0x40F000, 0x0, 1, 0, 1, 24, 6, .rwl⟩
  | .ddrCfg_scrubH => ⟨.bar0, 0x40F000, 0x0, 1, 0, 1, 32, 8, .rwl⟩
  | .ddrSpare_enable => ⟨.bar0, 0x40F008, 0x0, 1, 0, 1, 0, 1, .rwl⟩
  | .ddrMarginFloor_width64ui => ⟨.bar0, 0x40F010, 0x0, 1, 0, 1, 0, 6, .rwl⟩
  | .ddrMarginFloor_heightMv => ⟨.bar0, 0x40F010, 0x0, 1, 0, 1, 8, 8, .rwl⟩
  | .ddrMarginFloor_sweeps => ⟨.bar0, 0x40F010, 0x0, 1, 0, 1, 16, 4, .rwl⟩
  | .ddrStatus_map7 => ⟨.bar0, 0x40F018, 0x0, 1, 0, 1, 0, 1, .ro⟩
  | .ddrStatus_spareUsedBy => ⟨.bar0, 0x40F018, 0x0, 1, 0, 1, 1, 3, .ro⟩
  | .ddrStatus_fencedCh => ⟨.bar0, 0x40F018, 0x0, 1, 0, 1, 8, 8, .ro⟩
  | .ddrStatus_usableGib => ⟨.bar0, 0x40F018, 0x0, 1, 0, 1, 16, 16, .ro⟩
  | .ddrStatus_fencedRank => ⟨.bar0, 0x40F018, 0x0, 1, 0, 1, 32, 16, .ro⟩
  | .ddrMigrate_running => ⟨.bar0, 0x40F020, 0x0, 1, 0, 1, 0, 1, .ro⟩
  | .ddrMigrate_next => ⟨.bar0, 0x40F020, 0x0, 1, 0, 1, 32, 31, .ro⟩
  | .ddrcGeom_present => ⟨.bar0, 0x400000, 0x10000, 8, 0, 1, 0, 1, .ro⟩
  | .ddrcGeom_x4 => ⟨.bar0, 0x400000, 0x10000, 8, 0, 1, 1, 1, .ro⟩
  | .ddrcGeom_die => ⟨.bar0, 0x400000, 0x10000, 8, 0, 1, 2, 2, .ro⟩
  | .ddrcGeom_ranks => ⟨.bar0, 0x400000, 0x10000, 8, 0, 1, 4, 2, .ro⟩
  | .ddrcGeom_rdimm => ⟨.bar0, 0x400000, 0x10000, 8, 0, 1, 6, 1, .ro⟩
  | .ddrcGeom_mismatch => ⟨.bar0, 0x400000, 0x10000, 8, 0, 1, 7, 1, .ro⟩
  | .ddrcGeom_capacityGib => ⟨.bar0, 0x400000, 0x10000, 8, 0, 1, 8, 8, .ro⟩
  | .ddrcState_trained => ⟨.bar0, 0x400008, 0x10000, 8, 0, 1, 0, 1, .ro⟩
  | .ddrcState_selfRefresh => ⟨.bar0, 0x400008, 0x10000, 8, 0, 1, 1, 1, .ro⟩
  | .ddrcState_retired => ⟨.bar0, 0x400008, 0x10000, 8, 0, 1, 2, 1, .ro⟩
  | .ddrcState_fenced => ⟨.bar0, 0x400008, 0x10000, 8, 0, 1, 3, 1, .ro⟩
  | .ddrcState_rankFenced => ⟨.bar0, 0x400008, 0x10000, 8, 0, 1, 4, 2, .ro⟩
  | .ddrcState_sweeping => ⟨.bar0, 0x400008, 0x10000, 8, 0, 1, 6, 1, .ro⟩
  | .ddrcState_spprUsed => ⟨.bar0, 0x400008, 0x10000, 8, 0, 1, 8, 8, .ro⟩
  | .ddrcEccStat_ce => ⟨.bar0, 0x400010, 0x10000, 8, 0, 1, 0, 32, .ro⟩
  | .ddrcEccStat_ue => ⟨.bar0, 0x400010, 0x10000, 8, 0, 1, 32, 16, .ro⟩
  | .ddrcEccStat_scrubPasses => ⟨.bar0, 0x400010, 0x10000, 8, 0, 1, 48, 16, .ro⟩
  | .ddrcRetryStat_crcRetries => ⟨.bar0, 0x400018, 0x10000, 8, 0, 1, 0, 16, .ro⟩
  | .ddrcRetryStat_parityRetries => ⟨.bar0, 0x400018, 0x10000, 8, 0, 1, 16, 16, .ro⟩
  | .ddrcMargin_width64ui => ⟨.bar0, 0x400100, 0x10000, 8, 8, 2, 0, 6, .ro⟩
  | .ddrcMargin_heightMv => ⟨.bar0, 0x400100, 0x10000, 8, 8, 2, 8, 8, .ro⟩
  | .ddrcMargin_worstLane => ⟨.bar0, 0x400100, 0x10000, 8, 8, 2, 16, 7, .ro⟩
  | .ddrcMargin_lowSweeps => ⟨.bar0, 0x400100, 0x10000, 8, 8, 2, 24, 4, .ro⟩
  | .ddrcMargin_sweeps => ⟨.bar0, 0x400100, 0x10000, 8, 8, 2, 32, 32, .ro⟩
  | .svCtrl_ethertype => ⟨.bar0, 0xC23000, 0x0, 1, 0, 1, 0, 16, .rwl⟩
  | .svCtrl_vlanEn => ⟨.bar0, 0xC23000, 0x0, 1, 0, 1, 16, 1, .rwl⟩
  | .svCtrl_vlanId => ⟨.bar0, 0xC23000, 0x0, 1, 0, 1, 17, 12, .rwl⟩
  | .svCtrl_pcp => ⟨.bar0, 0xC23000, 0x0, 1, 0, 1, 29, 3, .rwl⟩
  | .svCtrl_mtu => ⟨.bar0, 0xC23000, 0x0, 1, 0, 1, 32, 14, .rwl⟩
  | .svCtrl_replayWindow => ⟨.bar0, 0xC23000, 0x0, 1, 0, 1, 48, 8, .rwl⟩
  | .svMacBase_base => ⟨.bar0, 0xC23008, 0x0, 1, 0, 1, 12, 36, .rwl⟩
  | .svBerFloor_negExp => ⟨.bar0, 0xC23010, 0x0, 1, 0, 1, 0, 4, .rwl⟩
  | .svBerFloor_windows => ⟨.bar0, 0xC23010, 0x0, 1, 0, 1, 4, 4, .rwl⟩
  | .svMeshState_deviceId => ⟨.bar0, 0xC23018, 0x0, 1, 0, 1, 0, 10, .ro⟩
  | .svMeshState_joined => ⟨.bar0, 0xC23018, 0x0, 1, 0, 1, 10, 1, .ro⟩
  | .svMeshState_members => ⟨.bar0, 0xC23018, 0x0, 1, 0, 1, 11, 11, .ro⟩
  | .svMeshState_lost => ⟨.bar0, 0xC23018, 0x0, 1, 0, 1, 32, 32, .ro⟩
  | .svShard_epoch => ⟨.bar0, 0xC23800, 0x8, 256, 0, 1, 0, 32, .ro⟩
  | .svShard_primary => ⟨.bar0, 0xC23800, 0x8, 256, 0, 1, 32, 10, .ro⟩
  | .svShard_replicas => ⟨.bar0, 0xC23800, 0x8, 256, 0, 1, 42, 4, .ro⟩
  | .svShard_k => ⟨.bar0, 0xC23800, 0x8, 256, 0, 1, 46, 4, .ro⟩
  | .svShard_role => ⟨.bar0, 0xC23800, 0x8, 256, 0, 1, 50, 2, .ro⟩
  | .svPortCtrl_enable => ⟨.bar0, 0xC20000, 0x4000, 4, 0, 1, 0, 1, .rwl⟩
  | .svPortCtrl_kr => ⟨.bar0, 0xC20000, 0x4000, 4, 0, 1, 1, 1, .rwl⟩
  | .svPortCtrl_allow100g => ⟨.bar0, 0xC20000, 0x4000, 4, 0, 1, 2, 1, .rwl⟩
  | .svPortState_linkUp => ⟨.bar0, 0xC20008, 0x4000, 4, 0, 1, 0, 1, .ro⟩
  | .svPortState_lanes => ⟨.bar0, 0xC20008, 0x4000, 4, 0, 1, 1, 2, .ro⟩
  | .svPortState_keyed => ⟨.bar0, 0xC20008, 0x4000, 4, 0, 1, 3, 1, .ro⟩
  | .svPortState_retired => ⟨.bar0, 0xC20008, 0x4000, 4, 0, 1, 4, 1, .ro⟩
  | .svPortState_laneRetired => ⟨.bar0, 0xC20008, 0x4000, 4, 0, 1, 8, 4, .ro⟩
  | .svPortState_paths => ⟨.bar0, 0xC20008, 0x4000, 4, 0, 1, 16, 11, .ro⟩
  | .svPortStat_tx => ⟨.bar0, 0xC20010, 0x4000, 4, 0, 1, 0, 32, .ro⟩
  | .svPortStat_rx => ⟨.bar0, 0xC20010, 0x4000, 4, 0, 1, 32, 32, .ro⟩
  | .svPortErr_retx => ⟨.bar0, 0xC20018, 0x4000, 4, 0, 1, 0, 32, .ro⟩
  | .svPortErr_fecUncorr => ⟨.bar0, 0xC20018, 0x4000, 4, 0, 1, 32, 16, .ro⟩
  | .svPortErr_discarded => ⟨.bar0, 0xC20018, 0x4000, 4, 0, 1, 48, 16, .ro⟩
  | .svLaneBer_corrected => ⟨.bar0, 0xC20100, 0x4000, 4, 8, 4, 0, 32, .ro⟩
  | .svLaneBer_over => ⟨.bar0, 0xC20100, 0x4000, 4, 8, 4, 32, 4, .ro⟩
  | .fitCtrl_retireEn => ⟨.bar0, 0xC30000, 0x0, 1, 0, 1, 0, 7, .rwl⟩
  | .fitCtrl_adapt => ⟨.bar0, 0xC30000, 0x0, 1, 0, 1, 8, 1, .rwl⟩
  | .fitCtrl_avoidEn => ⟨.bar0, 0xC30000, 0x0, 1, 0, 1, 9, 1, .rwl⟩
  | .fitStatus_alive => ⟨.bar0, 0xC30008, 0x0, 1, 0, 1, 0, 1, .ro⟩
  | .fitStatus_settled => ⟨.bar0, 0xC30008, 0x0, 1, 0, 1, 1, 1, .ro⟩
  | .fitStatus_thermalStep => ⟨.bar0, 0xC30008, 0x0, 1, 0, 1, 2, 2, .ro⟩
  | .fitStatus_powerStep => ⟨.bar0, 0xC30008, 0x0, 1, 0, 1, 4, 2, .ro⟩
  | .fitStatus_hottestC => ⟨.bar0, 0xC30008, 0x0, 1, 0, 1, 8, 8, .ro⟩
  | .fitStatus_powerW => ⟨.bar0, 0xC30008, 0x0, 1, 0, 1, 16, 12, .ro⟩
  | .fitStatus_restarts => ⟨.bar0, 0xC30008, 0x0, 1, 0, 1, 32, 8, .rws⟩
  | .fitCoal_windowUs => ⟨.bar0, 0xC30010, 0x0, 1, 0, 1, 0, 11, .rwl⟩
  | .fitCoal_policyMs => ⟨.bar0, 0xC30010, 0x0, 1, 0, 1, 16, 16, .rwl⟩
  | .fitAdapt_periodMs => ⟨.bar0, 0xC30018, 0x0, 1, 0, 1, 0, 10, .rwl⟩
  | .fitThermal_throttleC => ⟨.bar0, 0xC30020, 0x0, 1, 0, 1, 0, 8, .rwl⟩
  | .fitThermal_releaseC => ⟨.bar0, 0xC30020, 0x0, 1, 0, 1, 8, 8, .rwl⟩
  | .fitPower_capW => ⟨.bar0, 0xC30028, 0x0, 1, 0, 1, 0, 9, .rwl⟩
  | .fitLog_lastSeq => ⟨.bar0, 0xC30030, 0x0, 1, 0, 1, 0, 32, .ro⟩
  | .fitLog_used => ⟨.bar0, 0xC30030, 0x0, 1, 0, 1, 32, 12, .ro⟩
  | .fitLog_half => ⟨.bar0, 0xC30030, 0x0, 1, 0, 1, 44, 1, .ro⟩
  | .fitBucket_threshold => ⟨.bar0, 0xC30100, 0x8, 7, 0, 1, 0, 16, .rwl⟩
  | .fitBucket_windowS => ⟨.bar0, 0xC30100, 0x8, 7, 0, 1, 32, 20, .rwl⟩
  | .fitBitmap_reporters => ⟨.bar0, 0xC31000, 0x10, 64, 0, 1, 0, 128, .ro⟩
  | .fitBitmapTag_seq => ⟨.bar0, 0xC33000, 0x8, 64, 0, 1, 0, 32, .ro⟩
  | .fitTenant_effective => ⟨.bar0, 0xC34000, 0x8, 256, 0, 1, 0, 16, .ro⟩
  | .fitTenant_weight => ⟨.bar0, 0xC34000, 0x8, 256, 0, 1, 16, 16, .ro⟩
  | .fitTenant_minimum => ⟨.bar0, 0xC34000, 0x8, 256, 0, 1, 32, 16, .ro⟩
  | .fitTenant_maximum => ⟨.bar0, 0xC34000, 0x8, 256, 0, 1, 48, 16, .ro⟩
  | .thmLc_state => ⟨.bar0, 0xC40000, 0x0, 1, 0, 1, 0, 2, .ro⟩
  | .thmLc_debugOpen => ⟨.bar0, 0xC40000, 0x0, 1, 0, 1, 2, 1, .ro⟩
  | .thmLc_sealEpoch => ⟨.bar0, 0xC40000, 0x0, 1, 0, 1, 8, 7, .ro⟩
  | .thmLc_rollback => ⟨.bar0, 0xC40000, 0x0, 1, 0, 1, 16, 8, .ro⟩
  | .thmLc_tamperUsed => ⟨.bar0, 0xC40000, 0x0, 1, 0, 1, 24, 5, .ro⟩
  | .thmLc_slot => ⟨.bar0, 0xC40000, 0x0, 1, 0, 1, 32, 1, .ro⟩
  | .thmLc_trial => ⟨.bar0, 0xC40000, 0x0, 1, 0, 1, 33, 1, .ro⟩
  | .thmLc_svn => ⟨.bar0, 0xC40000, 0x0, 1, 0, 1, 34, 8, .ro⟩
  | .thmLcReq_target => ⟨.bar0, 0xC40008, 0x0, 1, 0, 1, 0, 2, .rwl⟩
  | .thmLcReq_confirm => ⟨.bar0, 0xC40008, 0x0, 1, 0, 1, 16, 16, .rwl⟩
  | .thmOwnerHash_hash => ⟨.bar0, 0xC40010, 0x8, 8, 0, 1, 0, 64, .rwl⟩
  | .thmTamperCfg_inEn => ⟨.bar0, 0xC40050, 0x0, 1, 0, 1, 0, 4, .rwl⟩
  | .thmTamperCfg_inHigh => ⟨.bar0, 0xC40050, 0x0, 1, 0, 1, 4, 4, .rwl⟩
  | .thmTamperCfg_meshEn => ⟨.bar0, 0xC40050, 0x0, 1, 0, 1, 8, 1, .rwl⟩
  | .thmTamperCfg_voltEn => ⟨.bar0, 0xC40050, 0x0, 1, 0, 1, 9, 1, .rwl⟩
  | .thmTamperCfg_tempEn => ⟨.bar0, 0xC40050, 0x0, 1, 0, 1, 10, 1, .rwl⟩
  | .thmTamperCfg_clkEn => ⟨.bar0, 0xC40050, 0x0, 1, 0, 1, 11, 1, .rwl⟩
  | .thmTamperStat_last => ⟨.bar0, 0xC40058, 0x0, 1, 0, 1, 0, 16, .rw1c⟩
  | .thmTamperStat_count => ⟨.bar0, 0xC40058, 0x0, 1, 0, 1, 16, 16, .ro⟩
  | .thmTrng_rctFail => ⟨.bar0, 0xC40060, 0x0, 1, 0, 1, 0, 16, .ro⟩
  | .thmTrng_aptFail => ⟨.bar0, 0xC40060, 0x0, 1, 0, 1, 16, 16, .ro⟩
  | .thmTrng_reseeds => ⟨.bar0, 0xC40060, 0x0, 1, 0, 1, 32, 32, .ro⟩
  | .thmProg_base => ⟨.bar0, 0xC40068, 0x0, 1, 0, 1, 22, 26, .rwl⟩
  | .thmProg_size4mib => ⟨.bar0, 0xC40068, 0x0, 1, 0, 1, 48, 8, .rwl⟩
  | .msix_addr => ⟨.bar0, 0xF00000, 0x10, 2048, 0, 1, 0, 64, .rwl⟩
  | .msix_data => ⟨.bar0, 0xF00000, 0x10, 2048, 0, 1, 64, 32, .rwl⟩
  | .msix_mask => ⟨.bar0, 0xF00000, 0x10, 2048, 0, 1, 96, 1, .rwl⟩
  | .vfMsix_addr => ⟨.vf, 0x8000, 0x0, 256, 16, 64, 0, 64, .rw⟩
  | .vfMsix_data => ⟨.vf, 0x8000, 0x0, 256, 16, 64, 64, 32, .rw⟩
  | .vfMsix_mask => ⟨.vf, 0x8000, 0x0, 256, 16, 64, 96, 1, .rw⟩
  | .pba_word => ⟨.bar0, 0xF80000, 0x8, 32, 0, 1, 0, 64, .ro⟩
  | .vfPba_word => ⟨.vf, 0xC000, 0x0, 256, 0, 1, 0, 64, .ro⟩

/-- The latency model of NDL_LAT (R311): (minimum, maximum) for each row, by stepping. -/
def latTable (p : Part) : List (Nat × Nat) :=
  match p with
  | .a1 => [(1, 1), (1, 1), (3, 3), (20, 40), (3, 3), (44, 130), (131, 1100), (4, 4), (2, 5), (6, 6), (40, 40),
            (1024, 1024), (2, 2), (2, 2), (4, 4), (1, 1), (1, 1), (12, 12), (5, 5)]
  | _ => [(1, 1), (1, 1), (3, 3), (18, 34), (3, 3), (40, 120), (121, 1100), (4, 4), (2, 5), (6, 6), (40, 40),
          (1024, 1024), (2, 2), (2, 2), (4, 4), (1, 1), (1, 1), (12, 12), (5, 5)]

/-- Default bucket thresholds T of R433, by FIT_BUCKET index. -/
def bucketDefaultT : List Nat := [3, 2, 256, 512, 1024, 16384, 4096]

/-- Default bucket windows W of R433 in seconds, by FIT_BUCKET index. -/
def bucketDefaultW : List Nat := [86400, 3600, 3600, 86400, 86400, 10, 3600]

/-- The Reset column of the register tables; element `i` of the field on part `p`. The fuse-loaded fields of THM_LC,
THM_OWNER_HASH and BOLT_BANK_STATE.repaired_cols stand at 0 here and are loaded from the fuses of the state (log 5). -/
def Fld.reset (p : Part) (i : Nat) : Fld → Nat
  | .globalId_stepping => p.stepping
  | .globalId_needleCount => p.needleCount
  | .globalId_stitchCount => p.stitchCount
  | .globalId_deviceId => 25600
  | .ringCtrl_fetchMax => 32
  | .ringPoll_hotMax => 16
  | .ringPoll_warmMax => 96
  | .ringPoll_promotePolls => 4
  | .ringPoll_demotePolls => 256
  | .ringHoldLimit_limitMs => 50
  | .ringCqState_phase => 1
  | .vtCtrl_sizeM20 => 4
  | .vtCtrl_keySlotMib => 16
  | .vtShard_size => if i = 0 then 4096 else 0
  | .shtCtrl_chunkKib => 16
  | .stcSelftest_intervalMs => 1000
  | .ndlCtrl_hold => 1
  | .ndlStatus_inReset => 1
  | .ndlStatus_priv => 2
  | .ndlCritMax_cap => 1024
  | .ndlLat_min => (latTable p).getD (i % 19) (0, 0) |>.1
  | .ndlLat_max => (latTable p).getD (i % 19) (0, 0) |>.2
  | .boltPart_vaultBanks => 4
  | .boltPart_sessionBanks => 4
  | .boltPart_cacheBanks => 16
  | .boltMode_maint => 1
  | .boltLayout_vault => 4
  | .boltLayout_session => 4
  | .boltLayout_scratch => 24
  | .boltLayout_cache => 16
  | .boltScrub_rateMbs => 1000
  | .boltPwrIdle_idleUs => 100
  | .hubMasterCfg_maxOut => 64
  | .hubMasterCfg_weight => 1
  | .periGpioCfg_safeHiz => 65535
  | .periSmbCfg_smb0Addr => 74
  | .periSmbCfg_smb0En => 1
  | .periSmbCfg_speed => 1
  | .periSpiCfg_clkDiv => 11
  | .periSpiCfg_widthMax => 2
  | .clkOut_out0En => 1
  | .clkOut_out1En => 1
  | .clkGateNdl_needle => 2 ^ p.needleCount - 1
  | .clkGate_stitchQ => 2 ^ (p.stitchCount / 4) - 1
  | .clkGate_sv => 15
  | .clkGate_ddr => 255
  | .clkIsland_inReset => 1
  | .rstStatus_lastKind => 1
  | .ddrCfg_rate => 5
  | .ddrCfg_recentreMs => 100
  | .ddrCfg_dqsMs => 10
  | .ddrCfg_migratePct => 25
  | .ddrCfg_scrubH => 24
  | .ddrMarginFloor_width64ui => 12
  | .ddrMarginFloor_heightMv => 24
  | .ddrMarginFloor_sweeps => 3
  | .svCtrl_ethertype => 34997
  | .svCtrl_mtu => 9216
  | .svCtrl_replayWindow => 64
  | .svMacBase_base => 536870912
  | .svBerFloor_negExp => 5
  | .svBerFloor_windows => 3
  | .svPortCtrl_enable => 1
  | .svPortCtrl_allow100g => 1
  | .fitCtrl_retireEn => 63
  | .fitCtrl_adapt => 1
  | .fitCtrl_avoidEn => 1
  | .fitCoal_windowUs => 1000
  | .fitCoal_policyMs => 1000
  | .fitAdapt_periodMs => 10
  | .fitThermal_throttleC => 100
  | .fitThermal_releaseC => 97
  | .fitPower_capW => 240
  | .fitBucket_threshold => bucketDefaultT.getD i 0
  | .fitBucket_windowS => bucketDefaultW.getD i 0
  | .fitTenant_effective => 1
  | .fitTenant_weight => 1
  | .fitTenant_minimum => 1
  | .fitTenant_maximum => 1
  | .thmTamperCfg_inEn => 15
  | .thmTamperCfg_meshEn => 1
  | .thmTamperCfg_voltEn => 1
  | .thmTamperCfg_tempEn => 1
  | .thmTamperCfg_clkEn => 1
  | .msix_mask => 1
  | .vfMsix_mask => 1
  | _ => 0

/-- Part 0 of the list of all fields. -/
def fldList0 : List Fld :=
  [.globalId_stepping, .globalId_needleCount, .globalId_stitchCount, .globalId_deviceId,
   .globalReady_bits, .globalSetupLock_lock, .globalSetupLock_checkBusy, .globalSetupErr_ringAssign,
   .globalSetupErr_hostArea, .globalSetupErr_boltPartition, .globalSetupErr_ddrSpare, .globalSetupErr_ddrRegions,
   .globalSetupErr_writeDuringCheck, .globalSetupErr_lockRefused, .globalProfile_requested, .globalProfile_active,
   .globalProfile_switching, .ringDbBase_addr, .ringSumBase_addr, .ringStatusBase_addr,
   .ringCtrl_forceSequence, .ringCtrl_sequence, .ringCtrl_fetchMax, .ringPoll_hotMax,
   .ringPoll_warmMax, .ringPoll_promotePolls, .ringPoll_demotePolls, .ringHoldLimit_limitMs,
   .ringStat_casRetries, .ringStat_held, .ringGroup_function, .ringGroup_valid,
   .ringSqBase_addr, .ringCqBase_addr, .ringSqCfg_enable, .ringSqCfg_sizeLog2,
   .ringSqCfg_classPin, .ringSqCfg_cq, .ringCqCfg_enable, .ringCqCfg_sizeLog2,
   .ringCqCfg_irqEnable, .ringCqCfg_vector, .ringCqCoal_countM1, .ringCqCoal_timerUs,
   .ringSqState_head, .ringSqState_class, .ringSqState_stopped, .ringSqState_lastSeq,
   .ringCqState_tail, .ringCqState_phase, .ringCqState_stopped, .ringVfInfo_groupsOwned,
   .ringVfInfo_groupsVisible, .ringVfLock_lock, .ringVfLock_checkBusy, .ringVfLock_refused,
   .ringVfGroup_group0, .ringVfGroup_group1, .ringVfGroup_group2, .ringVfGroup_group3]

/-- Part 1 of the list of all fields. -/
def fldList1 : List Fld :=
  [.vtBase_addr, .vtExt_addr, .vtExt_size64mib, .vtCtrl_sizeM20,
   .vtCtrl_keySlotMib, .vtTimeBase_unixS, .vtStatus_live, .vtStatus_sweepRunning,
   .vtStatus_epoch, .vtStatus_sweepNext, .vtSessions_open, .vtCacheStat_hits,
   .vtCacheStat_misses, .vtShard_base, .vtShard_size, .shtCtrl_chunkKib,
   .shtCtrl_inlineDdr, .shtSbufBase_offset, .shtStat_rerun, .shtStat_bufWait,
   .shtStat_collided, .shtBytes_bytes, .shtRrState_inFlight, .shtRrState_waiting,
   .shtRrState_retired, .stcSelftest_intervalMs, .stcPipeState_ready, .stcPipeState_retired,
   .stcPipeState_gated, .stcPipeState_selfTest, .stcPipeState_lastTestFailed, .stcPipeState_ksSlots,
   .stcPipeState_jobFaults, .stcPipeState_jobs, .stcKsStat_hits, .stcKsStat_misses,
   .ndlCtrl_remap, .ndlCtrl_debug, .ndlCtrl_vaultAssign, .ndlCtrl_engineReset,
   .ndlCtrl_hold, .ndlCtrl_inService, .ndlStatus_ready, .ndlStatus_lockup,
   .ndlStatus_vaultClass, .ndlStatus_inReset, .ndlStatus_handlerLevel, .ndlStatus_priv,
   .ndlStatus_retired, .ndlStatus_hazardKind, .ndlStatus_lastCause, .ndlFpstate_state,
   .ndlCritMax_cap, .ndlPerf_issued, .ndlPerf_held, .ndlCount_critOverrun,
   .ndlCount_hazard, .ndlCount_watchdog, .ndlLat_min, .ndlLat_max]

/-- Part 2 of the list of all fields. -/
def fldList2 : List Fld :=
  [.ndlReady_ready, .boltPart_vaultBanks, .boltPart_sessionBanks, .boltPart_cacheBanks,
   .boltMode_sessionPart, .boltMode_scratchPart, .boltMode_maint, .boltLayout_vault,
   .boltLayout_session, .boltLayout_scratch, .boltLayout_cache, .boltScrub_rateMbs,
   .boltPwrIdle_idleUs, .boltKeep_scratch, .boltStat_collided, .boltStat_writeLost,
   .boltStat_refused, .boltEccStat_corrected, .boltEccStat_uncorrectable, .boltEccStat_scrubPasses,
   .boltBankCfg_master, .boltBankCfg_dedicated, .boltBankCfg_pwr, .boltBankState_power,
   .boltBankState_partition, .boltBankState_retired, .boltBankState_donor, .boltBankState_replaces,
   .boltBankState_repairedCols, .boltBankState_ce, .boltBankState_ue, .boltWin_valid,
   .boltWin_base, .boltWin_size128, .hubErrLog_addr, .hubErrLog_master,
   .hubErrLog_kind, .hubErrLog_valid, .hubMasterCfg_maxOut, .hubMasterCfg_weight,
   .hubStat_grants, .hubStat_decerr, .hubStat_refusedAbort, .periGpioCfg_dir,
   .periGpioCfg_safeVal, .periGpioCfg_safeHiz, .periGpioEvt_edgeEn, .periGpioEvt_edgeFall,
   .periSmbCfg_smb0Addr, .periSmbCfg_smb0En, .periSmbCfg_smb1En, .periSmbCfg_speed,
   .periSpiCfg_clkDiv, .periSpiCfg_widthMax, .periTimer_periodUs, .periTimer_repeat,
   .periTimer_event, .tckLoopDrop_count, .tckLoopDrop_lastSource, .tckRoute_dest]

/-- Part 3 of the list of all fields. -/
def fldList3 : List Fld :=
  [.tckRoute_en, .tckSrc_raised, .tckSrc_merged, .tckDrop_count,
   .tckMerge_count, .clkStatus_xtalStable, .clkStatus_rootLock, .clkStatus_thimbleRoot,
   .clkStatus_judgeRestarts, .clkOut_out0En, .clkOut_out1En, .clkOut_out0Depth,
   .clkOut_out0Rate, .clkOut_out1Depth, .clkOut_out1Rate, .clkGateNdl_needle,
   .clkGate_stitchQ, .clkGate_sv, .clkGate_ddr, .clkGatedTouch_count,
   .clkIsland_divisor, .clkIsland_running, .clkIsland_inReset, .clkIsland_gated,
   .clkIsland_switches, .clkIsland_stretched, .rstCtrl_perstWarm, .rstStatus_lastKind,
   .rstStatus_warmCount, .rstStatus_holdCount, .rstStatus_hotCount, .ddrCfg_rate,
   .ddrCfg_recentreMs, .ddrCfg_dqsMs, .ddrCfg_migratePct, .ddrCfg_scrubH,
   .ddrSpare_enable, .ddrMarginFloor_width64ui, .ddrMarginFloor_heightMv, .ddrMarginFloor_sweeps,
   .ddrStatus_map7, .ddrStatus_spareUsedBy, .ddrStatus_fencedCh, .ddrStatus_usableGib,
   .ddrStatus_fencedRank, .ddrMigrate_running, .ddrMigrate_next, .ddrcGeom_present,
   .ddrcGeom_x4, .ddrcGeom_die, .ddrcGeom_ranks, .ddrcGeom_rdimm,
   .ddrcGeom_mismatch, .ddrcGeom_capacityGib, .ddrcState_trained, .ddrcState_selfRefresh,
   .ddrcState_retired, .ddrcState_fenced, .ddrcState_rankFenced, .ddrcState_sweeping]

/-- Part 4 of the list of all fields. -/
def fldList4 : List Fld :=
  [.ddrcState_spprUsed, .ddrcEccStat_ce, .ddrcEccStat_ue, .ddrcEccStat_scrubPasses,
   .ddrcRetryStat_crcRetries, .ddrcRetryStat_parityRetries, .ddrcMargin_width64ui, .ddrcMargin_heightMv,
   .ddrcMargin_worstLane, .ddrcMargin_lowSweeps, .ddrcMargin_sweeps, .svCtrl_ethertype,
   .svCtrl_vlanEn, .svCtrl_vlanId, .svCtrl_pcp, .svCtrl_mtu,
   .svCtrl_replayWindow, .svMacBase_base, .svBerFloor_negExp, .svBerFloor_windows,
   .svMeshState_deviceId, .svMeshState_joined, .svMeshState_members, .svMeshState_lost,
   .svShard_epoch, .svShard_primary, .svShard_replicas, .svShard_k,
   .svShard_role, .svPortCtrl_enable, .svPortCtrl_kr, .svPortCtrl_allow100g,
   .svPortState_linkUp, .svPortState_lanes, .svPortState_keyed, .svPortState_retired,
   .svPortState_laneRetired, .svPortState_paths, .svPortStat_tx, .svPortStat_rx,
   .svPortErr_retx, .svPortErr_fecUncorr, .svPortErr_discarded, .svLaneBer_corrected,
   .svLaneBer_over, .fitCtrl_retireEn, .fitCtrl_adapt, .fitCtrl_avoidEn,
   .fitStatus_alive, .fitStatus_settled, .fitStatus_thermalStep, .fitStatus_powerStep,
   .fitStatus_hottestC, .fitStatus_powerW, .fitStatus_restarts, .fitCoal_windowUs,
   .fitCoal_policyMs, .fitAdapt_periodMs, .fitThermal_throttleC, .fitThermal_releaseC]

/-- Part 5 of the list of all fields. -/
def fldList5 : List Fld :=
  [.fitPower_capW, .fitLog_lastSeq, .fitLog_used, .fitLog_half,
   .fitBucket_threshold, .fitBucket_windowS, .fitBitmap_reporters, .fitBitmapTag_seq,
   .fitTenant_effective, .fitTenant_weight, .fitTenant_minimum, .fitTenant_maximum,
   .thmLc_state, .thmLc_debugOpen, .thmLc_sealEpoch, .thmLc_rollback,
   .thmLc_tamperUsed, .thmLc_slot, .thmLc_trial, .thmLc_svn,
   .thmLcReq_target, .thmLcReq_confirm, .thmOwnerHash_hash, .thmTamperCfg_inEn,
   .thmTamperCfg_inHigh, .thmTamperCfg_meshEn, .thmTamperCfg_voltEn, .thmTamperCfg_tempEn,
   .thmTamperCfg_clkEn, .thmTamperStat_last, .thmTamperStat_count, .thmTrng_rctFail,
   .thmTrng_aptFail, .thmTrng_reseeds, .thmProg_base, .thmProg_size4mib,
   .msix_addr, .msix_data, .msix_mask, .vfMsix_addr,
   .vfMsix_data, .vfMsix_mask, .pba_word, .vfPba_word]

/-- All fields, in the order of the spec. -/
def fldAll : List Fld := fldList0 ++ fldList1 ++ fldList2 ++ fldList3 ++ fldList4 ++ fldList5

/-- The number of elements of a field. -/
def Fld.count (f : Fld) : Nat := f.spec.oCount * f.spec.iCount

/-- The key under which element `i` of field `f` stands in the register store; no field has more than 65,536 elements. -/
def Fld.key (f : Fld) (i : Nat) : Nat := f.ctorIdx * 65536 + i % 65536

/-- The field and the element a key names (none for a key past the last field). -/
def fldOfKey (k : Nat) : Option (Fld × Nat) :=
  match fldAll[k / 65536]? with
  | some f => some (f, k % 65536)
  | none => none

/-- The byte offset of element `i` of a field. -/
def Fld.byteOffset (f : Fld) (i : Nat) : Nat :=
  let s := f.spec
  s.base + s.oStride * (i / s.iCount) + s.iStride * (i % s.iCount)

end Sys2Proof.Machine
end

