-- ==== Sys2Proof/Machine/Store.lean ====
section
/-! DEFINITION. Sparse stores in one canonical form: lists of (key, value) pairs with strictly rising keys and no entry
that equals what an unlisted key reads as. Every large array of the machine (registers, memories, tables) is one. -/

namespace Sys2Proof.Machine.Store

variable {α : Type} [DecidableEq α]

/-- The value at key `k`; an unlisted key reads as `d k`. -/
def get (d : Nat → α) : List (Nat × α) → Nat → α
  | [], k => d k
  | (a, v) :: m, k => if a = k then v else get d m k

/-- A cell to stand before `m`, left out when it equals its default. -/
def cell (d : Nat → α) (k : Nat) (v : α) (m : List (Nat × α)) : List (Nat × α) :=
  if v = d k then m else (k, v) :: m

/-- Stands `v` at key `k`, in place of an entry of that key. -/
def insert : List (Nat × α) → Nat → α → List (Nat × α)
  | [], k, v => [(k, v)]
  | (a, w) :: m, k, v =>
    if k < a then (k, v) :: (a, w) :: m
    else if k = a then (k, v) :: m
    else (a, w) :: insert m k v

/-- Writes `v` at key `k`, keeping the canonical form: writing the default removes the entry. -/
def put (d : Nat → α) (m : List (Nat × α)) (k : Nat) (v : α) : List (Nat × α) :=
  if v = d k then m.filter (fun e => e.1 != k) else insert m k v

/-- Every key of `m` lies above `lo` (or `lo` is none), keys rise strictly, and no entry equals its default. -/
def wfFrom (d : Nat → α) : Option Nat → List (Nat × α) → Bool
  | _, [] => true
  | lo, (a, v) :: m =>
    (match lo with | none => true | some l => decide (l < a)) && decide (v ≠ d a) && wfFrom d (some a) m

/-- The canonical form. -/
def wf (d : Nat → α) (m : List (Nat × α)) : Bool := wfFrom d none m

/-- `n` consecutive values from key `k`. -/
def slice (d : Nat → α) (m : List (Nat × α)) (k : Nat) : Nat → List α
  | 0 => []
  | n + 1 => get d m k :: slice d m (k + 1) n

/-- Writes the list at consecutive keys from `k`. -/
def putAll (d : Nat → α) : List (Nat × α) → Nat → List α → List (Nat × α)
  | m, _, [] => m
  | m, k, v :: vs => putAll d (put d m k v) (k + 1) vs

/-- The entries of `n` consecutive keys from `k`. -/
def window (m : List (Nat × α)) (k n : Nat) : List (Nat × α) := m.filter (fun e => decide (k ≤ e.1) && decide (e.1 < k + n))

/-- As `slice`, over the entries of the run alone. -/
def sliceRun (d : Nat → α) (m : List (Nat × α)) (k n : Nat) : List α := slice d (window m k n) k n

/-- As `putAll`, over the entries of the run alone. -/
def putRun (d : Nat → α) (m : List (Nat × α)) (k : Nat) (vs : List α) : List (Nat × α) :=
  m.filter (fun e => decide (e.1 < k)) ++
    (putAll d (window m k vs.length) k vs ++ m.filter (fun e => decide (k + vs.length ≤ e.1)))

/-- Applies `f` at key `k`. -/
def modify (d : Nat → α) (m : List (Nat × α)) (k : Nat) (f : α → α) : List (Nat × α) :=
  put d m k (f (get d m k))

end Sys2Proof.Machine.Store
end

