-- ==== Sys2Proof/Machine/State.lean ====
section
/-! DEFINITION. State as plain data: everything the spec gives the block, and the queue of waiting commands. -/

namespace Sys2Proof.Machine

open Sys2Proof

/-! ## Why a step can stop -/

/-- Reasons the block stops with a fault: none. Whatever goes wrong inside the block is a status, a record, a reset or
a pin level the spec gives, so no command of this model ends in a fault. Safe: nothing is cut off by it. -/
inductive Fault where
  deriving DecidableEq, Repr

/-- Reasons a command has no meaning. -/
inductive Refusal where
  /-- Raised by the dispatcher for a command whose meaning is not written; safe, since the run ends there. -/
  | notModelled (mnemonic : String)
  deriving DecidableEq, Repr

/-! ## Errors -/

/-- An error record (R440) but for its phase bit, which its slot gives, and its seq, which writing gives. -/
structure ErrRec where
  origin    : Nat
  cls       : Nat
  severity  : Nat
  reporters : Nat
  slot      : Option Nat
  t0        : Nat
  detail    : Nat
  spanUs    : Nat
  seq       : Nat
  deriving DecidableEq, Repr

/-- A report on its way to a record: origin, class, severity, detail, reporter bit of R443. -/
structure Report where
  origin   : Nat
  cls      : Nat
  severity : Nat
  detail   : Nat
  reporter : Nat
  time     : Nat
  deriving DecidableEq, Repr

/-- An open coalescing window (R442). -/
structure ErrWindow where
  origin    : Nat
  cls       : Nat
  severity  : Nat
  reporters : Nat
  mask      : Nat
  t0        : Nat
  t1        : Nat
  detail    : Nat
  deriving DecidableEq, Repr

/-- The error ring as ERROR_RING_SETUP named it (R84). -/
structure ErrRing where
  base     : Nat
  k        : Nat
  vector   : Nat
  countM1  : Nat
  timerUs  : Nat
  consumer : Nat
  prod     : Nat
  seen     : Nat
  unsig    : Nat
  deriving DecidableEq, Repr

/-- Error reporting: open windows, the buffer of R86, counts, the ring. -/
structure ErrState where
  windows  : List ErrWindow
  buffer   : List ErrRec
  dropped  : Nat
  overflow : Bool
  ring     : Option ErrRing
  readOut  : Bool
  nextSeq  : Nat
  nextSlot : Nat
  held     : List Report
  heldDrop : Nat
  deriving DecidableEq, Repr

/-! ## Host attachment -/

/-- Configuration-space control of one function (R30, R31, R43, R47). -/
structure FnCfg where
  bme : Bool
  ctl : CfgControls
  deriving DecidableEq, Repr

/-- What the device put on the host link. -/
inductive Out where
  /-- an MSI-X message: function, message address, data (R81) -/
  | msix (fn addr data : Nat)
  /-- a read of host memory: requester function, address, bytes, and its Relaxed Ordering attribute (R28) -/
  | read (fn addr len : Nat) (relaxed : Bool)
  /-- a posted write of at most Max Payload Size: the same; the bytes stand in `host` -/
  | write (fn addr len : Nat) (relaxed : Bool)
  /-- a 64-bit CAS on a summary word: word index, compare, swap (R61) -/
  | cas (word cmp swap : Nat)
  /-- an AER event: Completer Abort logged (R35), Completion Timeout, Unsupported Request, Completer Abort of a read -/
  | aerCompleterAbort
  | aerRead (why : ReadFail)
  /-- a read answered with Completer Abort (R35), a completed register read and its value (R36) -/
  | completerAbort
  | regData (value : Nat)
  deriving DecidableEq, Repr

/-- A completion record before it is written (R76): owning function, SQ, cid, result, status, irq_now. -/
structure Record where
  fn     : Nat
  sq     : Nat
  cid    : Nat
  result : Nat
  status : Nat
  irqNow : Bool
  deriving DecidableEq, Repr

/-- The PCIe side: configuration space per function, the link, what went out, and the records that wait for a Bus Master
Enable (R379). The link's speed, in 0.1 GT/s, its width and whether it runs in FLIT mode are as last negotiated (R28). -/
structure Pcie where
  fns       : List (Nat × FnCfg)
  linkUp    : Bool
  speed     : Nat
  width     : Nat
  flit      : Bool
  out       : List Out
  heldRecs  : List Record
  deriving DecidableEq, Repr

/-! ## Rings -/

/-- What the ring engine holds of one SQ beside its registers: started; pending (R60, R62); the tail last read; how many slot
reads of its doorbell are outstanding, and how many of those were issued before a re-read marked it pending; descriptors
asked for that have not landed; consumed; the tail it was consumed to while its summary bit is being cleared (R61), and the
tails of the clears whose re-reads are outstanding (R62); the runs of polls (R67) and the last productive one. -/
structure SqDyn where
  started  : Bool
  pend     : Bool
  tail     : Nat
  reading  : Nat
  stale    : Nat
  fetching : Nat
  consumed : Bool
  clearing : Option Nat
  rereading : List Nat
  prodRun  : Nat
  emptyRun : Nat
  lastProd : Option Nat
  deriving DecidableEq, Repr

/-- What the ring engine holds of one CQ beside its registers: unsignalled records and the time of the first. -/
structure CqDyn where
  started : Bool
  unsig   : Nat
  since   : Nat
  deriving DecidableEq, Repr

/-- A CAS on a summary word that has not returned (R61): compare value, swap value, the SQs it clears. -/
structure CasOut where
  word : Nat
  cmp  : Nat
  swap : Nat
  sqs  : List Nat
  deriving DecidableEq, Repr

/-- How far a fetched descriptor has come. -/
inductive WorkAt where
  | landed
  | fenced
  | held (since : Nat)
  | running
  deriving DecidableEq, Repr

/-- A table entry (R131) with its material in the clear. The stored, encrypted bytes are computed from it and the table
key (Machine/Vault). -/
structure Entry where
  live       : Bool
  epoch      : Bool
  pend       : Bool
  generation : Nat
  shard      : Nat
  tenant     : Nat
  keyType    : Nat
  usage      : Nat
  nonceSalt  : Nat
  writeCount : Nat
  created    : Nat
  expiry     : Nat
  material   : List Byte
  extFirst   : Nat
  extCount   : Nat
  deriving DecidableEq, Repr

/-- A descriptor the device has fetched and not completed (R77). -/
structure Work where
  sq     : Nat
  opcode : Nat
  d      : Desc
  h      : HostView
  fin    : InvokeEnd
  flag   : Bool
  at_    : WorkAt
  /-- a BACKUP_RESTORE whose writes go through the mesh: the records left, the first in progress, and those written (R143) -/
  resume : Option (List (Nat × Entry) × Nat) := none
  deriving DecidableEq, Repr

/-- Host bytes that a descriptor in flight has written (R102): its SQ and cid, whether it is still in flight, and the other
descriptors that have been in flight beside it and still are. -/
structure HostSpot where
  fn     : Nat
  lo     : Nat
  n      : Nat
  owner  : Nat × Nat
  live   : Bool
  others : List (Nat × Nat)
  deriving DecidableEq, Repr

/-- The ring engine. -/
structure RingEng where
  running   : Bool
  sweepNo   : Nat
  /-- heartbeats at the issue of the sweeps that have not returned -/
  sweepOut  : List Nat
  sum       : List (Nat × Nat)
  sqs       : List (Nat × SqDyn)
  cqs       : List (Nat × CqDyn)
  cas       : List CasOut
  work      : List Work
  /-- host bytes written while other descriptors may still write them (R102) -/
  wrote     : List HostSpot
  heartbeat : Nat
  linePass  : List (Nat × Nat)
  passBeat  : List (Nat × Nat)
  passLeft  : List (Nat × Nat)
  /-- re-reads of doorbell words that wait for PF0's Bus Master Enable: SQ and the tail it was consumed to (R47, R62) -/
  owed      : List (Nat × Nat)
  deriving DecidableEq, Repr

/-! ## Power, resets and pins -/

/-- Supplies, reset inputs, CLOCK_HOLD and the crystal. -/
structure Power where
  porActive  : Bool
  sysRst     : Bool
  perst      : Bool
  hold       : Bool
  holdCause  : Option Nat
  trip       : Bool
  rootLock   : Bool
  xtalStable : Bool
  /-- the reset in progress (R380): its governing kind -/
  inReset    : Option Nat
  /-- a hot reset waits for the operations wholly inside the device to end (R48, R377) -/
  hotDue     : Bool
  /-- the island reset last performed, and when (R17, R377): the island stands in reset until time passes -/
  pulse      : Option (Nat × Nat)
  /-- kinds of resets not yet named by an error record (R379) -/
  kinds      : List Nat
  bootDone   : Bool
  deriving DecidableEq, Repr

/-- The down-spread of a clock output (R374): the setting in force, when its modulation started, and when a setting that is not
in force yet was written. -/
structure Spread where
  depth   : Nat
  rate    : Nat
  start   : Nat
  changed : Option Nat
  deriving DecidableEq, Repr

/-- Output levels the state stores; the others are computed from state (Flags). -/
structure Pins where
  hbOut   : Bool
  gpioOut : Nat
  gpioIn  : Nat
  /-- GPIO directions and output levels held from a hot reset until the link is up (R481) -/
  held    : Option (Nat × Nat)
  /-- CLKOUT0 and CLKOUT1 -/
  spread0 : Spread
  spread1 : Spread
  deriving DecidableEq, Repr

/-! ## Fitter -/

/-- Quotas of a function (TENANT_LIMITS a2, a3): entries, sessions, programs. -/
structure Quota where
  entries  : Nat
  sessions : Nat
  programs : Nat
  deriving DecidableEq, Repr

/-- A retirement-log record (R437); `good` is what its signature verifies to. -/
structure LogRec where
  seq    : Nat
  unit   : Nat
  action : Nat
  reason : Nat
  time   : Nat
  detail : Nat
  boot   : Nat
  good   : Bool
  deriving DecidableEq, Repr

/-- The retirement-log partition of SPI NOR: two halves (R437, R438). -/
structure RetLog where
  half0  : List LogRec
  half1  : List LogRec
  active : Bool
  nextSeq : Nat
  deriving DecidableEq, Repr

/-- An sPPR repair in force: channel, subchannel and rank, bank, row (R403, R437). -/
structure Sppr where
  ch   : Nat
  subr : Nat
  bank : Nat
  row  : Nat
  deriving DecidableEq, Repr

/-- The Fitter's policy state (chapter 18). -/
structure FitState where
  buckets   : List (Nat × List Nat)
  located   : List (Nat × Nat × Nat)
  latched   : List (Nat × Nat)
  samples   : List (Nat × Nat)
  /-- the averages of an island's inputs, in the order of its samples: (n, k) stands for n / 16^k (R430) -/
  averages  : List (Nat × List (Nat × Nat))
  restartAt : List Nat
  downCause : Nat
  stopped   : Bool
  /-- the Fitter engine's lockup line (R301, R429) -/
  lockup    : Bool
  /-- an island reset of the Fitter has begun its restart (R429 step 3) -/
  restarting : Bool
  hotMs     : Nat
  coolMs    : Nat
  promotions : Nat
  demotions : Nat
  weightChanges : Nat
  avoidances : Nat
  avoided   : List Nat
  quotas    : List (Nat × Quota)
  profQueue : List (Nat × Nat × Nat)
  profPrev  : Nat
  retired   : List (Nat × Nat)
  sppr      : List Sppr
  logQueue  : List LogRec
  /-- events of DDR5 ranks by row: unit, slices ago, row, weight (R402) -/
  rowEv     : List (Nat × Nat × Nat × Nat)
  /-- DDR5 units that a RESTORE has named: retired still, until the next cold reset (R405) -/
  clearing  : List Nat
  deriving DecidableEq, Repr

/-! ## Vault Table and sessions -/

/-- A sweep checkpoint record (R151); `good` is what its GCM tag verifies to. -/
structure Ckpt where
  seq   : Nat
  keyId : Nat
  next_ : Nat
  time  : Nat
  good  : Bool
  deriving DecidableEq, Repr

/-- A session context and its key slot's content (R146). `source` is the entry index and generation, or none for a blob. -/
structure Sess where
  isOpen    : Bool
  gen       : Nat
  tenant    : Nat
  chacha    : Bool
  opening   : Bool
  dataPhase : Bool
  ended     : Bool
  nonce     : List Byte
  key       : List Byte
  aad       : List Byte
  text      : List Byte
  source    : Option (Nat × Nat)
  /-- the hand-off in progress: SQ and cid of the MIGRATE, the peer, the frame's seq (R148) -/
  migrating : Option (Nat × Nat × Nat × Nat)
  deriving DecidableEq, Repr

/-- The Vault Table engine, the table, its keys and the sessions. -/
structure Vault where
  entries  : List (Nat × Entry)
  ptrs     : List (Nat × Nat)
  keyId    : Nat
  key      : List Byte
  keyHeld  : Bool
  prev     : Option (Nat × List Byte)
  sealedPrev : Option (Nat × List Byte)
  sealedCur  : Bool
  sweeping : Bool
  /-- an interrupted sweep restarts from index 0, over a cleared table (R155) -/
  fromZero : Bool
  ckptSeq  : Nat
  ckptA    : Option Ckpt
  ckptB    : Option Ckpt
  mirror   : Option Ckpt
  mirroring : Bool
  base     : Nat
  ext      : Nat
  extBlocks : Nat
  t        : Nat
  slotMib  : Nat
  lockAt   : Nat
  rebuilding : Bool
  cache    : List Nat
  /-- lines of DDR5 as the Vault Table engine last wrote them, by line number; an unlisted one is zero -/
  image    : List (Nat × List Byte)
  sessions : List (Nat × Sess)
  deriving DecidableEq, Repr

/-! ## Selvage mesh -/

/-- A frame the device sends (R411): `port` is where it was sent, `sends` how often, `at_` when last, `pn` its MACsec packet
number, `wire` its bytes as they leave the port (R410). -/
structure TxFrame where
  src   : Nat
  dst   : Nat
  group : Bool
  port  : Nat
  seq   : Nat
  ack   : Nat
  shard : Nat
  epoch : Nat
  resent : Bool
  sends : Nat
  at_   : Nat
  pn    : Nat
  body  : MeshBody
  wire  : List Byte
  deriving DecidableEq, Repr

/-- A known member, or a device this one exchanges reliable frames with. -/
structure Peer where
  member  : Bool
  joining : Bool
  lost    : Bool
  /-- added to the member list or heard again, and by nothing but MEMBERSHIP frames since (R417) -/
  fresh   : Bool
  /-- this device has left the mesh and its leave frame is not acknowledged (R418) -/
  leaving : Bool
  /-- for each port, the time of the last valid frame on it, when its path is live -/
  paths   : List (Nat × Nat)
  heard   : Nat
  txSeq   : Nat
  unacked : List TxFrame
  rxSeq   : Nat
  ackOwed : Bool
  deriving DecidableEq, Repr

/-- A write applied with commit pending (R422): its number, the shard epoch it was sent under, the accepts, who waits for it,
what it replaced. -/
structure PendWrite where
  num     : Nat
  epoch   : Nat
  w       : TableWrite
  old     : Entry
  accepts : List Nat
  /-- SQ, cid and result of the descriptor that waits for it -/
  work    : Option (Nat × Nat × Nat)
  /-- the member that forwarded it -/
  origin  : Option Nat
  deriving DecidableEq, Repr

/-- A claim this member makes (R420). -/
structure Claiming where
  epoch   : Nat
  accepts : List Nat
  refusals : List Nat
  bestSeq : Nat
  best    : Nat
  abandoned : Bool
  work    : Option (Nat × Nat)
  deriving DecidableEq, Repr

/-- A shard as this member sees it beside SV_SHARD. -/
structure Shard where
  replicas : List Nat
  applied  : Nat
  highest  : Nat
  claiming : Option Claiming
  pend     : List PendWrite
  /-- the next write number this primary gives -/
  nextNum  : Nat
  /-- indices received free, or received at all, in the reload in progress -/
  reloaded : List Nat
  /-- writes received during the reload, in order, and whether they have committed (R424) -/
  late     : List (Nat × TableWrite × Bool)
  /-- writes sent to a replica that has not replied to them, member and number, oldest first -/
  awaits   : List (Nat × Nat)
  /-- this replica holds the shard's content (R419) -/
  holds    : Bool
  /-- the member whose SHARD_CONFIG gave the configuration (R419) -/
  issuer   : Option Nat
  /-- the highest epoch whose claim is known to have succeeded -/
  won      : Nat
  /-- a new primary fetches the writes it lacks; nothing new is committed (R423) -/
  reconciling : Bool
  /-- writes that members forwarded meanwhile -/
  queued   : List (TableWrite × Nat)
  deriving DecidableEq, Repr

/-- A JOIN in progress (R417). -/
structure Joining where
  peers    : List Nat
  answered : List Nat
  members  : List Nat
  firstAt  : Option Nat
  work     : Nat × Nat
  deriving DecidableEq, Repr

/-- The Selvage islands. `forwarded` are writes sent to a primary: shard, index, SQ, cid and result. -/
structure Mesh where
  peers     : List (Nat × Peer)
  shards    : List (Nat × Shard)
  joining   : Option Joining
  forwarded : List (Nat × Nat × Nat × Nat × Nat)
  /-- SHARD_CONFIG descriptors whose claim another member makes: shard, its epoch then, SQ, cid (R419) -/
  confs     : List (Nat × Nat × Nat × Nat)
  out       : List TxFrame
  key       : Option (List Byte × Nat)
  /-- per port: the SAK in its MACsec engine and its AN -/
  sak       : List (Nat × List Byte × Nat)
  /-- per port: packet numbers sent under that SAK -/
  txPn      : List (Nat × Nat)
  /-- per receive SC (4 × device ID + port): the packet number expected next -/
  rxPn      : List (Nat × Nat)
  /-- renegotiation failures of each port within the last second -/
  renegFail : List (Nat × Nat)
  reneg     : List Nat
  /-- per port: the exponent of the floor that its BER window began under (R427, R449 step 6) -/
  berExps   : List (Nat × Nat)
  deriving DecidableEq, Repr

/-! ## Bolt, cache, DDR5 (chapters 12 and 16) -/

/-- What a memory or register access is answered with (R332, R354). -/
inductive Resp where
  | ok | decerr | refused | abort | collided | writeLost | ecc
  deriving DecidableEq, Repr

/-- A valid line of the cache region (R335): DDR5 line number, state, 128 bytes. -/
structure CacheLine where
  line  : Nat
  dirty : Bool
  data  : List Byte
  deriving DecidableEq, Repr

/-- What a Bolt port received in the latest bank cycle (R330, R331). -/
structure BoltAns where
  port : Nat
  bank : Nat
  word : Nat
  resp : Resp
  data : List Byte
  deriving DecidableEq, Repr

/-- The partition layout in force: the banks of each partition, the modes and dedications sampled (R325, R328).
`vaultSpan` is the number of bank places the vault takes in the offset map, kept when one of its banks is retired. -/
structure Layout where
  vaultSpan : Nat
  vaultB   : List Nat
  sessB    : List Nat
  scratchB : List Nat
  cacheB   : List Nat
  sessPart : Bool
  scratchPart : Bool
  dedic    : List (Nat × Nat)
  deriving DecidableEq, Repr

/-- The Bolt. `data` is keyed by bank * 2^23 + 128 * word + byte, the bank being the one whose place it is (a donor
serves under the number of the bank it stands in for); `bad` lists the 16-byte ECC words that read uncorrectable. -/
structure Bolt where
  data    : List (Nat × Byte)
  bad     : List Nat
  lay     : Layout
  donors  : List (Nat × Nat)
  copying : List (Nat × Nat)
  fenced  : List Nat
  lines   : List (Nat × Option CacheLine)
  plru    : List (Nat × Nat)
  commits : List (Nat × Nat × Nat)
  retry   : List (Nat × Nat × Nat)
  rr      : List (Nat × Nat)
  resp    : List BoltAns
  scrubAt : Nat
  /-- a vault wipe has not been read back (R344) -/
  wiping  : Bool
  /-- the layout scratch was kept under through a warm reset (R346) -/
  kept    : Option Layout
  /-- dirty lines wait for the write-back of a warm reset -/
  writeBack : Bool
  deriving DecidableEq, Repr

/-- One DDR5 channel beside its registers: the training record (rate, spare) and whether a record at 8000 stands beside it
(R400), what was found, sweeps' low lanes
(rank * 128 + lane ↦ consecutive low sweeps), write DQS adjustments per rank, counts, the rate in force. -/
structure DdrChan where
  found    : Option DdrFound
  record   : Option (Nat × Bool)
  record8000 : Bool
  rate     : Nat
  low      : List (Nat × Nat)
  dqs      : List (Nat × Int)
  zq       : Nat
  refreshes : Nat
  hotRefresh : Bool
  scrubAt  : Nat
  started  : Bool
  restoring : Bool
  unsettled : List (Nat × Nat)
  deriving DecidableEq, Repr

/-- A migration as DDR_MIGRATE and DDR_STATUS show it. -/
structure DdrMigr where
  running : Nat
  next    : Nat
  map7    : Nat
  spareBy : Nat
  deriving DecidableEq, Repr

/-- DDR5 contents by offset, poisoned 128-byte lines, the channels, writes kept after exhausted retries, the settings
sampled at start. -/
structure Ddr where
  data    : List (Nat × Byte)
  poison  : List Nat
  chans   : List (Nat × DdrChan)
  kept    : List (Nat × List Byte)
  rate    : Nat
  spare   : Bool
  /-- the population that DDR5 offsets resolve by: x4, die, ranks (R391, R392) -/
  pop     : Option (Bool × Nat × Nat)
  /-- the channel whose migration a loss of all contents cut short: the next starts use the seven-channel map (R407) -/
  spentBy : Option Nat
  /-- the migration that the controllers hold in retention through a reset, until the channels start (R407) -/
  migr    : Option DdrMigr
  /-- sPPR repairs under way (R403) -/
  repairs : List Sppr
  /-- the answer of the latest channel access -/
  ans     : Option (Resp × List Byte)
  deriving DecidableEq, Repr

/-! ## Hub and Tack (chapters 13 and 14) -/

/-- A Hub transaction that a target has answered, before its response goes back. -/
structure HubTx where
  req  : HubReq
  target : Nat
  resp : Resp
  data : List Byte
  deriving DecidableEq, Repr

/-- A transaction that waits at its master's port or at its target; an orphan's master was reset, and the seam discards its
response (R354). -/
structure HubWait where
  req    : HubReq
  orphan : Bool
  deriving DecidableEq, Repr

/-- The Hub: answered transactions, transactions that wait, responses returned by the latest command, the master each target
granted last, on which it parks, and the beats it gave that master in a row (R353). -/
structure Hub where
  flight  : List HubTx
  waiting : List HubWait
  back    : List HubTx
  parked  : List (Nat × Nat)
  run     : List (Nat × Nat)
  deriving DecidableEq, Repr

/-- A peripheral timer (R355, R360): armed or stopped, and the generation of its last Tack restart. -/
structure PTimer where
  armed : Bool
  since : Nat
  gen   : Option Nat
  deriving DecidableEq, Repr

/-- The Tack router: pending sources with their generations, triggers on their way (input, source, generation). -/
structure Tack where
  pend   : List (Nat × Nat)
  flying : List (Nat × Nat × Nat)
  timers : List (Nat × PTimer)
  /-- generation of a checkpoint asked for at input 276 whose mirror is in progress -/
  ckptGen : Option Nat
  deriving DecidableEq, Repr

/-! ## Shuttle and Stitch (chapter 06) -/

/-- A vector of a stream (R162, R163): a strided one, or the extents of a list. -/
structure Vec where
  space   : Nat
  base    : Nat
  esize   : Nat
  stride  : Nat
  isList  : Bool
  extents : List (Nat × Nat)
  deriving DecidableEq, Repr

/-- Who posted a stream: the descriptor (SQ, cid, its function), or a Needle with its tag and generation (R190). -/
inductive Poster where
  | desc (sq cid : Nat)
  | needle (n tag gen : Nat)
  deriving DecidableEq, Repr

/-- The source tag of a key schedule (R176). -/
inductive KsTag where
  | entry (index gen : Nat)
  | blob (stream : Nat)
  deriving DecidableEq, Repr

/-- Where a job stands. -/
inductive JobAt where
  | waitBuf
  | reading
  | ready
  | onPipe (p : Nat) (waitKey : Bool)
  | draining
  | drained
  deriving DecidableEq, Repr

/-- A job: one chunk of a stream (R157, R158). `off` is its byte offset in the stream, `unit` its first unit, `piece` the
byte offset inside that unit. -/
structure Job where
  no     : Nat
  off    : Nat
  len    : Nat
  unit   : Nat
  units  : Nat
  piece  : Nat
  ends   : Bool
  at_    : JobAt
  reran  : Bool
  lastPipe : Option Nat
  /-- its input and output buffer (R172): the chunk, the side records read and what it computed stand there, in the Bolt -/
  inBuf  : Nat
  outBuf : Nat
  /-- where its main output goes in dst0, and how many bytes -/
  outOff : Nat
  outLen : Nat
  /-- the records in its side area, one after another: position in dst1 and bytes of each -/
  side   : List (Nat × Nat)
  deriving DecidableEq, Repr

/-- What travels between the pieces of a unit (R159): the unit, its input so far, and how much of its output is computed. -/
structure UnitRun where
  unit    : Nat
  input   : List Byte
  emitted : Nat
  deriving DecidableEq, Repr

/-- A stream (R160-R163, R172, R180). `carry` holds the state of the units in progress between their pieces (R159). -/
structure Strm where
  id      : Nat
  ring    : Nat
  poster  : Poster
  tenant  : Nat
  fn      : Nat
  chain   : List Nat
  key     : List Byte
  salt    : Nat
  ks      : Option KsTag
  ivBase  : Nat
  length  : Nat
  unitLen : Nat
  src     : Vec
  dst0    : Vec
  dst1    : Vec
  done    : Bool
  chunk   : Nat
  nextOff : Nat
  /-- the other buffers of its descriptor: space kind, first byte, length (R102) -/
  reads   : List (Nat × Nat × Nat)
  jobs    : List Job
  carry   : List UnitRun
  /-- ranges of device memory that the streams dispatched before it and not retired then write: space kind, first byte,
  length (R181) -/
  early   : List (Nat × Nat × Nat)
  badUnits : Nat
  badFirst : Nat
  ended   : Option (Nat × Nat)
  deriving DecidableEq, Repr

/-- A stream post of a Needle before the Shuttle reads its block (R189-R191, R253): retire ring, tag, generation, privilege,
tenant, the block's address, the kind and bounds of its slot, the bounds of STRM.win and the buffers of the invocation for
a post at Tenant privilege. -/
structure Post where
  n    : Nat
  ring : Nat
  tag  : Nat
  gen  : Nat
  priv : Nat
  tenant : Nat
  addr : Nat
  kind : Nat
  base : Nat
  limit : Nat
  win  : Option (Nat × Nat)
  bufs : List (Nat × Nat)
  deriving DecidableEq, Repr

/-- A Stitch pipeline beside its registers: key-schedule slots, least recently used first; its jobs (stream, job) in
order; the Tack generation its self-test will raise, and the SELF_TEST descriptors (SQ, cid) that end with it (R187). -/
structure Pipe where
  slots : List KsTag
  jobs  : List (Nat × Nat)
  testGen : Nat
  testFor : List (Nat × Nat)
  deriving DecidableEq, Repr

/-- The Shuttle: streams in flight in admission order, streams in the rings' admission queues, posts, free buffers, pipes,
deficit counters and the tenant whose turn it is, the pipeline whose periodic test is next. -/
structure Shuttle where
  flight  : List Strm
  waiting : List Strm
  posts   : List Post
  free    : Nat
  pipes   : List (Nat × Pipe)
  deficit : List (Nat × Nat)
  turn    : Nat
  testTurn : Nat
  draining : Bool
  deriving DecidableEq, Repr

/-! ## Thimble (chapter 19) -/

/-- A fuse word: its two 64-bit copies (R453). -/
structure FuseWord where
  c0 : Nat
  c1 : Nat
  deriving DecidableEq, Repr

/-- A tenant program in the program store (R464, R465): the function that loaded it is `tenant`. -/
structure Prog where
  live   : Bool
  gen    : Nat
  tenant : Nat
  entries : List Nat
  code   : List Byte
  rodata : List Byte
  data   : List Byte
  /-- where its image lies in the program store (R465) -/
  place  : Nat
  deriving DecidableEq, Repr

/-- What the Thimble answers a request with (R466). -/
inductive SpdmAns where
  | ok
  | unsupported
  | error
  | measurement (index : Nat) (digest signature : List Byte)
  | certificate (slot : Nat) (chain : List Byte)
  | signed (signature : List Byte)
  | session (transport number : Nat)
  deriving DecidableEq, Repr

/-- A firmware update under way (R463 steps 4 to 6): the slot, its svn, the request's code, the Needles still to change. -/
structure Rolling where
  slot : Nat
  svn  : Nat
  code : Nat
  left : List Nat
  deriving DecidableEq, Repr

/-- The firmware bundle that runs, as THM_LC shows it. -/
structure Bundle where
  slot  : Nat
  trial : Nat
  svn   : Nat
  deriving DecidableEq, Repr

/-- The Thimble. `fuses` is keyed by fuse word number, `nor` holds the SPI NOR's bytes but for the retirement log and the
sealed records; `sealed` is the sealed mesh key: key, number, seal epoch. `judged` are the image types verified since the
last start, `oldSvn` the security version of the other slot's images. -/
structure Thm where
  fuses   : List (Nat × FuseWord)
  nor     : List (Nat × Byte)
  sealed  : Option (List Byte × Nat × Nat)
  stopped : Bool
  drbg    : Bool
  trngFails : List Nat
  trngDead : Bool
  oldSvn  : Nat
  rolling : Option Rolling
  sessions : List (Nat × Nat)
  answers : List SpdmAns
  ide     : List (Nat × List Byte)
  meas    : List (Nat × List Byte)
  progs   : List (Nat × Prog)
  coldCount : Nat
  judged  : List Nat
  /-- the bundle that runs on through a reset, until THM_LC shows it again (R10, R377) -/
  bundle  : Option Bundle
  /-- THM_PROG.base as sampled (R382) -/
  progBase : Option Nat
  /-- the Device Serial Number (R27, R454) -/
  serial  : Nat
  deriving DecidableEq, Repr

/-- The whole machine. -/
structure State where
  pending : List Instr
  part    : Part
  time    : Nat
  freeCtr : Nat
  regs    : List (Nat × Nat)
  power   : Power
  pins    : Pins
  pcie    : Pcie
  host    : List (Nat × Option Byte)
  rings   : RingEng
  err     : ErrState
  fit     : FitState
  log     : RetLog
  vault   : Vault
  mesh    : Mesh
  bolt    : Bolt
  ddr     : Ddr
  hub     : Hub
  tack    : Tack
  sht     : Shuttle
  thm     : Thm
  /-- the engines N00-N63 and, at 64, the Fitter's -/
  ndl     : List (Nat × Needle)
  deriving DecidableEq, Repr

/-! ## After reset (R11, R377, R476)

The machine in power-on reset, every input low: SYS_RST_N and PERST_N are asserted until their release commands. What no
rule gives a value for after power-on is named in the assumption log. -/

/-- Registers, memories and units with nothing in them: every register field reads its reset value. -/
def State.reset : State :=
  { pending := [], part := .b0s, time := 0, freeCtr := 0, regs := [],
    power :=
      { porActive := true, sysRst := true, perst := true, hold := false, holdCause := none, trip := false,
        rootLock := false, xtalStable := false, inReset := some 1, hotDue := false, pulse := none,
        kinds := [1], bootDone := false },
    pins :=
      { hbOut := false, gpioOut := 0, gpioIn := 0, held := none,
        spread0 := { depth := 0, rate := 0, start := 0, changed := none },
        spread1 := { depth := 0, rate := 0, start := 0, changed := none } },
    pcie := { fns := [], linkUp := false, speed := 0, width := 0, flit := false, out := [], heldRecs := [] },
    host := [],
    rings :=
      { running := false, sweepNo := 0, sweepOut := [], sum := [], sqs := [], cqs := [], cas := [], work := [],
        wrote := [], heartbeat := 0, linePass := [], passBeat := [], passLeft := [], owed := [] },
    err :=
      { windows := [], buffer := [], dropped := 0, overflow := false, ring := none, readOut := false, nextSeq := 1,
        nextSlot := 0, held := [], heldDrop := 0 },
    fit :=
      { buckets := [], located := [], latched := [], samples := [], averages := [], restartAt := [], downCause := 0, stopped := false,
        lockup := false, restarting := false, hotMs := 0, coolMs := 0, promotions := 0, demotions := 0,
        weightChanges := 0, avoidances := 0, avoided := [], quotas := [], profQueue := [], profPrev := 0, retired := [],
        sppr := [], logQueue := [], rowEv := [], clearing := [] },
    log := { half0 := [], half1 := [], active := false, nextSeq := 1 },
    vault :=
      { entries := [], ptrs := [], keyId := 0, key := List.replicate 32 0, keyHeld := false, prev := none,
        sealedPrev := none, sealedCur := true, sweeping := false, fromZero := false, ckptSeq := 0, ckptA := none,
        ckptB := none, mirror := none, mirroring := false, base := 0, ext := 0, extBlocks := 0, t := 20, slotMib := 0,
        lockAt := 0, rebuilding := false, cache := [], image := [], sessions := [] },
    mesh :=
      { peers := [], shards := [], joining := none, forwarded := [], confs := [], out := [], key := none, sak := [], txPn := [], rxPn := [],
        renegFail := [], berExps := [],
        reneg := [] },
    bolt :=
      { data := [], bad := [],
        lay :=
          { vaultSpan := 4, vaultB := List.range' 0 4, sessB := List.range' 4 4, scratchB := List.range' 8 24,
            cacheB := List.range' 32 16, sessPart := false, scratchPart := false, dedic := [] },
        donors := [], copying := [], fenced := [], lines := [], plru := [], commits := [], retry := [], rr := [],
        resp := [], scrubAt := 0, wiping := false, kept := none, writeBack := false },
    ddr :=
      { data := [], poison := [], chans := [], kept := [], rate := 0, spare := false, pop := none, spentBy := none, migr := none, repairs := [],
             ans := none },
    hub := { flight := [], waiting := [], back := [], parked := [], run := [] },
    tack := { pend := [], flying := [], timers := [], ckptGen := none },
    sht :=
      { flight := [], waiting := [], posts := [], free := 64, pipes := [], deficit := [], turn := 0, testTurn := 0,
        draining := false },
    thm :=
      { fuses := [(28, { c0 := 5453859148745670657, c1 := 5453859148745670657 })], nor := [], sealed := none, stopped := false,
        drbg := false,
        trngFails := [], trngDead := false, oldSvn := 0, rolling := none, sessions := [], answers := [], ide := [], meas := [], progs := [],
        coldCount := 1, judged := [], bundle := none, progBase := none, serial := Config.serial % 2 ^ 64 },
    ndl := [] }

end Sys2Proof.Machine
end

