-- ==== Sys2Proof/Machine/Ops.lean ====
section
/-! DEFINITION. The named operations every command shares: registers, free values, host memory, messages, readiness and
error reports. -/

namespace Sys2Proof.Machine

open Sys2Proof

/-! ## Numbers and bytes (R6-R9) -/

/-- Bit `i` of `n`. -/
def bitOf (n i : Nat) : Bool := n.testBit i

/-- Bits [lo + w - 1 : lo] of `n`. -/
def bitsOf (n lo w : Nat) : Nat := n / 2 ^ lo % 2 ^ w

/-- `n` with bit `i` made `b`. -/
def withBit (n i : Nat) (b : Bool) : Nat :=
  if n.testBit i = b then n else if b then n + 2 ^ i else n - 2 ^ i

/-- `n` with bits [lo + w - 1 : lo] replaced by `v`. -/
def withBits (n lo w v : Nat) : Nat :=
  n % 2 ^ lo + (v % 2 ^ w) * 2 ^ lo + n / 2 ^ (lo + w) * 2 ^ (lo + w)

/-- 1 for true. -/
def b2n (b : Bool) : Nat := if b then 1 else 0

/-- The `n` little-endian bytes of `v` (R8). -/
def leBytes : Nat → Nat → List Byte
  | 0, _ => []
  | n + 1, v => BitVec.ofNat 8 v :: leBytes n (v / 256)

/-- The number little-endian bytes spell. -/
def ofLe : List Byte → Nat
  | [] => 0
  | b :: bs => b.toNat + 256 * ofLe bs

/-- The `n` big-endian bytes of `v`. -/
def beBytes (n v : Nat) : List Byte := (leBytes n v).reverse

/-- The number big-endian bytes spell. -/
def ofBe (bs : List Byte) : Nat := ofLe bs.reverse

/-- `n` zero bytes. -/
def zeroBytes (n : Nat) : List Byte := List.replicate n 0

/-- Bytes [off, off + n) of a list. -/
def sub (bs : List Byte) (off n : Nat) : List Byte := (bs.drop off).take n

/-- The little-endian number in bytes [off, off + n). -/
def leAt (bs : List Byte) (off n : Nat) : Nat := ofLe (sub bs off n)

/-- ⌈a / b⌉. -/
def ceilDiv (a b : Nat) : Nat := if b = 0 then 0 else (a + b - 1) / b

/-- 0, 1, …, n − 1 mapped to a number with bit `i` set where `p i`. -/
def maskOf (n : Nat) (p : Nat → Bool) : Nat :=
  (List.range n).foldl (fun acc i => if p i then acc + 2 ^ i else acc) 0

/-- Addition that stops at 2^w − 1 (a saturating counter). -/
def satAdd (w a b : Nat) : Nat := min (a + b) (2 ^ w - 1)

/-! ## Registers (R10-R12) -/

/-- What an unlisted register key reads as: the field's reset value. -/
def regDefault (p : Part) (key : Nat) : Nat :=
  match fldOfKey key with
  | some (f, i) => Fld.reset p i f
  | none => 0

/-- The value of element `i` of a field. -/
def State.rd (s : State) (f : Fld) (i : Nat := 0) : Nat := Store.get (regDefault s.part) s.regs (f.key i)

/-- The value of a one-bit field. -/
def State.flag (s : State) (f : Fld) (i : Nat := 0) : Bool := s.rd f i != 0

/-- Writes element `i` of a field, as the machine itself does; bits above the field's width are lost. -/
def State.wr (s : State) (f : Fld) (i : Nat) (v : Nat) : State :=
  { s with regs := Store.put (regDefault s.part) s.regs (f.key i) (v % 2 ^ f.spec.width) }

/-- Adds to a wrapping counter field. -/
def State.count (s : State) (f : Fld) (i : Nat := 0) (n : Nat := 1) : State := s.wr f i (s.rd f i + n)

/-- Adds to a saturating counter field. -/
def State.countSat (s : State) (f : Fld) (i : Nat := 0) (n : Nat := 1) : State :=
  s.wr f i (satAdd f.spec.width (s.rd f i) n)

/-- Folds a state change over 0 … n − 1. -/
def State.each (s : State) (n : Nat) (f : Nat → State → State) : State :=
  (List.range n).foldl (fun s i => f i s) s

/-! ## Free values (R13): the model chooses none of them -/

/-- The next free value, cut to `w` bits, and the state that has used it. -/
def State.fresh (s : State) (w : Nat) : Nat × State :=
  (Config.free s.freeCtr % 2 ^ w, { s with freeCtr := s.freeCtr + 1 })

/-- `n` free bytes. -/
def freeBytes : Nat → Nat → List Byte
  | 0, _ => []
  | n + 1, c => BitVec.ofNat 8 (Config.free c) :: freeBytes n (c + 1)

/-- The next `n` free bytes. -/
def State.freshBytes (s : State) (n : Nat) : List Byte × State :=
  (freeBytes n s.freeCtr, { s with freeCtr := s.freeCtr + n })

/-! ## Readiness (R40, R41, R383) -/

/-- GLOBAL_READY bit numbers. -/
def readyCfg : Nat := 0
def readyBoot : Nat := 1
def readyFitter : Nat := 2
def readyHub : Nat := 3
def readyTier (t : Nat) : Nat := 4 + t
def readyBoltVault : Nat := 7
def readyDdr (c : Nat) : Nat := 8 + c
def readyCluster (c : Nat) : Nat := 16 + c
def readyQuad (q : Nat) : Nat := 24 + q
def readyShuttle : Nat := 28
def readyTrng : Nat := 29
def readyVault : Nat := 30
def readySessions : Nat := 31
def readySv (p : Nat) : Nat := 32 + p
def readyRings : Nat := 36
def readyTack : Nat := 37
def readyMesh : Nat := 38

/-- Does GLOBAL_READY bit `b` read 1? -/
def State.isReady (s : State) (b : Nat) : Bool := bitOf (s.rd .globalReady_bits) b

/-- Sets or clears a GLOBAL_READY bit. Bits 22, 23 and 27 never set on IV64-B0-M (R2). -/
def State.setReady (s : State) (b : Nat) (v : Bool) : State :=
  if v && decide (s.part = .b0m) && (b == 22 || b == 23 || b == 27) then s
  else s.wr .globalReady_bits 0 (withBit (s.rd .globalReady_bits) b v)

/-- Clears every GLOBAL_READY bit but those in `keep`. -/
def State.keepReady (s : State) (keep : Nat) : State :=
  s.wr .globalReady_bits 0 (s.rd .globalReady_bits &&& keep)

/-- Is the set-up locked (R44)? -/
def State.locked (s : State) : Bool := s.flag .globalSetupLock_lock

/-- Do the core-domain islands have a clock: neither CLOCK_HOLD nor a trip stops them (R375, R486)? What their RO fields
show stays (R356). -/
def State.clocked (s : State) : Bool := !s.power.hold && !s.power.trip

/-- Is the Fitter alive (R428)? -/
def State.fitterAlive (s : State) : Bool := s.flag .fitStatus_alive && s.clocked

/-! ## Host link (R28, R47, R48, R53) -/

/-- Configuration control of a function no write has reached: everything clear (R27-R29). -/
def fnCfgDefault (_ : Nat) : FnCfg :=
  { bme := false
    ctl := { memorySpace := false, atomicOp := false, tag10 := false, relaxedOrder := false, mps := 0, mrrs := 2,
             numVfs := 0, vfEnable := false, msixEnable := false, msixFnMask := false, ctoValue := 0,
             ctoDisable := false, bar0 := 0, vfBar0 := 0, pageSize := 4096, ecrcGen := false, ecrcCheck := false,
             d3hot := false } }

/-- A function's configuration control. -/
def State.fnCfg (s : State) (fn : Nat) : FnCfg := Store.get fnCfgDefault s.pcie.fns fn

/-- Changes a function's configuration control. -/
def State.setFnCfg (s : State) (fn : Nat) (c : FnCfg) : State :=
  { s with pcie := { s.pcie with fns := Store.put fnCfgDefault s.pcie.fns fn c } }

/-- May the device issue requests under this function's Requester ID (R47, R48)? -/
def State.canIssue (s : State) (fn : Nat) : Bool := s.pcie.linkUp && (s.fnCfg fn).bme

/-- Puts a request, message or completion on the link. -/
def State.emit (s : State) (o : Out) : State :=
  { s with pcie := { s.pcie with out := s.pcie.out ++ [o] } }

/-- The key of a host byte in the store of bytes the device wrote: the requester's function and the address. -/
def hostKey (fn addr : Nat) : Nat := fn * 2 ^ 64 + addr % 2 ^ 64

/-- No byte of host memory is listed until the device writes it. -/
def hostDefault (_ : Nat) : Option Byte := none

/-- The pieces of at most `m` bytes, in ascending order, of `n` bytes from `a`. -/
def pieces (m : Nat) : Nat → Nat → Nat → List (Nat × Nat)
  | 0, _, _ => []
  | fuel + 1, a, n => if n = 0 then [] else (a, min m n) :: pieces m fuel (a + m) (n - m)

/-- Max Payload Size and Max Read Request Size as they act, in bytes (R28): the device supports 512 and 4,096. -/
def State.maxPayload (s : State) : Nat := 128 * 2 ^ min (s.fnCfg 0).ctl.mps 2
def State.maxRead (s : State) : Nat := 128 * 2 ^ min (s.fnCfg 0).ctl.mrrs 5

/-- A posted write of bytes to host memory under a function's Requester ID, in TLPs of at most Max Payload Size; nothing is
issued while the link is down or Bus Master Enable is clear (R47, R48). -/
def State.post (s : State) (fn addr : Nat) (bs : List Byte) (relaxed : Bool) : State :=
  if s.canIssue fn then
    let tlps := (pieces s.maxPayload bs.length addr bs.length).map (fun p => Out.write fn p.1 p.2 relaxed)
    { s with host := Store.putAll hostDefault s.host (hostKey fn addr) (bs.map some)
             pcie := { s.pcie with out := s.pcie.out ++ tlps } }
  else s

/-- Is Relaxed Ordering set on DMA data writes and reads (R28)? PF0's control serves every function. -/
def State.relaxed (s : State) : Bool := (s.fnCfg 0).ctl.relaxedOrder

/-- A posted write that is never relaxed: completion records, error records, the status page (R28). -/
def State.hostWrite (s : State) (fn addr : Nat) (bs : List Byte) : State := s.post fn addr bs false

/-- A posted write of an operation's data (R28). -/
def State.dataWrite (s : State) (fn addr : Nat) (bs : List Byte) : State := s.post fn addr bs s.relaxed

/-- Host bytes that an operation may have written in part: what stands there is undefined, and no TLP shows it (R13, R49). -/
def State.hostUnknown (s : State) (fn addr n : Nat) : State :=
  let r := s.freshBytes n
  { r.2 with host := Store.putAll hostDefault r.2.host (hostKey fn addr) (r.1.map some) }

/-- A read of host memory on its way out (R31). -/
def State.hostRead (s : State) (fn addr len : Nat) : State :=
  if s.canIssue fn then s.emit (.read fn addr len false) else s

/-- Reads of at most Max Read Request Size that cover `n` bytes of an operation's data from `a` (R28, R165). -/
def State.dataRead (s : State) (fn a n : Nat) : State :=
  if s.canIssue fn then (pieces s.maxRead n a n).foldl (fun s p => s.emit (.read fn p.1 p.2 s.relaxed)) s else s

/-- One byte of what host memory answers to an operation's reads. -/
def viewByte : HostView → Nat → Option Byte
  | [], _ => none
  | (a, bs) :: rest, x => if a ≤ x ∧ x < a + bs.length then bs[x - a]? else viewByte rest x

/-- `n` bytes of what host memory answers; none when any byte's read fails. -/
def viewRead (h : HostView) (a : Nat) : Nat → Option (List Byte)
  | 0 => some []
  | n + 1 =>
    match viewByte h a, viewRead h (a + 1) n with
    | some b, some bs => some (b :: bs)
    | _, _ => none

/-! ## MSI-X (R32, R34, R81) -/

/-- The vectors of a function (R28): 2,048 on PF0, 64 on a VF. -/
def vectorsOf (fn : Nat) : Nat := if fn = 0 then 2048 else 64

/-- Element of the VF MSI-X fields for a function's vector. -/
def vfVec (fn v : Nat) : Nat := fn * 64 + v

/-- A vector's mask bit. -/
def State.vecMasked (s : State) (fn v : Nat) : Bool :=
  let own := if fn = 0 then s.flag .msix_mask v else s.flag .vfMsix_mask (vfVec fn v)
  own || (s.fnCfg fn).ctl.msixFnMask

/-- Sets or clears a vector's PBA bit. -/
def State.setPba (s : State) (fn v : Nat) (b : Bool) : State :=
  if fn = 0 then s.wr .pba_word (v / 64) (withBit (s.rd .pba_word (v / 64)) (v % 64) b)
  else s.wr .vfPba_word fn (withBit (s.rd .vfPba_word fn) v b)

/-- A vector's PBA bit. -/
def State.pba (s : State) (fn v : Nat) : Bool :=
  if fn = 0 then bitOf (s.rd .pba_word (v / 64)) (v % 64) else bitOf (s.rd .vfPba_word fn) v

/-- Signals a vector (R80, R81): a message while it is unmasked, its PBA bit while it is masked; a VF vector above 63
sends nothing (R54). While MSI-X Enable is clear, or unmasked while Bus Master Enable is, nothing is sent and nothing kept:
DESIGN CHOICE (log 122). -/
def State.signal (s : State) (fn v : Nat) : State :=
  if v ≥ vectorsOf fn || !(s.fnCfg fn).ctl.msixEnable then s
  else if s.vecMasked fn v then s.setPba fn v true
  else if s.canIssue fn then
    if fn = 0 then s.emit (.msix fn (s.rd .msix_addr v) (s.rd .msix_data v))
    else s.emit (.msix fn (s.rd .vfMsix_addr (vfVec fn v)) (s.rd .vfMsix_data (vfVec fn v)))
  else s

/-! ## Rings: who owns what (R50, R53) -/

/-- The function that owns ring `n` (none for a ring of a group not assigned). -/
def State.ringOwner (s : State) (n : Nat) : Option Nat :=
  if s.flag .ringGroup_valid (n / 16) then some (s.rd .ringGroup_function (n / 16)) else none

/-- The tenant of a descriptor of SQ `n` (R14, R72). -/
def State.tenantOf (s : State) (n : Nat) : Nat := (s.ringOwner n).getD 0

/-- SQ state nothing has touched. -/
def sqDefault (_ : Nat) : SqDyn :=
  { started := false, pend := false, tail := 0, reading := 0, stale := 0, fetching := 0, consumed := false,
    clearing := none, rereading := [], prodRun := 0, emptyRun := 0, lastProd := none }

/-- CQ state nothing has touched. -/
def cqDefault (_ : Nat) : CqDyn := { started := false, unsig := 0, since := 0 }

def State.sq (s : State) (n : Nat) : SqDyn := Store.get sqDefault s.rings.sqs n
def State.setSq (s : State) (n : Nat) (q : SqDyn) : State :=
  { s with rings := { s.rings with sqs := Store.put sqDefault s.rings.sqs n q } }
def State.cq (s : State) (n : Nat) : CqDyn := Store.get cqDefault s.rings.cqs n
def State.setCq (s : State) (n : Nat) (q : CqDyn) : State :=
  { s with rings := { s.rings with cqs := Store.put cqDefault s.rings.cqs n q } }

/-! ## Error records (R85, R86, R440-R444) -/

/-- The classes of R444, kept before all others. -/
def keptClass (c : Nat) : Bool := c == 0x04 || c == 0x0A || c == 0x15 || c == 0x14 || c == 0x0B

/-- The 32 bytes of an error record (R440). -/
def errBytes (r : ErrRec) (phase : Bool) : List Byte :=
  leBytes 2 r.origin ++ leBytes 1 r.cls ++ leBytes 1 r.severity ++ leBytes 2 (min r.reporters 65535)
    ++ leBytes 2 (match r.slot with | some j => j + 0x8000 | none => 0)
    ++ leBytes 8 r.t0 ++ leBytes 8 r.detail ++ leBytes 4 r.seq ++ leBytes 2 r.spanUs ++ [0]
    ++ [if phase then 0x80 else 0]

/-- Is the ring full by the consumer count last read (R86)? -/
def ErrRing.full (r : ErrRing) : Bool := (r.prod + 2 ^ 32 - r.seen) % 2 ^ 32 ≥ 2 ^ r.k

def State.setErr (s : State) (e : ErrState) : State := { s with err := e }

/-- Writes one record to its slot and advances err_prod (R85), then signals as R80 gives with the count and timer of
ERROR_RING_SETUP (R84). -/
def State.errPut (s : State) (g : ErrRing) (r : ErrRec) : State :=
  let slot := g.prod % 2 ^ g.k
  let s := s.hostWrite 0 (g.base + 32 * slot) (errBytes r (g.prod / 2 ^ g.k % 2 == 0))
  let now := g.timerUs == 0 || g.countM1 ≤ g.unsig
  let s := s.setErr { s.err with
    ring := some { g with prod := (g.prod + 1) % 2 ^ 32, unsig := if now then 0 else g.unsig + 1 } }
  if now then s.signal 0 g.vector else s

/-- Puts a record in the 64-record buffer of R86, under the precedence of R444. -/
def ErrState.buffer1 (e : ErrState) (r : ErrRec) : ErrState :=
  if e.buffer.length < 64 then { e with buffer := e.buffer ++ [r] }
  else
    let others := (e.buffer.filter (fun x => !keptClass x.cls)).length
    if keptClass r.cls && others > 0 then
      -- the newest record of another class makes room
      let cut := (e.buffer.reverse.eraseP (fun x => !keptClass x.cls)).reverse
      { e with buffer := cut ++ [r], dropped := e.dropped + 1, overflow := true }
    else { e with dropped := e.dropped + 1, overflow := true }

/-- Hands a finished record to the error ring, or to the buffer while the ring is full, not set up, or PF0 may issue no
request (R47, R86). -/
def State.errEmit (s : State) (r0 : ErrRec) : State :=
  let r := { r0 with seq := s.err.nextSeq }
  let s := s.setErr { s.err with nextSeq := (s.err.nextSeq + 1) % 2 ^ 32 }
  match s.err.ring with
  | some g =>
    if g.full || !s.err.buffer.isEmpty || !s.canIssue 0 then
      let s := s.setErr (s.err.buffer1 r)
      if g.full && s.canIssue 0 && !s.err.readOut then
        (s.setErr { s.err with readOut := true }).hostRead 0 g.consumer 4
      else s
    else s.errPut g r
  | none => s.setErr (s.err.buffer1 r)

/-- Writes buffered records while there is space: those of the classes of R444 first, each group in its order, and then
one ERROR_RING_OVERFLOW record when records were dropped (R86); its origin is the Fitter policy, 0x0606: DESIGN CHOICE
(log 123). -/
def State.errDrain : Nat → State → State
  | 0, s => s
  | fuel + 1, s =>
    match s.err.ring with
    | none => s
    | some g =>
      if g.full || !s.canIssue 0 then s
      else
        let kept := s.err.buffer.filter (fun x => keptClass x.cls)
        let rest := s.err.buffer.filter (fun x => !keptClass x.cls)
        match kept ++ rest with
        | r :: more =>
          State.errDrain fuel ((s.setErr { s.err with buffer := more }).errPut g r)
        | [] =>
          if s.err.dropped > 0 then
            let r : ErrRec :=
              { origin := 0x0606, cls := 0x20, severity := 1, reporters := 1, slot := none,
                t0 := s.time, detail := s.err.dropped % 2 ^ 32, spanUs := 0, seq := s.err.nextSeq }
            (s.setErr { s.err with dropped := 0, nextSeq := (s.err.nextSeq + 1) % 2 ^ 32 }).errPut g r
          else s

/-- Records that wait behind a full ring make the device read the consumer count again (R86). -/
def State.errPoll (s : State) : State :=
  match s.err.ring with
  | some g =>
    if g.full && (!s.err.buffer.isEmpty || decide (0 < s.err.dropped)) && s.canIssue 0 && !s.err.readOut then
      (s.setErr { s.err with readOut := true }).hostRead 0 g.consumer 4
    else s
  | none => s

/-- Number of reporters a mask names. -/
def popcount (n : Nat) : Nat := (List.range 128).foldl (fun a i => if n.testBit i then a + 1 else a) 0

/-- Closes a coalescing window: its merged record is written, with a bitmap slot when two or more distinct reporters
merged (R442, R443). -/
def State.closeWindow (s : State) (w : ErrWindow) : State :=
  let s := s.setErr { s.err with windows := s.err.windows.erase w }
  let r : ErrRec :=
    { origin := w.origin, cls := w.cls, severity := w.severity, reporters := w.reporters, slot := none,
      t0 := w.t0, detail := w.detail, spanUs := min ((w.t1 - w.t0) / 1000) 65535, seq := 0 }
  if popcount w.mask ≥ 2 then
    let j := s.err.nextSlot
    let s := s.wr .fitBitmap_reporters j w.mask
    let s := s.wr .fitBitmapTag_seq j s.err.nextSeq
    let s := s.setErr { s.err with nextSlot := (j + 1) % 64 }
    s.errEmit { r with slot := some j }
  else s.errEmit r

/-- Merges a report into its window, or opens one; a 257th window first closes the oldest (R442). -/
def State.coalesce (s : State) (p : Report) : State :=
  match s.err.windows.find? (fun w => w.origin == p.origin && w.cls == p.cls) with
  | some w =>
    let w' := { w with severity := max w.severity p.severity, reporters := min (w.reporters + 1) 65535,
                       mask := w.mask ||| 2 ^ p.reporter, t1 := p.time }
    s.setErr { s.err with windows := s.err.windows.map (fun x => if x = w then w' else x) }
  | none =>
    let s := if s.err.windows.length ≥ 256 then
        match s.err.windows with | w :: _ => s.closeWindow w | [] => s
      else s
    s.setErr { s.err with windows := s.err.windows ++
      [{ origin := p.origin, cls := p.cls, severity := p.severity, reporters := 1, mask := 2 ^ p.reporter,
         t0 := p.time, t1 := p.time, detail := p.detail }] }

/-- A report of an event (R442): merged while the Fitter is alive, buffered (256) or only counted while it is not
(R429). -/
def State.report (s : State) (origin cls severity detail reporter : Nat) : State :=
  let p : Report := { origin, cls, severity, detail := detail % 2 ^ 64, reporter, time := s.time }
  if s.fitterAlive then s.coalesce p
  else if s.err.held.length < 256 then s.setErr { s.err with held := s.err.held ++ [p] }
  else s.setErr { s.err with heldDrop := s.err.heldDrop + 1 }

/-! Reporter bits of R443. -/
def repFitter : Nat := 64
def repShuttle : Nat := 65
def repRings : Nat := 66
def repVault : Nat := 67
def repSv (p : Nat) : Nat := 68 + p
def repThimble : Nat := 72
def repDdr (c : Nat) : Nat := 73 + c
def repHub : Nat := 81
def repStitch (p : Nat) : Nat := 82 + p

/-! ## DDR5 channels and seams -/

def State.setDdr (s : State) (d : Ddr) : State := { s with ddr := d }

/-- A channel nothing has started. -/
def chanDefault (_ : Nat) : DdrChan :=
  { found := none, record := none, record8000 := false, rate := 0, low := [], dqs := [], zq := 0, refreshes := 0, hotRefresh := false,
    scrubAt := 0, started := false, restoring := false, unsettled := [] }

def State.chan (s : State) (c : Nat) : DdrChan := Store.get chanDefault s.ddr.chans c
def State.setChan (s : State) (c : Nat) (x : DdrChan) : State :=
  s.setDdr { s.ddr with chans := Store.put chanDefault s.ddr.chans c x }

/-- Does the seam into island `i` discard its entries: is the island held in reset, or a DDR controller not yet restored from
one (R17)? -/
def State.seamShut (s : State) (i : Nat) : Bool :=
  s.flag .clkIsland_inReset i || s.power.pulse == some (i, s.time) || (decide (69 ≤ i ∧ i < 77) && (s.chan (i - 69)).restoring)

end Sys2Proof.Machine
end

