-- ==== Sys2Proof/Machine/Fuses.lean ====
section
/-! DEFINITION. Fuse words (R453, R454), what they say of the life cycle, and the sealed records in SPI NOR (R458). -/

namespace Sys2Proof.Machine

open Sys2Proof

/-! ## Words -/

/-- One bit of the CRC-16 of R453: polynomial 0x1021, no reflection. -/
def crc16Bit (c : Nat) : Nat :=
  let c2 := c * 2 % 65536
  if c.testBit 15 then Nat.xor c2 0x1021 else c2

/-- One byte of the CRC-16. -/
def crc16Byte (c b : Nat) : Nat :=
  (List.range 8).foldl (fun c _ => crc16Bit c) (Nat.xor c (b * 256))

/-- The CRC-16 of a list of bytes. -/
def crc16 (bs : List Nat) : Nat := bs.foldl crc16Byte 0xFFFF

/-- A copy that holds 48 bits of data. -/
def fuseCopy (d : Nat) : Nat :=
  d % 2 ^ 48 + 2 ^ 48 * crc16 ((List.range 6).map (fun i => d / 2 ^ (8 * i) % 256))

/-- A copy is blank, or valid, or invalid. -/
def copyBlank (c : Nat) : Bool := c == 0
def copyValid (c : Nat) : Bool := c != 0 && c == fuseCopy c

/-- A word no programming has reached. -/
def fuseDefault (_ : Nat) : FuseWord := { c0 := 0, c1 := 0 }
def State.fuse (s : State) (i : Nat) : FuseWord := Store.get fuseDefault s.thm.fuses i

def State.setThm (s : State) (t : Thm) : State := { s with thm := t }

/-- The value of a word (none: unwritten). -/
def FuseWord.value (w : FuseWord) : Option Nat :=
  if copyValid w.c0 then some (w.c0 % 2 ^ 48)
  else if !copyBlank w.c0 && copyValid w.c1 then some (w.c1 % 2 ^ 48)
  else none

/-- Does a word count as used? -/
def FuseWord.used (w : FuseWord) : Bool := !(copyBlank w.c0 && copyBlank w.c1)

/-- Programs a word, copy 0 and then copy 1; a used word is never programmed again. -/
def State.programFuse (s : State) (i d : Nat) : State :=
  if (s.fuse i).used then s
  else s.setThm { s.thm with fuses := Store.put fuseDefault s.thm.fuses i { c0 := fuseCopy d, c1 := fuseCopy d } }

/-! ## Items (R454): the first word of each array and its length. The numbering follows the table's order. -/

def fuKeyHash : Nat := 0
def fuDebugHash : Nat := 11
def fuSeed : Nat := 22
def fuLife : Nat := 28
def fuOwner (slot : Nat) : Nat := 34 + 11 * slot
def fuSeal : Nat := 56
def fuRoll : Nat := 120
def fuTamper : Nat := 248
def fuEnd : Nat := 264

/-- Used words of an array. -/
def State.fusesUsed (s : State) (first n : Nat) : Nat :=
  ((List.range n).filter (fun i => (s.fuse (first + i)).used)).length

/-- The first word of an array that is not used. -/
def State.nextFuse (s : State) (first n : Nat) : Option Nat :=
  ((List.range n).map (fun i => first + i)).find? (fun i => !(s.fuse i).used)

/-- The bytes of an item: six a word, little-endian; an unwritten word reads as zeros. -/
def State.fuseBytes (s : State) (first n : Nat) : List Byte :=
  ((List.range n).map (fun i => leBytes 6 ((s.fuse (first + i)).value.getD 0))).flatten

/-- Programs an item's bytes over its words. -/
def State.programItem (s : State) (first n : Nat) (bs : List Byte) : State :=
  s.each n (fun i s => s.programFuse (first + i) (leAt bs (6 * i) 6))

/-- The life-cycle state (R455): the highest state code among valid life-cycle words. A word's data is the code, and for
DEPLOYED the owner-hash slot in bit 8. -/
def State.lifeState (s : State) : Nat :=
  (List.range 6).foldl (fun a i => match (s.fuse (fuLife + i)).value with | some v => max a (v % 4) | none => a) 0

def lcBlank : Nat := 0
def lcProvisioned : Nat := 1
def lcDeployed : Nat := 2
def lcRetired : Nat := 3

/-- The owner-hash slot that the DEPLOYED word names. -/
def State.ownerSlot (s : State) : Nat :=
  (List.range 6).foldl (fun a i => match (s.fuse (fuLife + i)).value with
    | some v => if v % 4 = lcDeployed then v / 256 % 2 else a | none => a) 0

/-- The fused owner hash. -/
def State.fusedOwner (s : State) : List Byte := (s.fuseBytes (fuOwner s.ownerSlot) 11).take 64

/-- Seal epoch, rollback counter, tamper records used. -/
def State.sealEpoch (s : State) : Nat := s.fusesUsed fuSeal 64
def State.rollback (s : State) : Nat := s.fusesUsed fuRoll 128
def State.tamperUsed (s : State) : Nat := s.fusesUsed fuTamper 16

/-- The life-cycle state lets the table and sessions serve (R455). -/
def State.lifeServes (s : State) : Bool := s.lifeState == lcProvisioned || s.lifeState == lcDeployed

/-- Is debug open (R470): always in BLANK, in PROVISIONED once unlocked. -/
def State.debugOpen (s : State) : Bool := s.lifeState == lcBlank || s.flag .thmLc_debugOpen

/-! ## SPI NOR and its sealed records (R458, R460) -/

/-- Erased NOR reads ones. -/
def norDefault (_ : Nat) : Byte := 0xFF
def State.norBytes (s : State) (a n : Nat) : List Byte := Store.slice norDefault s.thm.nor a n
def State.norWrite (s : State) (a : Nat) (bs : List Byte) : State :=
  s.setThm { s.thm with nor := Store.putAll norDefault s.thm.nor a bs }

/-- The identity seed (R454). -/
def State.identitySeed (s : State) : Bs :=
  (((List.range 6).map (fun i => toLe 6 ((s.fuse (fuSeed + i)).value.getD (Config.seedWord i % 2 ^ 48)))).flatten).take 32

/-- The sealing key of a seal epoch (R458), its info "isaric-seal" and the epoch. -/
def State.sealingKey (s : State) (e : Nat) : Bs :=
  Hash.hkdf .sha512 s.identitySeed (zeros 64)
    ([105, 115, 97, 114, 105, 99, 45, 115, 101, 97, 108] ++ toLe 4 e) 32

/-- Where a sealed record stands: the table keys by the parity of their ID, then the mesh key (log 129). -/
def sealedAt (kind id : Nat) : Nat := 0x20000 + 80 * (if kind = 1 then id % 2 else 2)

/-- Seals a key under the current epoch with an IV from the DRBG: the 80 bytes of its record (R458). -/
def State.sealRecord (s : State) (kind id : Nat) (key : List Byte) : State :=
  let r := s.freshBytes 12
  let head := toLe 4 id ++ [kind] ++ zeros 11
  let c := Aes.gcmSeal (s.sealingKey s.sealEpoch) (natsOf r.1) head (natsOf key)
  r.2.norWrite (sealedAt kind id) (bytesOf head ++ r.1 ++ bytesOf (c.1 ++ c.2 ++ zeros 4))

/-- The sealed records are erased (R459 step 3). -/
def State.eraseRecords (s : State) : State := s.norWrite 0x20000 (List.replicate 240 0xFF)

end Sys2Proof.Machine
end

