-- ==== Sys2Proof/Machine/CryptoLattice.lean ====
section
/-! DEFINITION. ML-KEM (FIPS 203) and ML-DSA (FIPS 204), as R87 names them. Polynomials are lists of 256 coefficients in
[0, q). Randomness is an argument. Rejection sampling reads a bounded stretch of the XOF, long past what a run needs. -/

namespace Sys2Proof.Machine.Lattice

open Sys2Proof.Machine

abbrev Poly := List Nat

/-- Bits of bytes, least significant first. -/
def bitsOfBs (bs : Bs) : List Nat := (bs.map (fun b => (List.range 8).map (fun i => b / 2 ^ i % 2))).flatten

def valBits : List Nat → Nat
  | [] => 0
  | b :: bs => b + 2 * valBits bs

/-- Packs values of `d` bits each. -/
def pack (d : Nat) (xs : List Nat) : Bs :=
  (blocksOf 8 ((xs.map (fun x => (List.range d).map (fun i => x / 2 ^ i % 2))).flatten)).map valBits

def unpack (d : Nat) (bs : Bs) : List Nat := (blocksOf d (bitsOfBs bs)).map valBits

def bitRev (n i : Nat) : Nat := (List.range n).foldl (fun r j => 2 * r + i / 2 ^ j % 2) 0

def powM (q b : Nat) : Nat → Nat
  | 0 => 1
  | e + 1 => powM q b e * b % q

def addP (q : Nat) (a b : Poly) : Poly := List.zipWith (fun x y => (x + y) % q) a b
def subP (q : Nat) (a b : Poly) : Poly := List.zipWith (fun x y => (x + q - y) % q) a b

/-- One layer of the number-theoretic transform: butterflies of length `len` with the zetas from index `k0`. -/
def nttLayer (q : Nat) (zs : List Nat) (len k0 : Nat) (f : Poly) : Poly :=
  (((blocksOf (2 * len) f).zipIdx).map (fun p =>
    let z := zs.getD (k0 + p.2) 0
    let lo := p.1.take len
    let t := (p.1.drop len).map (fun x => x * z % q)
    addP q lo t ++ subP q lo t)).flatten

def nttLayers (q : Nat) (zs : List Nat) : Nat → Nat → Nat → Poly → Poly
  | 0, _, _, f => f
  | n + 1, len, k0, f => nttLayers q zs n (len / 2) (2 * k0) (nttLayer q zs len k0 f)

/-- One inverse layer; the zetas run down from index `k0`. -/
def invLayer (q : Nat) (zs : List Nat) (len k0 : Nat) (f : Poly) : Poly :=
  (((blocksOf (2 * len) f).zipIdx).map (fun p =>
    let z := zs.getD (k0 - p.2) 0
    let lo := p.1.take len
    let hi := p.1.drop len
    addP q lo hi ++ (subP q hi lo).map (fun x => x * z % q))).flatten

def invLayers (q : Nat) (zs : List Nat) : Nat → Nat → Nat → Poly → Poly
  | 0, _, _, f => f
  | n + 1, len, k0, f => invLayers q zs n (2 * len) (k0 / 2) (invLayer q zs len k0 f)

/-! ## ML-KEM -/

def kq : Nat := 3329
def kZetas : List Nat := (List.range 128).map (fun i => powM kq 17 (bitRev 7 i))
def kGammas : List Nat := (List.range 128).map (fun i => powM kq 17 (2 * bitRev 7 i + 1))

def kNtt (f : Poly) : Poly := nttLayers kq kZetas 7 128 1 f
def kInv (f : Poly) : Poly := (invLayers kq kZetas 7 2 127 f).map (fun x => x * 3303 % kq)

def kMul (a b : Poly) : Poly :=
  (((List.zipWith (fun x y => (x, y)) (blocksOf 2 a) (blocksOf 2 b)).zipIdx).map (fun p =>
    let x := p.1.1
    let y := p.1.2
    let x0 := x.getD 0 0
    let x1 := x.getD 1 0
    let y0 := y.getD 0 0
    let y1 := y.getD 1 0
    [(x0 * y0 + x1 * y1 % kq * kGammas.getD p.2 0) % kq, (x0 * y1 + x1 * y0) % kq])).flatten

def zeroP : Poly := zeros 256

def dot (mul : Poly → Poly → Poly) (q : Nat) (a b : List Poly) : Poly :=
  (List.zipWith mul a b).foldl (addP q) zeroP

/-- SampleNTT. -/
def kSample (seed : Bs) : Poly :=
  (((blocksOf 3 (Hash.shake128 2688 seed)).map (fun t =>
    let a := t.getD 0 0
    let b := t.getD 1 0
    let c := t.getD 2 0
    [a + 256 * (b % 16), b / 16 + 16 * c])).flatten.filter (fun d => decide (d < kq))).take 256

def kCbd (eta : Nat) (bs : Bs) : Poly :=
  (blocksOf (2 * eta) (bitsOfBs bs)).map (fun g =>
    ((g.take eta).foldl (· + ·) 0 + kq - (g.drop eta).foldl (· + ·) 0) % kq)

def kPrf (eta : Nat) (s : Bs) (n : Nat) : Poly := kCbd eta (Hash.shake256 (64 * eta) (s ++ [n]))

def compress (d x : Nat) : Nat := (x * 2 ^ d + kq / 2) / kq % 2 ^ d
def decompress (d y : Nat) : Nat := (y * kq + 2 ^ d / 2) / 2 ^ d

structure KemPar where
  k    : Nat
  eta1 : Nat
  du   : Nat
  dv   : Nat
  deriving DecidableEq, Repr

def kem512 : KemPar := { k := 2, eta1 := 3, du := 10, dv := 4 }
def kem768 : KemPar := { k := 3, eta1 := 2, du := 10, dv := 4 }
def kem1024 : KemPar := { k := 4, eta1 := 2, du := 11, dv := 5 }

def kMatrix (p : KemPar) (rho : Bs) : List (List Poly) :=
  (List.range p.k).map (fun i => (List.range p.k).map (fun j => kSample (rho ++ [j, i])))

def transpose (k : Nat) (m : List (List Poly)) : List (List Poly) :=
  (List.range k).map (fun i => m.map (fun r => r.getD i zeroP))

/-- K-PKE.KeyGen: (ek, dk). -/
def pkeKeyGen (p : KemPar) (d : Bs) : Bs × Bs :=
  let g := Hash.sha3_512 (d ++ [p.k])
  let rho := g.take 32
  let sg := g.drop 32
  let a := kMatrix p rho
  let s := (List.range p.k).map (fun i => kNtt (kPrf p.eta1 sg i))
  let e := (List.range p.k).map (fun i => kNtt (kPrf p.eta1 sg (p.k + i)))
  let t := List.zipWith (fun r ei => addP kq (dot kMul kq r s) ei) a e
  ((t.map (pack 12)).flatten ++ rho, (s.map (pack 12)).flatten)

def pkeEncrypt (p : KemPar) (ek m r : Bs) : Bs :=
  let t := (blocksOf 384 (ek.take (384 * p.k))).map (fun b => (unpack 12 b).map (fun x => x % kq))
  let a := kMatrix p (ek.drop (384 * p.k))
  let y := (List.range p.k).map (fun i => kNtt (kPrf p.eta1 r i))
  let e1 := (List.range p.k).map (fun i => kPrf 2 r (p.k + i))
  let e2 := kPrf 2 r (2 * p.k)
  let u := List.zipWith (fun row e => addP kq (kInv (dot kMul kq row y)) e) (transpose p.k a) e1
  let mu := (unpack 1 m).map (decompress 1)
  let v := addP kq (addP kq (kInv (dot kMul kq t y)) e2) mu
  (u.map (fun f => pack p.du (f.map (compress p.du)))).flatten ++ pack p.dv (v.map (compress p.dv))

def pkeDecrypt (p : KemPar) (dk c : Bs) : Bs :=
  let u := (blocksOf (32 * p.du) (c.take (32 * p.du * p.k))).map (fun b => (unpack p.du b).map (decompress p.du))
  let v := (unpack p.dv (c.drop (32 * p.du * p.k))).map (decompress p.dv)
  let s := (blocksOf 384 dk).map (unpack 12)
  let w := subP kq v (kInv (dot kMul kq s (u.map kNtt)))
  pack 1 (w.map (compress 1))

/-- ML-KEM.KeyGen: the decapsulation key, which carries the encapsulation key. -/
def kemKeyGen (p : KemPar) (d z : Bs) : Bs :=
  let (ek, dk) := pkeKeyGen p d
  dk ++ ek ++ Hash.sha3_256 ek ++ z

/-- The encapsulation key inside a decapsulation key. -/
def kemPublic (p : KemPar) (dk : Bs) : Bs := (dk.drop (384 * p.k)).take (384 * p.k + 32)

/-- (shared secret, ciphertext). -/
def kemEncaps (p : KemPar) (ek m : Bs) : Bs × Bs :=
  let g := Hash.sha3_512 (m ++ Hash.sha3_256 ek)
  (g.take 32, pkeEncrypt p ek m (g.drop 32))

def kemDecaps (p : KemPar) (dk c : Bs) : Bs :=
  let ek := kemPublic p dk
  let rest := dk.drop (768 * p.k + 32)
  let m := pkeDecrypt p (dk.take (384 * p.k)) c
  let g := Hash.sha3_512 (m ++ rest.take 32)
  if pkeEncrypt p ek m (g.drop 32) = c then g.take 32
  else Hash.shake256 32 (rest.drop 32 ++ c)

/-- The modulus check of FIPS 203 on an encapsulation key. -/
def kemKeyOk (p : KemPar) (ek : Bs) : Bool :=
  ek.length == 384 * p.k + 32 && (unpack 12 (ek.take (384 * p.k))).all (fun x => decide (x < kq))

def kemCtLen (p : KemPar) : Nat := 32 * (p.du * p.k + p.dv)

/-! ## ML-DSA -/

def dq : Nat := 8380417
def dZetas : List Nat := (List.range 256).map (fun i => powM dq 1753 (bitRev 8 i))
def dNtt (f : Poly) : Poly := nttLayers dq dZetas 8 128 1 f
def dInv (f : Poly) : Poly :=
  (invLayers dq dZetas 8 1 255 f).map (fun x => x * 8347681 % dq)
def dMul (a b : Poly) : Poly := List.zipWith (fun x y => x * y % dq) a b

structure DsaPar where
  k    : Nat
  l    : Nat
  eta  : Nat
  tau  : Nat
  cl   : Nat
  g1   : Nat
  g2   : Nat
  om   : Nat
  deriving DecidableEq, Repr

def dsa44 : DsaPar := { k := 4, l := 4, eta := 2, tau := 39, cl := 32, g1 := 2 ^ 17, g2 := 95232, om := 80 }
def dsa65 : DsaPar := { k := 6, l := 5, eta := 4, tau := 49, cl := 48, g1 := 2 ^ 19, g2 := 261888, om := 55 }
def dsa87 : DsaPar := { k := 8, l := 7, eta := 2, tau := 60, cl := 64, g1 := 2 ^ 19, g2 := 261888, om := 75 }

def DsaPar.beta (p : DsaPar) : Nat := p.tau * p.eta

/-- |x| of the centred representative. -/
def cabs (x : Nat) : Nat := min x (dq - x)
def normLt (b : Nat) (fs : List Poly) : Bool := fs.all (fun f => f.all (fun x => decide (cabs x < b)))

def dSample (seed : Bs) : Poly :=
  (((blocksOf 3 (Hash.shake128 2688 seed)).map (fun t => t.getD 0 0 + 256 * t.getD 1 0 + 65536 * (t.getD 2 0 % 128))).filter
    (fun x => decide (x < dq))).take 256

def dBounded (eta : Nat) (seed : Bs) : Poly :=
  (((Hash.shake256 1088 seed).map (fun b => [b % 16, b / 16])).flatten.filterMap (fun z =>
    if eta = 2 then if z < 15 then some ((2 + dq - z % 5) % dq) else none
    else if z < 9 then some ((4 + dq - z) % dq) else none)).take 256

def dMatrix (p : DsaPar) (rho : Bs) : List (List Poly) :=
  (List.range p.k).map (fun r => (List.range p.l).map (fun c => dSample (rho ++ [c, r])))

def power2Round (x : Nat) : Nat × Nat :=
  let r0 := x % 8192
  if r0 > 4096 then ((x + 8192 - r0) / 8192, (dq + r0 - 8192) % dq) else ((x - r0) / 8192, r0)

def decompose (g2 x : Nat) : Nat × Nat :=
  let r0 := x % (2 * g2)
  let r0c := if r0 > g2 then r0 + dq - 2 * g2 else r0
  let top := if r0 > g2 then x + 2 * g2 - r0 else x - r0
  if top = dq - 1 then (0, (r0c + dq - 1) % dq) else (top / (2 * g2), r0c % dq)

def highBits (g2 x : Nat) : Nat := (decompose g2 x).1
def lowBits (g2 x : Nat) : Nat := (decompose g2 x).2

/-- BitPack with range [−a, b]: stores b − x. -/
def bitPack (b d : Nat) (f : Poly) : Bs := pack d (f.map (fun x => (b + dq - x) % dq))
def bitUnpack (b d : Nat) (bs : Bs) : Poly := (unpack d bs).map (fun x => (b + dq - x) % dq)

def etaBits (p : DsaPar) : Nat := if p.eta = 2 then 3 else 4
def zBits (p : DsaPar) : Nat := if p.g1 = 2 ^ 17 then 18 else 20
def w1Bits (p : DsaPar) : Nat := if p.g2 = 95232 then 6 else 4

/-- ML-DSA.KeyGen: (pk, sk). -/
def dsaKeyGen (p : DsaPar) (xi : Bs) : Bs × Bs :=
  let h := Hash.shake256 128 (xi ++ [p.k, p.l])
  let rho := h.take 32
  let rp := (h.drop 32).take 64
  let kk := h.drop 96
  let a := dMatrix p rho
  let s1 := (List.range p.l).map (fun r => dBounded p.eta (rp ++ toLe 2 r))
  let s2 := (List.range p.k).map (fun r => dBounded p.eta (rp ++ toLe 2 (p.l + r)))
  let s1h := s1.map dNtt
  let t := List.zipWith (fun row e => addP dq (dInv (dot dMul dq row s1h)) e) a s2
  let t1 := t.map (fun f => f.map (fun x => (power2Round x).1))
  let t0 := t.map (fun f => f.map (fun x => (power2Round x).2))
  let pk := rho ++ (t1.map (pack 10)).flatten
  let sk := rho ++ kk ++ Hash.shake256 64 pk ++ (s1.map (bitPack p.eta (etaBits p))).flatten
    ++ (s2.map (bitPack p.eta (etaBits p))).flatten ++ (t0.map (bitPack 4096 13)).flatten
  (pk, sk)

/-- The parts of a private key: s1, s2, t0. -/
def dsaParts (p : DsaPar) (sk : Bs) : List Poly × List Poly × List Poly :=
  let eb := 32 * etaBits p
  let f := fun (off n : Nat) (sz : Nat) => (List.range n).map (fun i => (sk.drop (off + i * sz)).take sz)
  ((f 128 p.l eb).map (bitUnpack p.eta (etaBits p)), (f (128 + p.l * eb) p.k eb).map (bitUnpack p.eta (etaBits p)),
   (f (128 + (p.l + p.k) * eb) p.k 416).map (bitUnpack 4096 13))

/-- The public key of a private key. -/
def dsaPublic (p : DsaPar) (sk : Bs) : Bs :=
  let (s1, s2, _) := dsaParts p sk
  let rho := sk.take 32
  let t := List.zipWith (fun row e => addP dq (dInv (dot dMul dq row (s1.map dNtt))) e) (dMatrix p rho) s2
  rho ++ (t.map (fun f => pack 10 (f.map (fun x => (power2Round x).1)))).flatten

/-- SampleInBall: positions from byte 8 of the XOF on. -/
def ballGo (signs : List Nat) : Nat → Nat → Bs → Nat → Poly → Poly
  | 0, _, _, _, c => c
  | fuel + 1, i, bs, n, c =>
    if i ≥ 256 then c
    else match bs with
      | [] => c
      | j :: rest =>
        if j > i then ballGo signs fuel i rest n c
        else ballGo signs fuel (i + 1) rest (n + 1)
          ((c.set i (c.getD j 0)).set j (if signs.getD n 0 = 1 then dq - 1 else 1))

def sampleInBall (p : DsaPar) (seed : Bs) : Poly :=
  let h := Hash.shake256 (8 + 1080) seed
  ballGo (bitsOfBs (h.take 8)) 1080 (256 - p.tau) (h.drop 8) 0 zeroP

def w1Encode (p : DsaPar) (w1 : List Poly) : Bs := (w1.map (pack (w1Bits p))).flatten

def hintPackGo : List Poly → Bs × Bs → Bs × Bs
  | [], acc => acc
  | h :: rest, (pos, cnt) =>
    let ones := (h.zipIdx.filter (fun e => e.1 == 1)).map (·.2)
    hintPackGo rest (pos ++ ones, cnt ++ [pos.length + ones.length])

def hintPack (p : DsaPar) (h : List Poly) : Bs :=
  let (pos, cnt) := hintPackGo h ([], [])
  pos ++ zeros (p.om - pos.length) ++ cnt

def rising : List Nat → Bool
  | a :: b :: rest => decide (a < b) && rising (b :: rest)
  | _ => true

def hintUnpackGo (pos : Bs) : List Nat → Nat → Option (List Poly)
  | [], prev => if (pos.drop prev).all (fun b => b == 0) then some [] else none
  | c :: cs, prev =>
    let mine := (pos.drop prev).take (c - prev)
    if c < prev ∨ c > pos.length ∨ !rising mine then none
    else (hintUnpackGo pos cs c).map (fun rest => (mine.foldl (fun f i => f.set i 1) zeroP) :: rest)

def hintUnpack (p : DsaPar) (bs : Bs) : Option (List Poly) := hintUnpackGo (bs.take p.om) (bs.drop p.om) 0

def dsaMu (tr ctx msg : Bs) : Bs := Hash.shake256 64 (tr ++ [0, ctx.length] ++ ctx ++ msg)

def signLoop (p : DsaPar) (a : List (List Poly)) (s1 s2 t0 : List Poly) (mu rpp : Bs) : Nat → Nat → Bs
  | 0, _ => []
  | fuel + 1, kappa =>
    let y := (List.range p.l).map (fun r =>
      bitUnpack p.g1 (zBits p) (Hash.shake256 (32 * zBits p) (rpp ++ toLe 2 (kappa + r))))
    let yh := y.map dNtt
    let w := a.map (fun row => dInv (dot dMul dq row yh))
    let ct := Hash.shake256 p.cl (mu ++ w1Encode p (w.map (fun f => f.map (highBits p.g2))))
    let c := dNtt (sampleInBall p ct)
    let cs := fun (fs : List Poly) => fs.map (fun f => dInv (dMul c f))
    let z := List.zipWith (addP dq) y (cs s1)
    let wcs2 := List.zipWith (subP dq) w (cs s2)
    let ct0 := cs t0
    let r0 := wcs2.map (fun f => f.map (lowBits p.g2))
    let sum := List.zipWith (addP dq) wcs2 ct0
    let h := List.zipWith (fun f g => List.zipWith (fun x y => b2 (highBits p.g2 x != highBits p.g2 y)) f g) wcs2 sum
    let ones := (h.map (fun f => f.foldl (· + ·) 0)).foldl (· + ·) 0
    if normLt (p.g1 - p.beta) z && normLt (p.g2 - p.beta) r0 && normLt p.g2 ct0 && decide (ones ≤ p.om) then
      ct ++ (z.map (bitPack p.g1 (zBits p))).flatten ++ hintPack p h
    else signLoop p a s1 s2 t0 mu rpp fuel (kappa + p.l)
where
  /-- 1 for true. -/
  b2 (b : Bool) : Nat := if b then 1 else 0

/-- ML-DSA.Sign, hedged with 32 random bytes, pure form. -/
def dsaSign (p : DsaPar) (sk ctx msg rnd : Bs) : Bs :=
  let (s1, s2, t0) := dsaParts p sk
  let mu := dsaMu ((sk.drop 64).take 64) ctx msg
  let rpp := Hash.shake256 64 ((sk.drop 32).take 32 ++ rnd ++ mu)
  signLoop p (dMatrix p (sk.take 32)) (s1.map dNtt) (s2.map dNtt) (t0.map dNtt) mu rpp 814 0

def useHint (g2 h r : Nat) : Nat :=
  let m := (dq - 1) / (2 * g2)
  let (r1, r0) := decompose g2 r
  if h = 1 then if r0 ≠ 0 ∧ r0 ≤ g2 then (r1 + 1) % m else (r1 + m - 1) % m else r1

def dsaVerify (p : DsaPar) (pk ctx msg sig : Bs) : Bool :=
  let zl := 32 * zBits p
  let ct := sig.take p.cl
  let z := (List.range p.l).map (fun i => bitUnpack p.g1 (zBits p) ((sig.drop (p.cl + i * zl)).take zl))
  if sig.length ≠ p.cl + p.l * zl + p.om + p.k then false
  else
    match hintUnpack p (sig.drop (p.cl + p.l * zl)) with
    | none => false
    | some h =>
      let rho := pk.take 32
      let t1 := (List.range p.k).map (fun i => unpack 10 ((pk.drop (32 + 320 * i)).take 320))
      let mu := dsaMu (Hash.shake256 64 pk) ctx msg
      let c := dNtt (sampleInBall p ct)
      let zh := z.map dNtt
      let w := List.zipWith (fun row t =>
        dInv (subP dq (dot dMul dq row zh) (dMul c (dNtt (t.map (fun x => x * 8192 % dq)))))) (dMatrix p rho) t1
      let w1 := List.zipWith (fun f g => List.zipWith (useHint p.g2) f g) h w
      normLt (p.g1 - p.beta) z && ct == Hash.shake256 p.cl (mu ++ w1Encode p w1)

end Sys2Proof.Machine.Lattice
end

