-- ==== Sys2Proof/Machine/CryptoPk.lean ====
section
/-! DEFINITION. ECDSA and ECDH on P-256, P-384 and P-521 (FIPS 186-5, SP 800-56A), Ed25519 (RFC 8032) and RSA (RFC 8017), as
R87 names them. Randomness is an argument. -/

namespace Sys2Proof.Machine.Pk

open Sys2Proof.Machine

def powFuel : Nat → Nat → Nat → Nat → Nat → Nat
  | 0, _, _, _, acc => acc
  | f + 1, b, e, m, acc => if e = 0 then acc else powFuel f (b * b % m) (e / 2) m (if e % 2 = 1 then acc * b % m else acc)

/-- b^e mod m. -/
def powMod (b e m : Nat) : Nat := powFuel (Nat.log2 e + 1) (b % m) e m (1 % m)

/-- Inverse modulo a prime. -/
def invMod (a p : Nat) : Nat := powMod a (p - 2) p

def subMod (a b m : Nat) : Nat := (a + (m - b % m)) % m

/-! ## Weierstrass curves with a = −3 -/

structure Curve where
  p   : Nat
  b   : Nat
  n   : Nat
  gx  : Nat
  gy  : Nat
  len : Nat
  deriving DecidableEq, Repr

def p256 : Curve :=
  { p := 2 ^ 256 - 2 ^ 224 + 2 ^ 192 + 2 ^ 96 - 1
    b := 0x5ac635d8aa3a93e7b3ebbd55769886bc651d06b0cc53b0f63bce3c3e27d2604b
    n := 0xffffffff00000000ffffffffffffffffbce6faada7179e84f3b9cac2fc632551
    gx := 0x6b17d1f2e12c4247f8bce6e563a440f277037d812deb33a0f4a13945d898c296
    gy := 0x4fe342e2fe1a7f9b8ee7eb4a7c0f9e162bce33576b315ececbb6406837bf51f5
    len := 32 }

def p384 : Curve :=
  { p := 2 ^ 384 - 2 ^ 128 - 2 ^ 96 + 2 ^ 32 - 1
    b := 0xb3312fa7e23ee7e4988e056be3f82d19181d9c6efe8141120314088f5013875ac656398d8a2ed19d2a85c8edd3ec2aef
    n := 0xffffffffffffffffffffffffffffffffffffffffffffffffc7634d81f4372ddf581a0db248b0a77aecec196accc52973
    gx := 0xaa87ca22be8b05378eb1c71ef320ad746e1d3b628ba79b9859f741e082542a385502f25dbf55296c3a545e3872760ab7
    gy := 0x3617de4a96262c6f5d9e98bf9292dc29f8f41dbd289a147ce9da3113b5f0b8c00a60b1ce1d7e819d7a431d7c90ea0e5f
    len := 48 }

def p521 : Curve :=
  { p := 2 ^ 521 - 1
    b := 0x51953eb9618e1c9a1f929a21a0b68540eea2da725b99b315f3b8b489918ef109e156193951ec7e937b1652c0bd3bb1bf073573df883d2c34f1ef451fd46b503f00
    n := 0x1fffffffffffffffffffffffffffffffffffffffffffffffffffffffffffffffffa51868783bf2f966b7fcc0148f709a5d03bb5c9b8899c47aebb6fb71e91386409
    gx := 0xc6858e06b70404e9cd9e3ecb662395b4429c648139053fb521f828af606b4d3dbaa14b5e77efe75928fe1dc127a2ffa8de3348b3c1856a429bf97e7e31c2e5bd66
    gy := 0x11839296a789a3bc0045c8a5fb42c7d1bd998f54449579b446817afbd17273e662c97ee72995ef42640c550b9013fad0761353c7086a272c24088be94769fd16650
    len := 66 }

/-- A point; none is the point at infinity. -/
abbrev Pt := Option (Nat × Nat)

def ptAdd (c : Curve) : Pt → Pt → Pt
  | none, q => q
  | p, none => p
  | some (x1, y1), some (x2, y2) =>
    if x1 = x2 ∧ (y1 + y2) % c.p = 0 then none
    else
      let l := if x1 = x2 then (3 * x1 * x1 + c.p - 3) * invMod (2 * y1) c.p % c.p
        else subMod y2 y1 c.p * invMod (subMod x2 x1 c.p) c.p % c.p
      let x3 := subMod (subMod (l * l) x1 c.p) x2 c.p
      some (x3, subMod (l * subMod x1 x3 c.p) y1 c.p)

/-- A point in Jacobian coordinates: (X, Y, Z) is (X/Z², Y/Z³), and Z = 0 the point at infinity. -/
abbrev Jac := Nat × Nat × Nat

def jacDouble (c : Curve) : Jac → Jac
  | (x, y, z) =>
    let zz := z * z % c.p
    let yy := y * y % c.p
    let b := x * yy % c.p
    let a := 3 * (x + (c.p - zz)) * (x + zz) % c.p
    let x3 := subMod (a * a) (8 * b) c.p
    (x3, subMod (a * subMod (4 * b) x3 c.p) (8 * yy * yy) c.p, 2 * y * z % c.p)

def jacAdd (c : Curve) : Jac → Jac → Jac
  | (x1, y1, z1), (x2, y2, z2) =>
    if z1 = 0 then (x2, y2, z2)
    else if z2 = 0 then (x1, y1, z1)
    else
      let zz1 := z1 * z1 % c.p
      let zz2 := z2 * z2 % c.p
      let u1 := x1 * zz2 % c.p
      let s1 := y1 * z2 * zz2 % c.p
      let h := subMod (x2 * zz1) u1 c.p
      let r := subMod (y2 * z1 * zz1) s1 c.p
      if h = 0 then if r = 0 then jacDouble c (x1, y1, z1) else (1, 1, 0)
      else
        let hh := h * h % c.p
        let v := u1 * hh % c.p
        let x3 := subMod (r * r) (h * hh + 2 * v) c.p
        (x3, subMod (r * subMod v x3 c.p) (s1 * h * hh) c.p, h * z1 * z2 % c.p)

def jacMulFuel (c : Curve) : Nat → Nat → Jac → Jac → Jac
  | 0, _, _, acc => acc
  | f + 1, k, p, acc =>
    if k = 0 then acc else jacMulFuel c f (k / 2) (jacDouble c p) (if k % 2 = 1 then jacAdd c acc p else acc)

/-- The point in affine coordinates. -/
def ofJac (c : Curve) : Jac → Pt
  | (x, y, z) =>
    if z = 0 then none
    else
      let i := invMod z c.p
      some (x * i * i % c.p, y * i * i * i % c.p)

/-- k times a point. -/
def ptMul (c : Curve) (k : Nat) : Pt → Pt
  | none => none
  | some (x, y) => ofJac c (jacMulFuel c (Nat.log2 k + 1) k (x, y, 1) (1, 1, 0))

def gen (c : Curve) : Pt := some (c.gx, c.gy)

def onCurve (c : Curve) (x y : Nat) : Bool :=
  decide (x < c.p) && decide (y < c.p) && (y * y) % c.p == (x * x * x + (c.p - 3) * x + c.b) % c.p

/-- SEC 1 uncompressed point (R90). -/
def encodePt (c : Curve) : Pt → Bs
  | some (x, y) => 4 :: (toBe c.len x ++ toBe c.len y)
  | none => [0]

/-- Full public-key validation of SP 800-56A: encoding, range, on the curve, order n. -/
def decodePt (c : Curve) (bs : Bs) : Pt :=
  if bs.length = 2 * c.len + 1 ∧ bs.getD 0 0 = 4 then
    let x := valBe ((bs.drop 1).take c.len)
    let y := valBe (bs.drop (1 + c.len))
    if onCurve c x y && (ptMul c c.n (some (x, y))).isNone then some (x, y) else none
  else none

def ecPublic (c : Curve) (d : Nat) : Bs := encodePt c (ptMul c d (gen c))

/-- The leftmost bits of a digest as a number (FIPS 186-5). -/
def digestNum (c : Curve) (dg : Bs) : Nat :=
  let nb := Nat.log2 c.n + 1
  if 8 * dg.length > nb then valBe dg / 2 ^ (8 * dg.length - nb) else valBe dg

/-- ECDSA signature r ‖ s with the per-message number `k`. -/
def ecdsaSign (c : Curve) (d : Nat) (dg : Bs) (k : Nat) : Bs :=
  let r := match ptMul c k (gen c) with | some (x, _) => x % c.n | none => 0
  let s := invMod k c.n * (digestNum c dg + r * d) % c.n
  toBe c.len r ++ toBe c.len s

def ecdsaVerify (c : Curve) (pub dg sig : Bs) : Bool :=
  match decodePt c pub with
  | none => false
  | some q =>
    let r := valBe (sig.take c.len)
    let s := valBe (sig.drop c.len)
    if sig.length ≠ 2 * c.len ∨ r = 0 ∨ r ≥ c.n ∨ s = 0 ∨ s ≥ c.n then false
    else
      let w := invMod s c.n
      match ptAdd c (ptMul c (digestNum c dg * w % c.n) (gen c)) (ptMul c (r * w % c.n) (some q)) with
      | some (x, _) => x % c.n == r
      | none => false

/-- ECDH: the x-coordinate, none when the peer point fails validation. -/
def ecdh (c : Curve) (d : Nat) (peer : Bs) : Option Bs :=
  match decodePt c peer with
  | none => none
  | some q => match ptMul c d (some q) with
    | some (x, _) => some (toBe c.len x)
    | none => none

/-! ## Ed25519 -/

def edP : Nat := 2 ^ 255 - 19
def edL : Nat := 2 ^ 252 + 27742317777372353535851937790883648493
def edD : Nat := subMod 0 (121665 * invMod 121666 edP) edP

/-- Addition on the twisted Edwards curve, affine. -/
def edAdd (p q : Nat × Nat) : Nat × Nat :=
  let m := p.1 * q.1 % edP * (p.2 * q.2 % edP) % edP * edD % edP
  ((p.1 * q.2 + p.2 * q.1) % edP * invMod (1 + m) edP % edP,
   (p.2 * q.2 + p.1 * q.1) % edP * invMod (subMod 1 m edP) edP % edP)

/-- A point in extended coordinates (RFC 8032, 5.1.4): (X, Y, Z, T) is (X/Z, Y/Z), with XY = ZT. -/
abbrev Ext := Nat × Nat × Nat × Nat

def extAdd : Ext → Ext → Ext
  | (x1, y1, z1, t1), (x2, y2, z2, t2) =>
    let a := subMod y1 x1 edP * subMod y2 x2 edP % edP
    let b := (y1 + x1) * (y2 + x2) % edP
    let c := 2 * t1 * t2 % edP * edD % edP
    let d := 2 * z1 * z2 % edP
    let e := subMod b a edP
    let f := subMod d c edP
    let g := (d + c) % edP
    let h := (b + a) % edP
    (e * f % edP, g * h % edP, f * g % edP, e * h % edP)

def extMulFuel : Nat → Nat → Ext → Ext → Ext
  | 0, _, _, acc => acc
  | f + 1, k, p, acc => if k = 0 then acc else extMulFuel f (k / 2) (extAdd p p) (if k % 2 = 1 then extAdd acc p else acc)

/-- k times a point. -/
def edMul (k : Nat) (p : Nat × Nat) : Nat × Nat :=
  let (x, y, z, _) := extMulFuel (Nat.log2 k + 1) k (p.1, p.2, 1, p.1 * p.2 % edP) (0, 1, 1, 0)
  let i := invMod z edP
  (x * i % edP, y * i % edP)

/-- The x of a y and a sign bit (RFC 8032, 5.1.3). -/
def edRecover (y sign : Nat) : Option Nat :=
  if y ≥ edP then none
  else
    let x2 := subMod (y * y) 1 edP * invMod (edD * y * y + 1) edP % edP
    let x := powMod x2 ((edP + 3) / 8) edP
    let x := if x * x % edP = x2 then x else x * powMod 2 ((edP - 1) / 4) edP % edP
    if x * x % edP ≠ x2 then none
    else if x = 0 ∧ sign = 1 then none
    else some (if x % 2 = sign then x else edP - x)

def edBase : Nat × Nat :=
  let y := 4 * invMod 5 edP % edP
  ((edRecover y 0).getD 0, y)

def edEncode (p : Nat × Nat) : Bs := toLe 32 (p.2 + 2 ^ 255 * (p.1 % 2))

def edDecode (bs : Bs) : Option (Nat × Nat) :=
  let v := valLe bs
  (edRecover (v % 2 ^ 255) (v / 2 ^ 255)).map (fun x => (x, v % 2 ^ 255))

def edClamp (h : Bs) : Nat := (valLe (h.take 32) % 2 ^ 254) / 8 * 8 + 2 ^ 254

def edPublic (seed : Bs) : Bs := edEncode (edMul (edClamp (Hash.sha512 seed)) edBase)

def edSign (seed msg : Bs) : Bs :=
  let h := Hash.sha512 seed
  let a := edClamp h
  let pub := edPublic seed
  let r := valLe (Hash.sha512 (h.drop 32 ++ msg)) % edL
  let rEnc := edEncode (edMul r edBase)
  let k := valLe (Hash.sha512 (rEnc ++ pub ++ msg)) % edL
  rEnc ++ toLe 32 ((r + k * a) % edL)

def edVerify (pub msg sig : Bs) : Bool :=
  match edDecode pub, edDecode (sig.take 32) with
  | some a, some r =>
    let s := valLe (sig.drop 32)
    let k := valLe (Hash.sha512 (sig.take 32 ++ pub ++ msg)) % edL
    sig.length == 64 && decide (s < edL) && edMul s edBase == edAdd r (edMul k a)
  | _, _ => false

/-! ## RSA -/

/-- A private key in CRT form, of modulus length `len` bytes (R96). -/
structure RsaKey where
  len  : Nat
  n    : Nat
  e    : Nat
  p    : Nat
  q    : Nat
  dp   : Nat
  dq   : Nat
  qinv : Nat
  deriving DecidableEq, Repr

def rsaPrivOf (len : Nat) (m : Bs) : RsaKey :=
  let h := len / 2
  let f := fun i => valBe ((m.drop (len + 4 + i * h)).take h)
  { len, n := valBe (m.take len), e := valBe ((m.drop len).take 4), p := f 0, q := f 1, dp := f 2, dq := f 3,
    qinv := f 4 }

/-- n ‖ e (R90). -/
def rsaPubOf (len : Nat) (m : Bs) : RsaKey :=
  { len, n := valBe (m.take len), e := valBe ((m.drop len).take 4), p := 0, q := 0, dp := 0, dq := 0, qinv := 0 }

def rsaPublic (k : RsaKey) (x : Nat) : Nat := powMod x k.e k.n

def rsaPrivate (k : RsaKey) (x : Nat) : Nat :=
  let m1 := powMod x k.dp k.p
  let m2 := powMod x k.dq k.q
  m2 + k.q * (k.qinv * subMod m1 m2 k.p % k.p)

/-- MGF1. -/
def mgf1 (a : Hash.Alg) (seed : Bs) (len : Nat) : Bs :=
  (((List.range (len / Hash.outLen a + 1)).map (fun i => Hash.digest a (seed ++ toBe 4 i))).flatten).take len

/-- EMSA-PSS encoding of a digest with its salt. -/
def pssEncode (a : Hash.Alg) (k : RsaKey) (dg salt : Bs) : Bs :=
  let bits := Nat.log2 k.n
  let em := (bits + 7) / 8
  let h := Hash.digest a (zeros 8 ++ dg ++ salt)
  let db := zeros (em - salt.length - h.length - 2) ++ [1] ++ salt
  let masked := xorBs db (mgf1 a h db.length)
  match masked with
  | m0 :: rest => (m0 % 2 ^ (8 - (8 * em - bits))) :: rest ++ h ++ [0xbc]
  | [] => []

def pssSign (a : Hash.Alg) (k : RsaKey) (dg salt : Bs) : Bs := toBe k.len (rsaPrivate k (valBe (pssEncode a k dg salt)))

def pssVerify (a : Hash.Alg) (k : RsaKey) (dg sig : Bs) : Bool :=
  let s := valBe sig
  if sig.length ≠ k.len ∨ s ≥ k.n then false
  else
    let bits := Nat.log2 k.n
    let em := (bits + 7) / 8
    let hl := Hash.outLen a
    let m := rsaPublic k s
    if m ≥ 2 ^ (8 * em) then false
    else
      let e := toBe em m
      let db := xorBs (e.take (em - hl - 1)) (mgf1 a ((e.drop (em - hl - 1)).take hl) (em - hl - 1))
      let db := match db with | m0 :: rest => (m0 % 2 ^ (8 - (8 * em - bits))) :: rest | [] => []
      e == pssEncode a k dg (db.drop (db.length - hl))

/-- DER prefix of DigestInfo. -/
def digestInfo : Hash.Alg → Bs
  | .sha256 => [0x30, 0x31, 0x30, 0x0d, 6, 9, 0x60, 0x86, 0x48, 1, 0x65, 3, 4, 2, 1, 5, 0, 4, 0x20]
  | .sha384 => [0x30, 0x41, 0x30, 0x0d, 6, 9, 0x60, 0x86, 0x48, 1, 0x65, 3, 4, 2, 2, 5, 0, 4, 0x30]
  | .sha512 => [0x30, 0x51, 0x30, 0x0d, 6, 9, 0x60, 0x86, 0x48, 1, 0x65, 3, 4, 2, 3, 5, 0, 4, 0x40]
  | .sha3_256 => [0x30, 0x31, 0x30, 0x0d, 6, 9, 0x60, 0x86, 0x48, 1, 0x65, 3, 4, 2, 8, 5, 0, 4, 0x20]
  | .sha3_512 => [0x30, 0x51, 0x30, 0x0d, 6, 9, 0x60, 0x86, 0x48, 1, 0x65, 3, 4, 2, 10, 5, 0, 4, 0x40]
  | .sha1 => []

/-- EMSA-PKCS1-v1_5. -/
def pkcs1Encode (a : Hash.Alg) (len : Nat) (dg : Bs) : Bs :=
  let t := digestInfo a ++ dg
  [0, 1] ++ List.replicate (len - t.length - 3) 0xff ++ [0] ++ t

def pkcs1Sign (a : Hash.Alg) (k : RsaKey) (dg : Bs) : Bs := toBe k.len (rsaPrivate k (valBe (pkcs1Encode a k.len dg)))

def pkcs1Verify (a : Hash.Alg) (k : RsaKey) (dg sig : Bs) : Bool :=
  sig.length == k.len && decide (valBe sig < k.n) && toBe k.len (rsaPublic k (valBe sig)) == pkcs1Encode a k.len dg

def oaepEncrypt (a : Hash.Alg) (k : RsaKey) (label msg seed : Bs) : Bs :=
  let hl := Hash.outLen a
  let db := Hash.digest a label ++ zeros (k.len - msg.length - 2 * hl - 2) ++ [1] ++ msg
  let mdb := xorBs db (mgf1 a seed db.length)
  toBe k.len (rsaPublic k (valBe ([0] ++ xorBs seed (mgf1 a mdb hl) ++ mdb)))

/-- OAEP decryption: none when decoding fails. -/
def oaepDecrypt (a : Hash.Alg) (k : RsaKey) (label ct : Bs) : Option Bs :=
  let hl := Hash.outLen a
  if ct.length ≠ k.len ∨ valBe ct ≥ k.n then none
  else
    let em := toBe k.len (rsaPrivate k (valBe ct))
    let mdb := em.drop (hl + 1)
    let seed := xorBs ((em.drop 1).take hl) (mgf1 a mdb hl)
    let db := xorBs mdb (mgf1 a seed mdb.length)
    let rest := (db.drop hl).dropWhile (fun b => b == 0)
    if em.getD 0 1 = 0 ∧ db.take hl = Hash.digest a label ∧ rest.getD 0 0 = 1 then some (rest.drop 1) else none

end Sys2Proof.Machine.Pk
end

