-- ==== Sys2Proof/Machine/CryptoStream.lean ====
section
/-! DEFINITION. ChaCha20-Poly1305 (RFC 8439), BLAKE2b and Argon2 (RFC 9106), and the mixing of scrypt (RFC 7914), as R87
names them. -/

namespace Sys2Proof.Machine.Stream

open Sys2Proof.Machine

/-! ## ChaCha20-Poly1305 -/

/-- A quarter round on words a, b, c, d of a state. -/
def quarter (st : List Nat) (a b c d : Nat) : List Nat :=
  let m := 2 ^ 32
  let g := fun i => st.getD i 0
  let xa := (g a + g b) % m
  let xd := rotl 32 (g d ^^^ xa) 16
  let xc := (g c + xd) % m
  let xb := rotl 32 (g b ^^^ xc) 12
  let xa := (xa + xb) % m
  let xd := rotl 32 (xd ^^^ xa) 8
  let xc := (xc + xd) % m
  let xb := rotl 32 (xb ^^^ xc) 7
  (((st.set a xa).set b xb).set c xc).set d xd

def doubleRound (st : List Nat) : List Nat :=
  let st := quarter (quarter (quarter (quarter st 0 4 8 12) 1 5 9 13) 2 6 10 14) 3 7 11 15
  quarter (quarter (quarter (quarter st 0 5 10 15) 1 6 11 12) 2 7 8 13) 3 4 9 14

/-- The ChaCha20 block function. -/
def chachaBlock (key nonce : Bs) (ctr : Nat) : Bs :=
  let st := [0x61707865, 0x3320646e, 0x79622d32, 0x6b206574] ++ (blocksOf 4 key).map valLe
    ++ [ctr % 2 ^ 32] ++ (blocksOf 4 nonce).map valLe
  let out := (List.range 10).foldl (fun s _ => doubleRound s) st
  ((List.zipWith (fun a b => (a + b) % 2 ^ 32) st out).map (toLe 4)).flatten

def chacha20 (key nonce : Bs) (ctr : Nat) (bs : Bs) : Bs :=
  (((blocksOf 64 bs).zipIdx).map (fun p => xorBs p.1 (chachaBlock key nonce (ctr + p.2)))).flatten

/-- Poly1305 with its one-time key. -/
def poly1305 (key m : Bs) : Bs :=
  let r := valLe (key.take 16) &&& 0x0ffffffc0ffffffc0ffffffc0fffffff
  let s := valLe (key.drop 16)
  let p := 2 ^ 130 - 5
  let a := (blocksOf 16 m).foldl (fun a b => (a + valLe (b ++ [1])) * r % p) 0
  toLe 16 ((a + s) % 2 ^ 128)

def aeadTag (key nonce aad ct : Bs) : Bs :=
  poly1305 ((chachaBlock key nonce 0).take 32)
    (padTo 16 aad ++ padTo 16 ct ++ toLe 8 aad.length ++ toLe 8 ct.length)

def aeadSeal (key nonce aad pt : Bs) : Bs × Bs :=
  let ct := chacha20 key nonce 1 pt
  (ct, aeadTag key nonce aad ct)

def aeadOpen (key nonce aad ct tag : Bs) : Option Bs :=
  if aeadTag key nonce aad ct = tag then some (chacha20 key nonce 1 ct) else none

/-! ## scrypt -/

/-- Salsa20/8 is ChaCha's sibling: its quarter round. -/
def salsaQ (st : List Nat) (a b c d : Nat) : List Nat :=
  let m := 2 ^ 32
  let g := fun i => st.getD i 0
  let xb := g b ^^^ rotl 32 ((g a + g d) % m) 7
  let xc := g c ^^^ rotl 32 ((xb + g a) % m) 9
  let xd := g d ^^^ rotl 32 ((xc + xb) % m) 13
  let xa := g a ^^^ rotl 32 ((xd + xc) % m) 18
  (((st.set a xa).set b xb).set c xc).set d xd

def salsaDouble (st : List Nat) : List Nat :=
  let st := salsaQ (salsaQ (salsaQ (salsaQ st 0 4 8 12) 5 9 13 1) 10 14 2 6) 15 3 7 11
  salsaQ (salsaQ (salsaQ (salsaQ st 0 1 2 3) 5 6 7 4) 10 11 8 9) 15 12 13 14

def salsa8 (b : List Nat) : List Nat :=
  List.zipWith (fun x y => (x + y) % 2 ^ 32) b ((List.range 4).foldl (fun s _ => salsaDouble s) b)

/-- scryptBlockMix on 2r blocks of 16 words. -/
def blockMix (bs : List (List Nat)) : List (List Nat) :=
  let ys := (bs.foldl (fun (p : List Nat × List (List Nat)) b =>
    let x := salsa8 (xorBs p.1 b); (x, x :: p.2)) (bs.getLastD [], [])).2.reverse
  let ev := (ys.zipIdx.filter (fun p => p.2 % 2 == 0)).map (·.1)
  let od := (ys.zipIdx.filter (fun p => p.2 % 2 == 1)).map (·.1)
  ev ++ od

def romixFill : Nat → List (List Nat) → List (List (List Nat)) → List (List Nat) × List (List (List Nat))
  | 0, x, v => (x, v.reverse)
  | n + 1, x, v => romixFill n (blockMix x) (x :: v)

def romixMix (nn : Nat) (v : List (List (List Nat))) : Nat → List (List Nat) → List (List Nat)
  | 0, x => x
  | n + 1, x =>
    let j := ((x.getLastD []).getD 0 0 + 2 ^ 32 * (x.getLastD []).getD 1 0) % nn
    romixMix nn v n (blockMix (List.zipWith xorBs x (v.getD j [])))

/-- scryptROMix with N = 2^logN on a block of 128·r bytes. -/
def romix (logN : Nat) (b : Bs) : Bs :=
  let x := (blocksOf 64 b).map (fun c => (blocksOf 4 c).map valLe)
  let (x, v) := romixFill (2 ^ logN) x []
  ((romixMix (2 ^ logN) v (2 ^ logN) x).map (fun ws => (ws.map (toLe 4)).flatten)).flatten

/-! ## BLAKE2b and Argon2 -/

def blakeIv : List Nat :=
  [0x6a09e667f3bcc908, 0xbb67ae8584caa73b, 0x3c6ef372fe94f82b, 0xa54ff53a5f1d36f1,
   0x510e527fade682d1, 0x9b05688c2b3e6c1f, 0x1f83d9abfb41bd6b, 0x5be0cd19137e2179]

def blakeSigma : List (List Nat) :=
  [[0, 1, 2, 3, 4, 5, 6, 7, 8, 9, 10, 11, 12, 13, 14, 15], [14, 10, 4, 8, 9, 15, 13, 6, 1, 12, 0, 2, 11, 7, 5, 3],
   [11, 8, 12, 0, 5, 2, 15, 13, 10, 14, 3, 6, 7, 1, 9, 4], [7, 9, 3, 1, 13, 12, 11, 14, 2, 6, 5, 10, 4, 0, 15, 8],
   [9, 0, 5, 7, 2, 4, 10, 15, 14, 1, 11, 12, 6, 8, 3, 13], [2, 12, 6, 10, 0, 11, 8, 3, 4, 13, 7, 5, 15, 14, 1, 9],
   [12, 5, 1, 15, 14, 13, 4, 10, 0, 7, 6, 3, 9, 2, 8, 11], [13, 11, 7, 14, 12, 1, 3, 9, 5, 0, 15, 4, 8, 6, 2, 10],
   [6, 15, 14, 9, 11, 3, 0, 8, 12, 2, 13, 7, 1, 4, 10, 5], [10, 2, 8, 4, 7, 6, 1, 5, 15, 11, 9, 14, 3, 12, 13, 0]]

/-- The mixing of BLAKE2b; Argon2's uses the multiplication and no message words. -/
def blakeG (mul : Bool) (v : List Nat) (a b c d x y : Nat) : List Nat :=
  let m := 2 ^ 64
  let add := fun p q e => (p + q + (if mul then 2 * (p % 2 ^ 32) * (q % 2 ^ 32) else e)) % m
  let g := fun i => v.getD i 0
  let xa := add (g a) (g b) x
  let xd := rotr 64 (g d ^^^ xa) 32
  let xc := add (g c) xd 0
  let xb := rotr 64 (g b ^^^ xc) 24
  let xa := add xa xb y
  let xd := rotr 64 (xd ^^^ xa) 16
  let xc := add xc xd 0
  let xb := rotr 64 (xb ^^^ xc) 63
  (((v.set a xa).set b xb).set c xc).set d xd

/-- The eight mixings of a round on a 16-word state, message word pairs given by `s`. -/
def blakeRound (mul : Bool) (msg : List Nat) (v : List Nat) (s : List Nat) : List Nat :=
  let w := fun i => msg.getD (s.getD i 0) 0
  let idx := [(0, 4, 8, 12), (1, 5, 9, 13), (2, 6, 10, 14), (3, 7, 11, 15),
              (0, 5, 10, 15), (1, 6, 11, 12), (2, 7, 8, 13), (3, 4, 9, 14)]
  (idx.zipIdx).foldl (fun v p =>
    blakeG mul v p.1.1 p.1.2.1 p.1.2.2.1 p.1.2.2.2 (w (2 * p.2)) (w (2 * p.2 + 1))) v

def blakeCompress (h : List Nat) (blk : Bs) (t : Nat) (last : Bool) : List Nat :=
  let msg := (blocksOf 8 (blk ++ zeros (128 - blk.length))).map valLe
  let v := h ++ blakeIv
  let v := (v.set 12 (v.getD 12 0 ^^^ (t % 2 ^ 64))).set 13 (v.getD 13 0 ^^^ (t / 2 ^ 64))
  let v := if last then v.set 14 (2 ^ 64 - 1 - v.getD 14 0) else v
  let v := (blakeSigma ++ blakeSigma.take 2).foldl (blakeRound false msg) v
  List.zipWith (fun x y => x ^^^ y) h (List.zipWith (fun x y => x ^^^ y) (v.take 8) (v.drop 8))

def blakeGo (n : Nat) : Nat → List Nat → Bs → Nat → List Nat
  | 0, h, _, _ => h
  | fuel + 1, h, m, t =>
    if m.length ≤ 128 then blakeCompress h m (t + m.length) true
    else blakeGo n fuel (blakeCompress h (m.take 128) (t + 128) false) (m.drop 128) (t + 128)

/-- BLAKE2b with an `n`-byte digest and no key. -/
def blake2b (n : Nat) (m : Bs) : Bs :=
  let h := blakeIv.set 0 (blakeIv.getD 0 0 ^^^ 0x01010000 ^^^ n)
  (((blakeGo n (m.length / 128 + 1) h m 0).map (toLe 8)).flatten).take n

def blakeLong : Nat → Nat → Bs → Bs
  | 0, _, _ => []
  | fuel + 1, left, v => if left ≤ 64 then blake2b left v else
      let x := blake2b 64 v; x.take 32 ++ blakeLong fuel (left - 32) x

/-- H′ of RFC 9106: a hash of any length. -/
def hPrime (n : Nat) (m : Bs) : Bs :=
  let m := toLe 4 n ++ m
  if n ≤ 64 then blake2b n m else let v := blake2b 64 m; v.take 32 ++ blakeLong (n / 32 + 1) (n - 32) v

/-- The permutation P of Argon2 on 16 words. -/
def argonP (v : List Nat) : List Nat := blakeRound true [] v []

/-- The compression G of two 1,024-byte blocks, as 128 words: rows, then columns of 2-word registers. -/
def argonG (x y : List Nat) : List Nat :=
  let r := xorBs x y
  let q := ((blocksOf 16 r).map argonP).flatten
  let cols := (List.range 8).map (fun c =>
    argonP ((List.range 16).map (fun k => q.getD ((k / 2) * 16 + 2 * c + k % 2) 0)))
  let z := (List.range 128).map (fun i => (cols.getD (i % 16 / 2) []).getD ((i / 16) * 2 + i % 2) 0)
  xorBs r z

/-- The memory of Argon2: blocks in an association from position lane · q + column. -/
abbrev ArgonMem := List (List Nat)

structure ArgonPar where
  kind  : Nat
  lanes : Nat
  q     : Nat
  mem   : Nat
  t     : Nat
  deriving DecidableEq, Repr

/-- The J1 and J2 of block `i` of a segment: from the block before it (Argon2d), or from the address generator. -/
def argonJ (p : ArgonPar) (b : ArgonMem) (pass lane slice i : Nat) : Nat × Nat :=
  let seg := p.q / 4
  let indep := p.kind == 1 || (p.kind == 2 && pass == 0 && decide (slice < 2))
  let col := slice * seg + i
  if indep then
    let z := [pass, lane, slice, p.mem, p.t, p.kind, i / 128 + 1] ++ zeros 121
    let a := argonG (zeros 128) (argonG (zeros 128) z)
    let w := a.getD (i % 128) 0
    (w % 2 ^ 32, w / 2 ^ 32)
  else
    let prev := (col + p.q - 1) % p.q
    let w := (b.getD (lane * p.q + prev) []).getD 0 0
    (w % 2 ^ 32, w / 2 ^ 32)

/-- The reference block of block `i` of a segment (RFC 9106, section 3.4). -/
def argonRef (p : ArgonPar) (pass lane slice i j1 j2 : Nat) : Nat :=
  let seg := p.q / 4
  let l := if pass = 0 ∧ slice = 0 then lane else j2 % p.lanes
  let same := l == lane
  let area :=
    if pass = 0 then
      if same then slice * seg + i - 1 else slice * seg - (if i = 0 then 1 else 0)
    else if same then p.q - seg + i - 1 else p.q - seg - (if i = 0 then 1 else 0)
  let x := j1 * j1 / 2 ^ 32
  let y := area * x / 2 ^ 32
  let z := area - 1 - y
  let start := if pass = 0 then 0 else (slice + 1) % 4 * seg
  l * p.q + (start + z) % p.q

def argonSegment (p : ArgonPar) (pass lane slice : Nat) (b : ArgonMem) : ArgonMem :=
  let seg := p.q / 4
  (List.range seg).foldl (fun b i =>
    if pass = 0 ∧ slice = 0 ∧ i < 2 then b
    else
      let col := slice * seg + i
      let (j1, j2) := argonJ p b pass lane slice i
      let r := b.getD (argonRef p pass lane slice i j1 j2) []
      let pr := b.getD (lane * p.q + (col + p.q - 1) % p.q) []
      let g := argonG pr r
      let pos := lane * p.q + col
      b.set pos (if pass = 0 then g else xorBs g (b.getD pos []))) b

/-- Argon2 of version 0x13 (RFC 9106): kind 0 d, 1 i, 2 id; `m` in KiB, no associated data. -/
def argon2 (kind : Nat) (pwd salt secret : Bs) (m t lanes tagLen : Nat) : Bs :=
  let h0 := blake2b 64 (toLe 4 lanes ++ toLe 4 tagLen ++ toLe 4 m ++ toLe 4 t ++ toLe 4 0x13 ++ toLe 4 kind
    ++ toLe 4 pwd.length ++ pwd ++ toLe 4 salt.length ++ salt ++ toLe 4 secret.length ++ secret ++ toLe 4 0)
  let mem := 4 * lanes * (m / (4 * lanes))
  let p : ArgonPar := { kind, lanes, q := mem / lanes, mem, t }
  let first := fun lane j => (blocksOf 8 (hPrime 1024 (h0 ++ toLe 4 j ++ toLe 4 lane))).map valLe
  let b0 : ArgonMem := ((List.range lanes).map (fun l =>
    (List.range p.q).map (fun c => if c < 2 then first l c else []))).flatten
  let b := (List.range t).foldl (fun b pass => (List.range 4).foldl (fun b slice =>
    (List.range lanes).foldl (fun b lane => argonSegment p pass lane slice b) b) b) b0
  let c := (List.range lanes).foldl (fun acc l => xorBs acc (b.getD (l * p.q + p.q - 1) [])) (zeros 128)
  hPrime tagLen ((c.map (toLe 8)).flatten)

end Sys2Proof.Machine.Stream
end

