-- ==== Sys2Proof/Machine/BoltMap.lean ====
section
/-! DEFINITION. The Bolt's partitions and offset map (R170, R325-R328), and the layout a set-up gives. -/

namespace Sys2Proof.Machine

open Sys2Proof

/-! ## The Bolt's offset map (R170, R325, R328) -/

/-- Bytes per bank. -/
def bankBytes : Nat := 2 ^ 23

/-- The layout of the reset values (R325). -/
def layoutReset : Layout :=
  { vaultSpan := 4, vaultB := List.range' 0 4, sessB := List.range' 4 4, scratchB := List.range' 8 24,
    cacheB := List.range' 32 16, sessPart := false, scratchPart := false, dedic := [] }

/-- Cuts a partition into groups: maximal runs of banks with one dedication (R328). -/
def groupRuns (owner : Nat → Option Nat) : List Nat → List (Option Nat × List Nat)
  | [] => []
  | b :: bs =>
    match groupRuns owner bs with
    | (o, l) :: gs => if o = owner b then (o, b :: l) :: gs else (owner b, [b]) :: (o, l) :: gs
    | [] => [(owner b, [b])]

/-- The Hub master a bank is dedicated to. -/
def Layout.owner (l : Layout) (b : Nat) : Option Nat := (l.dedic.find? (fun d => d.1 == b)).map (·.2)

/-- The groups of a partition: one group while it is Shared. -/
def Layout.groups (l : Layout) (banks : List Nat) (part : Bool) : List (Option Nat × List Nat) :=
  if part then groupRuns l.owner banks else [(none, banks)]

/-- Where a Bolt byte lies: partition (0 vault, 1 session, 2 scratch, 3 cache), bank, bank word, byte in the word, and the
master its group is dedicated to. -/
structure BoltPlace where
  part  : Nat
  bank  : Nat
  word  : Nat
  byte  : Nat
  owner : Option Nat
  deriving DecidableEq, Repr

/-- Offset `o` within a list of groups of partition `part`. -/
def placeIn (part : Nat) : List (Option Nat × List Nat) → Nat → Option BoltPlace
  | [], _ => none
  | (ow, banks) :: gs, o =>
    let n := banks.length
    if o < n * bankBytes then
      some { part, bank := banks.getD (o / 128 % n) 0, word := o / 128 / n, byte := o % 128, owner := ow }
    else placeIn part gs (o - n * bankBytes)

/-- The place of Bolt offset `o` under a layout (R325, R170). -/
def Layout.place (l : Layout) (o : Nat) : Option BoltPlace :=
  let v := l.vaultSpan * bankBytes
  let e := l.sessB.length * bankBytes
  let c := l.scratchB.length * bankBytes
  if o < v then placeIn 0 [(none, l.vaultB)] o
  else if o < v + e then placeIn 1 (l.groups l.sessB l.sessPart) (o - v)
  else if o < v + e + c then placeIn 2 (l.groups l.scratchB l.scratchPart) (o - v - e)
  else placeIn 3 [(none, l.cacheB)] (o - v - e - c)

/-- The offset of a bank's byte within groups that start at `lo` (R170). -/
def offsetIn (bank word byte : Nat) : List (Option Nat × List Nat) → Nat → Option Nat
  | [], _ => none
  | (_, banks) :: gs, lo =>
    let n := banks.length
    match banks.findIdx? (fun b => b == bank) with
    | some i => some (lo + (word * n + i) * 128 + byte)
    | none => offsetIn bank word byte gs (lo + n * bankBytes)

/-- The Bolt offset of the byte with store key `k`; none for a bank of no partition. -/
def Layout.offsetOf (l : Layout) (k : Nat) : Option Nat :=
  let at_ := offsetIn (k / bankBytes) (k % bankBytes / 128) (k % 128)
  (at_ [(none, l.vaultB)] 0).or
    (at_ (l.groups l.sessB l.sessPart ++ l.groups l.scratchB l.scratchPart ++ [(none, l.cacheB)]) (l.vaultSpan * bankBytes))

/-- First offset and length of the scratch partition. -/
def Layout.scratchLo (l : Layout) : Nat := (l.vaultSpan + l.sessB.length) * bankBytes
def Layout.scratchLen (l : Layout) : Nat := l.scratchB.length * bankBytes

/-- A range lies wholly in the scratch partition. -/
def Layout.inScratch (l : Layout) (o n : Nat) : Bool :=
  decide (l.scratchLo ≤ o ∧ o + n ≤ l.scratchLo + l.scratchLen)

/-- First byte of the stream-buffer area, and its length of 1,216 KiB (R172). -/
def State.sbufLo (s : State) : Nat := s.rd .shtSbufBase_offset * 65536
def sbufLen : Nat := 1216 * 1024

/-- Where stream buffer `i`, its side area and stream context `id` lie in the Bolt (R172). -/
def State.bufAt (s : State) (i : Nat) : Nat := s.sbufLo + 16384 * i
def State.sideAt (s : State) (i : Nat) : Nat := s.sbufLo + 2 ^ 20 + 1024 * i
def State.ctxAt (s : State) (id : Nat) : Nat := s.sbufLo + 1088 * 1024 + 256 * id

/-- Two ranges meet. -/
def meets (a n b m : Nat) : Bool := decide (a < b + m ∧ b < a + n ∧ 0 < n ∧ 0 < m)

/-- The store key of a placed byte. -/
def BoltPlace.key (p : BoltPlace) : Nat := p.bank * bankBytes + p.word * 128 + p.byte

/-- A cleared byte (R342). -/
def zeroByte (_ : Nat) : Byte := 0

/-! ## The layout of a set-up (R325, R326) -/

/-- Is a bank retired? -/
def State.bankRetired (s : State) (b : Nat) : Bool := s.fit.retired.any (fun r => r.1 == 0x200 + b)

/-- Vault, session, scratch and cache banks for the counts `v`, `e` and `c`: partitions in ascending order over the banks not
retired (R325). -/
def State.layoutOf (s : State) (v e c : Nat) : Layout :=
  let avail := (List.range 48).filter (fun b => !s.bankRetired b)
  let vaultB := (avail.filter (fun b => decide (b < 4))).take v
  let rest := avail.filter (fun b => !vaultB.contains b)
  let lost := ((List.range 48).filter (fun b => s.bankRetired b && decide (4 ≤ b))).length
  let sessB := rest.take e
  let rest := rest.drop e
  let nScratch := rest.length - (c - lost)
  { vaultSpan := vaultB.length, vaultB, sessB, scratchB := rest.take nScratch, cacheB := rest.drop nScratch,
    sessPart := false, scratchPart := false, dedic := [] }

/-- The layout in force before the lock: that of the reset values, over the banks not retired (R325, R326). -/
def State.layoutBefore (s : State) : Layout := s.layoutOf 4 4 16

/-- The layout the BOLT_ registers ask for. -/
def State.layoutAsked (s : State) : Layout :=
  { s.layoutOf (s.rd .boltPart_vaultBanks) (s.rd .boltPart_sessionBanks) (s.rd .boltPart_cacheBanks) with
    sessPart := s.flag .boltMode_sessionPart, scratchPart := s.flag .boltMode_scratchPart,
    dedic := ((List.range 48).filter (fun b => s.flag .boltBankCfg_dedicated b)).map (fun b => (b, s.rd .boltBankCfg_master b)) }

/-- The banks dedicated to each master are consecutive, over the Partitioned partitions together (R328). -/
def Layout.dedicOk (l : Layout) : Bool :=
  let banks := (if l.sessPart then l.sessB else []) ++ (if l.scratchPart then l.scratchB else [])
  decide ((groupRuns l.owner banks).filterMap (·.1)).Nodup

/-- Does the set-up of the BOLT_ registers pass the lock check (R326)? -/
def State.boltSetupOk (s : State) : Bool :=
  let l := s.layoutAsked
  decide (s.rd .boltPart_vaultBanks ≤ 4) && !l.scratchB.isEmpty && l.inScratch s.sbufLo sbufLen && l.dedicOk

/-- The partition of a bank under a layout (R325): 4 for none. -/
def Layout.partOf (l : Layout) (b : Nat) : Nat :=
  if l.vaultB.contains b then 0 else if l.sessB.contains b then 1 else if l.scratchB.contains b then 2
  else if l.cacheB.contains b then 3 else 4

/-! ## Donors (R345) -/

/-- The bank that serves the place of bank `b`: its donor, once that stands in for it. -/
def State.realBank (s : State) (b : Nat) : Nat :=
  match s.bolt.donors.find? (fun d => d.1 == b) with | some d => d.2 | none => b

/-- The bank whose place bank `b` serves. -/
def State.placeOfBank (s : State) (b : Nat) : Nat :=
  match s.bolt.donors.find? (fun d => d.2 == b) with | some d => d.1 | none => b

/-- Has a donor taken the place of bank `b`? -/
def State.bankReplaced (s : State) (b : Nat) : Bool := s.bolt.donors.any (fun d => d.1 == b)

/-- The partition a bank serves: none for one that a donor replaces (R325, R345). -/
def State.partOfBank (s : State) (b : Nat) : Nat :=
  if s.bankReplaced b then 4 else s.bolt.lay.partOf (s.placeOfBank b)

end Sys2Proof.Machine
end

