-- ==== Sys2Proof/Machine/Flags.lean ====
section
/-! DEFINITION. What the machine shows of itself: retirement, health bits, status pins, computed from state. -/

namespace Sys2Proof.Machine

open Sys2Proof

/-- Is a unit (R431) retired? -/
def State.isRetired (s : State) (unit : Nat) : Bool := s.fit.retired.any (fun r => r.1 == unit)

/-- Is any retired unit's number in [lo, hi]? -/
def State.anyRetired (s : State) (lo hi : Nat) : Bool := s.fit.retired.any (fun r => decide (lo ≤ r.1 ∧ r.1 ≤ hi))

/-- Mesh degraded: a known member is lost, or a Selvage port or lane is retired (R82, R418). -/
def State.meshDegraded (s : State) : Bool :=
  s.mesh.peers.any (fun p => p.2.member && p.2.lost) || s.anyRetired 0x0400 0x041F

/-- Health bits of the status page (R82). -/
def State.health (s : State) : Nat :=
  b2n (!s.fit.retired.isEmpty)
    + 2 * b2n (s.rd .fitStatus_thermalStep != 0)
    + 4 * b2n (s.err.overflow && s.err.ring.isSome)
    + 8 * b2n s.err.ring.isNone
    + 16 * b2n (s.anyRetired 0x0300 0x031F)
    + 32 * b2n s.meshDegraded
    + 64 * b2n (s.anyRetired 0x0000 0x003F || s.anyRetired 0x0100 0x010F)
    + 128 * b2n (s.flag .ringCtrl_sequence)

/-- DEV_OK (R482): every condition of its list holds. -/
def State.devOk (s : State) : Bool :=
  !s.power.porActive && !s.power.sysRst
    && (match s.power.inReset with | some k => k == 3 | none => true)
    && s.fitterAlive

/-- Has the Fitter not run since a reset of kind 1, 2 or 4? -/
def State.starting (s : State) : Bool := s.power.kinds.any (fun k => k != 3)

/-- ALERT_N driven low (R484), and at every trip (R486); power-on and other resets but the hot one release it until the
Fitter runs, and CLOCK_HOLD leaves it as it stands (R481). -/
def State.alertLow (s : State) : Bool :=
  if s.power.porActive || s.power.sysRst then false
  else if s.power.trip then true
  else if s.starting then false
  else (s.health &&& 0b1110111) != 0 || s.rd .fitStatus_thermalStep != 0 || s.rd .fitStatus_powerStep != 0

/-- THERM_TRIP_N driven low (R486). -/
def State.thermTripLow (s : State) : Bool := s.power.trip

/-- LOCKUP_N driven low: the wired-OR of the lockup bits (R301); a reset releases it, a hot one until the link is up (R481). -/
def State.lockupLow (s : State) : Bool :=
  !s.power.porActive && !s.power.sysRst && s.power.inReset.isNone
    && ((List.range 64).any (fun n => s.flag .ndlStatus_lockup n) || s.fit.lockup)

/-- CLKOUT0 and CLKOUT1 run while the root is locked, outside CLOCK_HOLD, cold reset and a trip (R374, R481). -/
def State.clkOutRuns (s : State) (o : Nat) : Bool :=
  s.power.rootLock && !s.power.hold && !s.power.porActive && !s.power.sysRst && !s.power.trip
    && (if o = 0 then s.flag .clkOut_out0En else s.flag .clkOut_out1En)

/-- The setting of CLKOUTo's down-spread: depth in 0.05 %, rate in kHz above 30; larger values act as 10 and 33 (R387). -/
def State.spreadAsked (s : State) (o : Nat) : Nat × Nat :=
  if o = 0 then (min 10 (s.rd .clkOut_out0Depth), min 33 (s.rd .clkOut_out0Rate))
  else (min 10 (s.rd .clkOut_out1Depth), min 33 (s.rd .clkOut_out1Rate))

/-- The end of the modulation period in progress at time `t`; a period lasts 1 / (30 + rate) ms (R374). -/
def Spread.periodEnd (x : Spread) (t : Nat) : Nat :=
  let f := 30 + x.rate
  x.start + (((t - x.start) * f / 1000000 + 1) * 1000000 + f - 1) / f

def State.spread (s : State) (o : Nat) : Spread := if o = 0 then s.pins.spread0 else s.pins.spread1

/-- The down-spread of CLKOUTo now: a change of setting takes effect at the end of the modulation period in which it was
written (R374). -/
def State.spreadNow (s : State) (o : Nat) : Spread :=
  let x := s.spread o
  match x.changed with
  | some c =>
    if x.periodEnd c ≤ s.time then
      { depth := (s.spreadAsked o).1, rate := (s.spreadAsked o).2, start := x.periodEnd c, changed := none }
    else x
  | none => x

def State.setSpread (s : State) (o : Nat) (x : Spread) : State :=
  { s with pins := if o = 0 then { s.pins with spread0 := x } else { s.pins with spread1 := x } }

/-- CLK_OUT has been written over the settings of `old`. -/
def State.noteSpread (s old : State) : State :=
  s.each 2 (fun o s =>
    if s.spreadAsked o = old.spreadAsked o then s
    else
      let x := old.spreadNow o
      s.setSpread o { x with changed := some (x.changed.getD s.time) })

/-- Both outputs start unspread when the root locks; a setting that CLK_OUT kept comes into force after one period (R374). -/
def State.spreadLock (s : State) : State :=
  s.each 2 (fun o s =>
    s.setSpread o { depth := 0, rate := 0, start := s.time,
                    changed := if s.spreadAsked o = (0, 0) then none else some s.time })

/-- The level a GPIO output drives (none: input or high impedance): programmed while serving, the PERI_GPIO_CFG safe level
in CLOCK_HOLD and at a trip, as before from a hot reset until the link is up, an input before the lock and in any other
reset (R375, R481). -/
def State.gpioDrives (s : State) (i : Nat) : Option Bool :=
  if s.power.porActive || s.power.sysRst then none
  else
    let out := bitOf (s.rd .periGpioCfg_dir) i && s.locked
    if !s.clocked then
      if !out || bitOf (s.rd .periGpioCfg_safeHiz) i then none else some (bitOf (s.rd .periGpioCfg_safeVal) i)
    else
      match s.pins.held with
      | some h => if bitOf h.1 i then some (bitOf h.2 i) else none
      | none => if out then some (bitOf s.pins.gpioOut i) else none

/-- Do the pins of the board see the device in power-on reset (R481)? -/
def State.pinsInReset (s : State) : Bool := s.power.porActive || s.power.sysRst

/-- What a serial transmitter does (R481). -/
inductive TxLine where
  | quiet
  | training
  | link
  deriving DecidableEq, Repr

/-- PE_TX (R481): electrical idle in power-on reset, CLOCK_HOLD and at a trip; else training until the link is up. -/
def State.peTx (s : State) : TxLine :=
  if s.pinsInReset || s.power.hold || s.power.trip || s.power.inReset.isSome then .quiet
  else if s.pcie.linkUp then .link else .training

/-- SVn_TX (R427, R481): squelched outside service and on a retired port. -/
def State.svTxSquelched (s : State) (p : Nat) : Bool :=
  s.pinsInReset || s.power.hold || s.power.trip || s.power.inReset.isSome || s.starting || !s.locked
    || s.flag .svPortState_retired p

/-- The DDR5 RESET_n pins low and CK stopped (R481): power-on reset alone. -/
def State.ddrResetLow (s : State) : Bool := s.pinsInReset

/-- SPI_CS_N and SPI_CLK (R481): the Thimble drives them outside power-on reset. -/
def State.spiDriven (s : State) : Bool := !s.pinsInReset

/-- SMB0 and SMB1 (R481): released outside service. -/
def State.smbReleased (s : State) : Bool :=
  s.pinsInReset || s.power.hold || s.power.trip || s.power.inReset.isSome || s.starting

/-- The 64 bytes of the status page (R82). -/
def State.statusBytes (s : State) (beat : Nat) : List Byte :=
  leBytes 4 beat ++ leBytes 4 (match s.err.ring with | some g => g.prod | none => 0)
    ++ leBytes 8 (s.rd .globalReady_bits) ++ leBytes 4 s.health
    ++ leBytes 1 (s.rd .globalProfile_active + 4 * s.rd .globalProfile_switching)
    ++ zeroBytes 3 ++ leBytes 8 s.time
    ++ ((List.range 8).map (fun l => leBytes 4 (Store.get (fun _ => 0) s.rings.linePass l))).flatten

end Sys2Proof.Machine
end

