-- ==== Sys2Proof/Machine/Rings.lean ====
section
/-! DEFINITION. The ring engine (chapter 03): polling, doorbells, fetching, summary clears, completion records,
interrupts and the status page. -/

namespace Sys2Proof.Machine

open Sys2Proof

/-! ## Numbers of a ring -/

/-- The number of entries of SQ `n`, 2^k (R50). -/
def State.sqSize (s : State) (n : Nat) : Nat := 2 ^ s.rd .ringSqCfg_sizeLog2 n

/-- The number of entries of CQ `n`. -/
def State.cqSize (s : State) (n : Nat) : Nat := 2 ^ s.rd .ringCqCfg_sizeLog2 n

/-- RING_CTRL.fetch_max as it acts (R54): 0 and values above 64 act as 64. -/
def State.fetchMax (s : State) : Nat :=
  let v := s.rd .ringCtrl_fetchMax
  if v = 0 ∨ v > 64 then 64 else v

/-- The hold limit as it acts (R54), in ns. -/
def State.holdLimitNs (s : State) : Nat := min (s.rd .ringHoldLimit_limitMs) 1000 * 1000000

/-- Is sequence mode in force (R64)? -/
def State.seqMode (s : State) : Bool := s.flag .ringCtrl_sequence

/-- Is the LATENCY profile in force for rings and interrupts (R68, R80)? -/
def State.latency (s : State) : Bool :=
  (if s.flag .globalProfile_switching then s.rd .globalProfile_requested else s.rd .globalProfile_active) == 1

/-- Reads of at most MRRS bytes that cover the `n` bytes from `a` of descriptors (R60). -/
def State.readCut (s : State) (fn a n : Nat) : State :=
  (pieces s.maxRead n a n).foldl (fun s p => s.hostRead fn p.1 p.2) s

/-! ## Completion records (R76-R81) -/

/-- The 16 bytes of a completion record (R76). -/
def recordBytes (result cid head sq status : Nat) (phase : Bool) : List Byte :=
  leBytes 8 result ++ leBytes 2 cid ++ leBytes 2 head ++ leBytes 2 sq ++ leBytes 1 status
    ++ [if phase then 0x80 else 0]

/-- Counts a record of CQ `c` towards its interrupt (R80); LATENCY treats every CQ as count 1 and timer 0. -/
def State.cqSignal (s : State) (c : Nat) (irqNow : Bool) : State :=
  if !s.flag .ringCqCfg_irqEnable c then s
  else
    let q := s.cq c
    let fn := s.tenantOf c
    let all := irqNow || s.latency || s.rd .ringCqCoal_timerUs c == 0 || s.rd .ringCqCoal_countM1 c ≤ q.unsig
    if all then (s.setCq c { q with unsig := 0 }).signal fn (s.rd .ringCqCfg_vector c)
    else s.setCq c { q with unsig := q.unsig + 1, since := if q.unsig = 0 then s.time else q.since }

/-- Writes one record at the CQ's tail with the lap's phase bit, advances the tail, and signals (R76-R80). A CQ that is
enabled but did not start by its own rule (R51) takes records all the same, at the base and size its registers hold (DESIGN
CHOICE, log 108: R51 starts an SQ whose CQ is enabled, and no rule says where its records go then). -/
def State.putRecord (s : State) (r : Record) : State :=
  let c := s.rd .ringSqCfg_cq r.sq
  let t := s.rd .ringCqState_tail c
  let ph := s.flag .ringCqState_phase c
  let s := s.hostWrite r.fn (s.rd .ringCqBase_addr c * 4096 + 16 * t)
    (recordBytes r.result r.cid (s.rd .ringSqState_head r.sq) r.sq r.status ph)
  let t' := (t + 1) % s.cqSize c
  let s := s.wr .ringCqState_tail c t'
  let s := if t' = 0 then s.wr .ringCqState_phase c (b2n (!ph)) else s
  s.cqSignal c r.irqNow

/-- Issues a completion record, or keeps it until the function's Bus Master Enable is set (R379); while the link is down
no record is written (R48, R49). -/
def State.postRecord (s : State) (r : Record) : State :=
  if !s.pcie.linkUp then s
  else if (s.fnCfg r.fn).bme then s.putRecord r
  else { s with pcie := { s.pcie with heldRecs := s.pcie.heldRecs ++ [r] } }

/-- Is this the fetched descriptor the command speaks of? -/
def Work.is (w : Work) (sq : Nat) (cid : W16) : Bool := w.sq == sq && w.d.cid == cid

/-- What names a descriptor in flight: its SQ and cid. -/
def Work.id (w : Work) : Nat × Nat := (w.sq, w.d.cid.toNat)

/-- Has every earlier descriptor of the same SQ its record (R73)? The list holds them in fetch order. -/
def State.isFenced (s : State) (w : Work) : Bool :=
  bitOf w.d.flags.toNat 0 && (s.rings.work.takeWhile (fun x => x != w)).any (fun x => x.sq == w.sq)

/-- From now on, when `on`, a descriptor is in flight beside those that have written host bytes and still are (R102). -/
def State.besideWriters (s : State) (on : Bool) (key : Nat × Nat) : State :=
  { s with rings := { s.rings with wrote := s.rings.wrote.map (fun p =>
      if on && p.live && p.owner != key && !p.others.contains key then { p with others := p.others ++ [key] } else p) } }

/-- A fetched descriptor joins the ones not completed; it is in flight unless a fence holds it back. -/
def State.addWork (s : State) (w : Work) : State :=
  let s := { s with rings := { s.rings with work := s.rings.work ++ [w] } }
  s.besideWriters (!s.isFenced w) w.id

/-- Removes one fetched descriptor from the ones not completed. -/
def State.dropWork (s : State) (w : Work) : State :=
  { s with rings := { s.rings with
      work := s.rings.work.erase w
      wrote := (s.rings.wrote.map (fun p =>
        { p with live := p.live && p.owner != w.id, others := p.others.erase w.id })).filter
          (fun p => p.live || !p.others.isEmpty) } }

/-! ## Host bytes that two descriptors in flight write (R102) -/

/-- Does this byte of host memory belong to what another descriptor wrote while this one was in flight? -/
def State.isShared (s : State) (fn : Nat) (key : Nat × Nat) (a : Nat) : Bool :=
  s.rings.wrote.any (fun p => p.fn == fn && p.owner != key && (p.live || p.others.contains key)
    && decide (p.lo ≤ a ∧ a < p.lo + p.n))

/-- Notes what a descriptor in flight writes; a write that goes on where its last one ended extends it. -/
def State.noteWrote (s : State) (fn : Nat) (key : Nat × Nat) (a n : Nat) : State :=
  if n = 0 ∨ !s.rings.work.any (fun w => w.id == key) then s
  else
    let others := ((s.rings.work.filter (fun w => !s.isFenced w)).map Work.id).filter (fun k => k != key)
    let wrote := match s.rings.wrote.find? (fun p => p.fn == fn && p.owner == key && p.live && p.lo + p.n == a) with
      | some p => s.rings.wrote.replace p { p with n := p.n + n, others }
      | none => s.rings.wrote ++ [{ fn, lo := a, n, owner := key, live := true, others }]
    { s with rings := { s.rings with wrote } }

/-- A descriptor's write of host bytes: undefined where another descriptor in flight beside it wrote. -/
def State.sharedWrite (s : State) (fn : Nat) (key : Nat × Nat) (a : Nat) (bs : List Byte) : State :=
  let at_ := List.range bs.length
  let hit := at_.map (fun j => s.isShared fn key (a + j))
  let s := if hit.any id then
      let r := s.freshBytes bs.length
      r.2.dataWrite fn a (((hit.zip r.1).zip bs).map (fun e => if e.1.1 then e.1.2 else e.2))
    else s.dataWrite fn a bs
  s.noteWrote fn key a bs.length

/-- Is a fetched descriptor held (R74)? -/
def Work.isHeld (w : Work) : Bool := match w.at_ with | .held _ => true | _ => false

/-- The descriptors now held. -/
def State.heldCount (s : State) : Nat := (s.rings.work.filter Work.isHeld).length

/-- Completes a fetched descriptor: its one record is written (R77). -/
def State.complete (s : State) (w : Work) (status result : Nat) : State :=
  (s.dropWork w).postRecord
    { fn := s.tenantOf w.sq, sq := w.sq, cid := w.d.cid.toNat, result, status, irqNow := bitOf w.d.flags.toNat 1 }

/-- Moves a fetched descriptor to another stage. -/
def State.moveWork (s : State) (w : Work) (a : WorkAt) : State :=
  let s := { s with rings := { s.rings with work := s.rings.work.replace w { w with at_ := a } } }
  s.besideWriters (a == .running) w.id

/-! ## Stopping a ring, error records of the ring engine (R59, R75) -/

/-- SQ `n` has had a service slot, or gets no more: its bit leaves its line's pass (R65). -/
def State.passServe (s : State) (n : Nat) : State :=
  { s with rings := { s.rings with passLeft := s.rings.passLeft.map (fun e =>
      if e.1 = n / 512 then (e.1, withBit e.2 (n % 512) false) else e) } }

/-- Stops SQ `n` (R59): it fetches nothing more, and no pass waits for its slot. -/
def State.stopSq (s : State) (n : Nat) : State :=
  ((s.passServe n).setSq n { s.sq n with started := false, pend := false, reading := 0, stale := 0, fetching := 0,
                                         rereading := [] }).wr .ringSqState_stopped n 1

/-- The device read a tail of 2^k or more (R59). -/
def State.invalidDoorbell (s : State) (n tail : Nat) : State :=
  (s.stopSq n).report (0x1000 + n) 0x08 3 (tail % 2 ^ 32) repRings

/-! ## Polling classes (R67, R68) -/

/-- The keys of the register store at which field `f` is listed: its elements that differ from reset. -/
def State.listed (s : State) (f : Fld) : List Nat :=
  (s.regs.filter (fun e => e.1 / 65536 == f.ctorIdx)).map (fun e => e.1 % 65536)

/-- The started SQs. -/
def State.startedSqs (s : State) : List Nat := (s.rings.sqs.filter (fun e => e.2.started)).map (·.1)

/-- SQs in a class, pinned ones and those that a fault has stopped included, which keep their class (R67). -/
def State.classCount (s : State) (c : Nat) : Nat :=
  let stopped := (s.listed .ringSqState_stopped).filter (fun n => !s.startedSqs.contains n)
  ((s.startedSqs ++ stopped).filter (fun n => s.rd .ringSqState_class n == c)).length

/-- Moves an SQ to class `c` by policy, counted for the POLICY record (R445). -/
def State.setClass (s : State) (n c : Nat) (up : Bool) : State :=
  let s := s.wr .ringSqState_class n c
  { s with fit := if up then { s.fit with promotions := s.fit.promotions + 1 }
                  else { s.fit with demotions := s.fit.demotions + 1 } }

/-- Was there a productive poll of SQ `n` in the last 1 ms (R68)? -/
def State.recentProd (s : State) (n : Nat) : Bool := (s.sq n).lastProd.any (fun t => decide (s.time < t + 1000000))

/-- In LATENCY an unpinned SQ with a productive poll in the last 1 ms is HOT, and hot_max does not apply (R68). -/
def State.keepHot (s : State) (n : Nat) : State :=
  if s.latency && s.fitterAlive && s.rd .ringSqCfg_classPin n == 0 && s.recentProd n && s.rd .ringSqState_class n != 2 then
    (s.setClass n 2 true).setSq n { s.sq n with prodRun := 0 }
  else s

/-- The outcome of a service slot of SQ `n` (R67, R68): runs are counted, and while the Fitter is alive an unpinned SQ
moves one class; the run that moved it starts over (DESIGN CHOICE, log 108: R67 does not say). -/
def State.pollOutcome (s : State) (n : Nat) (productive : Bool) : State :=
  let q := s.sq n
  let q := if productive then { q with prodRun := q.prodRun + 1, emptyRun := 0, lastProd := some s.time }
           else { q with prodRun := 0, emptyRun := q.emptyRun + 1 }
  let s := s.setSq n q
  let cls := s.rd .ringSqState_class n
  if s.rd .ringSqCfg_classPin n != 0 || !s.fitterAlive then s
  else if s.latency && s.recentProd n then s.keepHot n
  else if productive && max 1 (s.rd .ringPoll_promotePolls) ≤ q.prodRun then
    let cap := if cls = 0 then s.rd .ringPoll_warmMax else s.rd .ringPoll_hotMax
    if cls < 2 ∧ s.classCount (cls + 1) + 1 ≤ cap then
      (s.setClass n (cls + 1) true).setSq n { q with prodRun := 0 }
    else s
  else if !productive && max 1 (s.rd .ringPoll_demotePolls) ≤ q.emptyRun && cls != 0 then
    (s.setClass n (cls - 1) false).setSq n { q with emptyRun := 0 }
  else s

/-! ## Summary clears (R61, R62) -/

/-- The summary word of the latest sweep data. -/
def State.sumWord (s : State) (w : Nat) : Nat := Store.get (fun _ => 0) s.rings.sum w

/-- May the ring engine issue a CAS: PF0 may issue, AtomicOp Requester Enable is set (R30), and in sequence mode the bitmap
is never written (R65). -/
def State.mayCas (s : State) : Bool := s.canIssue 0 && (s.fnCfg 0).ctl.atomicOp && !s.seqMode

/-- Issues the CAS that clears the summary bits of the consumed SQs of word `w` (R61), one at a time per word, the value from
the latest sweep data. Where none may be issued the bits stay set, and a later slot finds the SQs consumed again. -/
def State.casIssue (s : State) (w : Nat) : State :=
  if s.mayCas && s.rings.cas.any (fun c => c.word == w) then s
  else
    let mine := (s.rings.sqs.filter (fun e => e.2.consumed && e.1 / 64 == w)).map (·.1)
    let v := s.sumWord w
    let hit := mine.filter (fun n => bitOf v (n % 64))
    let s := mine.foldl (fun s n => s.setSq n { s.sq n with consumed := false }) s
    if hit.isEmpty || !s.mayCas then s
    else
      let swap := hit.foldl (fun x n => withBit x (n % 64) false) v
      let s := hit.foldl (fun s n => s.setSq n { s.sq n with clearing := some (s.sq n).tail }) s
      let c : CasOut := { word := w, cmp := v, swap, sqs := hit }
      let s := { s with rings := { s.rings with cas := s.rings.cas ++ [c] } }
      s.emit (.cas w v swap)

/-- SQ `n` is consumed when its head equals the tail read and nothing is on its way (R60). -/
def State.noteConsumed (s : State) (n : Nat) : State :=
  let q := s.sq n
  if q.fetching = 0 ∧ s.rd .ringSqState_head n = q.tail then (s.setSq n { q with consumed := true }).casIssue (n / 64)
  else s

/-- A read of the doorbell word of SQ `n` (R53, R56). -/
def State.readDoorbell (s : State) (n : Nat) : State :=
  s.hostRead 0 (s.rd .ringDbBase_addr * 4096 + 8 * n) 8

/-! ## Sweeps (R60, R65) -/

/-- SWEEP_ISSUE: one read of all eight summary lines, every 500 ns while the ring engine runs and PF0 may issue. -/
def actSweepIssue (s : State) : Host.Outcome State Fault Refusal :=
  if s.rings.running && s.canIssue 0 then
    let base := s.rd .ringSumBase_addr * 4096
    let s := s.each 8 (fun l s => s.hostRead 0 (base + 64 * l) 64)
    .next { s with rings := { s.rings with sweepOut := s.rings.sweepOut ++ [s.rings.heartbeat] } }
  else .next s

/-- Is a service slot of SQ `n` due at the return of sweep `sw` (the class table of chapter 03)? -/
def slotDue (cls sw n : Nat) : Bool :=
  cls == 2 || (cls == 1 && sw % 8 == n % 8) || (cls == 0 && sw % 128 == n % 128)

/-- A pass over line `l` starts at this sweep with heartbeat `beat`, or goes on (R65). -/
def State.passStart (s : State) (beat l : Nat) : State :=
  if (s.rings.passBeat.any (fun e => e.1 == l)) then s
  else
    let flagged := maskOf 512 (fun i => (s.sq (512 * l + i)).started && bitOf (s.sumWord (8 * l + i / 64)) (i % 64))
    { s with rings := { s.rings with passBeat := s.rings.passBeat ++ [(l, beat)],
                                     passLeft := s.rings.passLeft ++ [(l, flagged)] } }

/-- Passes with nothing left end: line_pass takes the heartbeat at which the pass began. -/
def State.passEnd (s : State) : State :=
  let done := (s.rings.passLeft.filter (fun e => e.2 == 0)).map (·.1)
  done.foldl (fun s l =>
    let beat := ((s.rings.passBeat.find? (fun e => e.1 == l)).map (·.2)).getD 0
    { s with rings := { s.rings with
        linePass := Store.put (fun _ => 0) s.rings.linePass l beat,
        passBeat := s.rings.passBeat.filter (fun e => e.1 != l),
        passLeft := s.rings.passLeft.filter (fun e => e.1 != l) } }) s

/-- A service slot of SQ `n` (R60): a flagged or pending SQ has its doorbell word read; any other slot is empty, and so is one
at which no read may be issued (R47), which its line's pass still waits for. -/
def State.serviceSlot (s : State) (n : Nat) : State :=
  let q := s.sq n
  let flagged := bitOf (s.sumWord (n / 64)) (n % 64) && q.clearing.isNone
  if !flagged && !q.pend then (s.passServe n).pollOutcome n false
  else if s.canIssue 0 then ((s.passServe n).setSq n { q with reading := q.reading + 1 }).readDoorbell n
  else s.pollOutcome n false

/-- SWEEP_RETURN: the summary data is taken and the due service slots are served. A return with no sweep outstanding
changes nothing. -/
def actSweepReturn (words : List W64) (s : State) : Host.Outcome State Fault Refusal :=
  match s.rings.sweepOut with
  | [] => .next s
  | beat :: more =>
    let sum := Store.putAll (fun _ => 0) [] 0 ((words.take 64).map BitVec.toNat)
    let sw := s.rings.sweepNo
    let s := { s with rings := { s.rings with sweepOut := more, sum, sweepNo := sw + 1 } }
    let s := s.each 8 (fun l s => s.passStart beat l)
    let due := s.startedSqs.filter (fun n => slotDue (s.rd .ringSqState_class n) sw n)
    .next (due.foldl State.serviceSlot s).passEnd

/-- Fetches up to fetch_max descriptors of SQ `n` (R60), from head, past those already on their way, to `tail`, which a slot
read gave; a tail beyond the fetch leaves the SQ pending, and so does a mark made after that read was issued. Nothing is
fetched while the ring's function may issue no request (R47). -/
def State.fetch (s : State) (n tail : Nat) : State :=
  let q := s.sq n
  let size := s.sqSize n
  let fn := s.tenantOf n
  let first := (s.rd .ringSqState_head n + q.fetching) % size
  let want := (tail + size - first) % size
  let m := if s.canIssue fn then min want s.fetchMax else 0
  let s := s.setSq n { q with tail, fetching := q.fetching + m, consumed := false, pend := decide (m < want) || (q.pend && q.stale != 0),
                              stale := q.stale - 1 }
  let base := s.rd .ringSqBase_addr n * 4096
  let part := min m (size - first)
  let s := s.readCut fn (base + 64 * first) (64 * part)
  let s := s.readCut fn base (64 * (m - part))
  let s := s.pollOutcome n (m != 0)
  s.noteConsumed n

/-- DOORBELL_READ_RETURN (R59, R60, R65). In sequence mode a word with the sequence last read, of an SQ not pending, is an
empty poll whatever its tail (DESIGN CHOICE, log 108: by R59 an invalid tail would stop the SQ). -/
def actDoorbellReadReturn (n : Nat) (word : W64) (s : State) : Host.Outcome State Fault Refusal :=
  let q := s.sq n
  if q.reading = 0 then .next s
  else
    let tail := word.toNat % 2 ^ 32
    let seq := word.toNat / 2 ^ 32
    let same := seq == s.rd .ringSqState_lastSeq n
    let s := s.setSq n { q with reading := q.reading - 1 }
    let s := s.wr .ringSqState_lastSeq n seq
    if s.seqMode && same && !q.pend then .next (s.pollOutcome n false)
    else if tail ≥ s.sqSize n then .next (s.invalidDoorbell n tail)
    else .next (s.fetch n tail)

/-- No clear of these SQs' summary bits is in progress any more. -/
def State.clearEnds (s : State) (sqs : List Nat) : State :=
  sqs.foldl (fun s n => s.setSq n { s.sq n with clearing := none }) s

/-- The re-read of a doorbell word for the tail its SQ was consumed to (R62); while PF0 may issue no request it waits (R47). -/
def State.reread (s : State) (e : Nat × Nat) : State :=
  if s.canIssue 0 then
    let q := s.sq e.1
    (s.setSq e.1 { q with rereading := q.rereading ++ [e.2] }).readDoorbell e.1
  else { s with rings := { s.rings with owed := s.rings.owed ++ [e] } }

/-- The doorbell words of the SQs whose bits a CAS cleared are read again, for the tails they were consumed to (R62). -/
def State.rereads (s : State) (sqs : List Nat) : State :=
  sqs.foldl (fun s n =>
    let q := s.sq n
    (s.setSq n { q with clearing := none }).reread (n, q.clearing.getD q.tail)) s

/-- The re-reads that waited for PF0's Bus Master Enable are issued (R47, R62, R63). -/
def State.owedReads (s : State) : State :=
  let l := s.rings.owed.filter (fun e => (s.sq e.1).started)
  l.foldl State.reread { s with rings := { s.rings with owed := [] } }

/-- AtomicOp Requester Enable is clear while the ring engine runs: it uses sequence mode, until it next starts (R30, R64). -/
def State.noteAtomic (s : State) : State :=
  if s.rings.running && !(s.fnCfg 0).ctl.atomicOp then s.wr .ringCtrl_sequence 0 1 else s

/-- CAS_RETURN (R61, R62, R64): success re-reads the doorbells; a mismatch is tried again with the value returned, unless no
CAS may be issued now; a refusal puts the ring engine in sequence mode. -/
def actCasReturn (word : Nat) (res : CasResult) (s : State) : Host.Outcome State Fault Refusal :=
  match s.rings.cas.find? (fun c => c.word == word) with
  | none => .next s
  | some c =>
    let s := { s with rings := { s.rings with cas := s.rings.cas.erase c } }
    let refused := fun (code : Nat) => ((s.clearEnds c.sqs).wr .ringCtrl_sequence 0 1).report 0x0600 0x09 1 code repRings
    match res with
    | .unsupportedRequest => .next (refused 1)
    | .completerAbort => .next (refused 4)
    | .value w =>
      if w.toNat = c.cmp then .next ((s.rereads c.sqs).casIssue word)
      else if s.mayCas then
        let swap := c.sqs.foldl (fun x n => withBit x (n % 64) false) w.toNat
        let s := s.count .ringStat_casRetries
        let s := { s with rings := { s.rings with cas := s.rings.cas ++ [{ c with cmp := w.toNat, swap }] } }
        .next (s.emit (.cas word w.toNat swap))
      else .next (s.clearEnds c.sqs)

/-- CLEAR_REREAD_RETURN (R59, R62): a tail other than the one the SQ was consumed to marks the SQ pending. -/
def actClearRereadReturn (n : Nat) (word : W64) (s : State) : Host.Outcome State Fault Refusal :=
  let q := s.sq n
  match q.rereading with
  | [] => .next s
  | tail0 :: more =>
    let tail := word.toNat % 2 ^ 32
    let q := { q with rereading := more }
    let s := s.setSq n (if tail = tail0 then q else { q with pend := true, stale := q.reading })
    let s := s.wr .ringSqState_lastSeq n (word.toNat / 2 ^ 32)
    if tail ≥ s.sqSize n then .next (s.invalidDoorbell n tail) else .next s

/-- Nothing times out while Completion Timeout Disable is set (R28, R31). -/
def State.noTimeout (s : State) (why : ReadFail) : Bool := why == .timeout && (s.fnCfg 0).ctl.ctoDisable

/-- FETCH_FAIL (R75): the SQ stops and one DMA_FAULT record is written; AER reports it (R31). -/
def actFetchFail (n addr : Nat) (why : ReadFail) (s : State) : Host.Outcome State Fault Refusal :=
  if !(s.sq n).started || s.noTimeout why then .next s
  else .next (((s.stopSq n).emit (.aerRead why)).report (0x1000 + n) 0x07 3 addr repRings)

/-- SUMMARY_READ_FAIL (R75): one error record; the next sweep reads again. The failed sweep does not count in the sweep number
that sets the WARM and COLD slots (DESIGN CHOICE, log 108: a slot is due at the return of a sweep, and this one returned none). -/
def actSummaryReadFail (addr : Nat) (why : ReadFail) (s : State) : Host.Outcome State Fault Refusal :=
  match s.rings.sweepOut with
  | [] => .next s
  | _ :: more =>
    if s.noTimeout why then .next s
    else
    let s := { s with rings := { s.rings with sweepOut := more } }
    .next ((s.emit (.aerRead why)).report 0x0600 0x07 3 addr repRings)

/-- A message that waits for its vector is sent once the vector is not masked (R81). -/
def State.sendUnmasked (s : State) (fn v : Nat) : State :=
  if s.pba fn v && !s.vecMasked fn v then (s.setPba fn v false).signal fn v else s

/-- Does the set-up check of R44 run? -/
def State.checking (s : State) : Bool := s.flag .globalSetupLock_checkBusy

/-- A write to an RWL field during the check is dropped and noted (R45). -/
def State.duringCheck (s : State) : State := s.wr .globalSetupErr_writeDuringCheck 0 1

/-- MSIX_UNMASK (R34, R38, R45, R81): the mask bit clears where it is writable, and a waiting message is sent. -/
def actMsixUnmask (fn v : Nat) (s : State) : Host.Outcome State Fault Refusal :=
  let s := if v ≥ vectorsOf fn then s
    else if fn = 0 then if s.checking then s.duringCheck else if s.locked then s else s.wr .msix_mask v 0
    else s.wr .vfMsix_mask (vfVec fn v) 0
  .next (s.sendUnmasked fn v)

/-- CQ_COAL_TIMER (R80): the vector is sent for the unsignalled records; 4,096 names the error ring (R84). -/
def actCqCoalTimer (c : Nat) (s : State) : Host.Outcome State Fault Refusal :=
  if c ≥ 4096 then
    match s.err.ring with
    | some g =>
      if g.unsig > 0 then .next ((s.setErr { s.err with ring := some { g with unsig := 0 } }).signal 0 g.vector)
      else .next s
    | none => .next s
  else
    let q := s.cq c
    if s.flag .ringCqCfg_irqEnable c && q.unsig > 0 then
      .next ((s.setCq c { q with unsig := 0 }).signal (s.tenantOf c) (s.rd .ringCqCfg_vector c))
    else .next s

/-- STATUS_PAGE_WRITE (R82, R83): while the Fitter is alive and the rings bit is set, the page is written with the next
heartbeat. -/
def actStatusPageWrite (s : State) : Host.Outcome State Fault Refusal :=
  if s.fitterAlive && s.rings.running && s.canIssue 0 then
    let beat := (s.rings.heartbeat + 1) % 2 ^ 32
    let s := { s with rings := { s.rings with heartbeat := beat } }
    let s := s.hostWrite 0 (s.rd .ringStatusBase_addr * 4096) (s.statusBytes beat)
    .next (s.setErr { s.err with overflow := false })
  else .next s

/-- ERR_CONSUMER_READ_RETURN (R86). -/
def actErrConsumerReadReturn (count : W32) (s : State) : Host.Outcome State Fault Refusal :=
  match s.err.ring with
  | some g =>
    if s.err.readOut then
      let s := s.setErr { s.err with readOut := false, ring := some { g with seen := count.toNat } }
      .next (State.errDrain 66 s).errPoll
    else .next s
  | none => .next s

/-! ## Starting the ring engine (R51, R52, R64, R385) -/

/-- The vectors of a function whose messages wait. -/
def State.waitingVectors (s : State) (fn : Nat) : List Nat :=
  if fn = 0 then (s.listed .pba_word).flatMap (fun w => (List.range 64).map (fun b => 64 * w + b))
  else if s.rd .vfPba_word fn = 0 then [] else List.range 64

/-- Groups assigned to a function, in ascending order (R50). -/
def State.groupsOf (s : State) (fn : Nat) : List Nat :=
  (s.listed .ringGroup_valid).filter (fun g => s.rd .ringGroup_function g == fn)

/-- Does this function see ring `n` (R52: a VF's first 31 groups)? -/
def State.visible (s : State) (fn n : Nat) : Bool :=
  let gs := s.groupsOf fn
  (if fn = 0 then gs else gs.take 31).contains (n / 16)

/-- May CQ `n` start (R51)? -/
def State.cqStarts (s : State) (n : Nat) : Bool :=
  let k := s.rd .ringCqCfg_sizeLog2 n
  s.flag .ringCqCfg_enable n && decide (4 ≤ k ∧ k ≤ 16) && s.rd .ringCqBase_addr n != 0

/-- May SQ `n` start (R51)? DESIGN CHOICE (log 108): a CQ whose group is not assigned, or lies beyond its VF's 31st and so stays
disabled (R52), is not enabled whatever its enable bit. -/
def State.sqStarts (s : State) (n : Nat) : Bool :=
  let k := s.rd .ringSqCfg_sizeLog2 n
  let c := s.rd .ringSqCfg_cq n
  s.flag .ringSqCfg_enable n && decide (4 ≤ k ∧ k ≤ 16) && s.rd .ringSqBase_addr n != 0
    && s.flag .ringCqCfg_enable c && s.visible (s.tenantOf n) c

/-- Starts the rings of a function: enabled rings that break R51 read stopped, rings not enabled or not the function's keep
stopped = 0 (DESIGN CHOICE, log 108: R51 words it for a ring that breaks its rules); every SQ starts COLD but SQ0, and a pinned
SQ in its pinned class (R68, R385). -/
def State.startRings (s : State) (fn : Nat) : State :=
  let cqs := (s.listed .ringCqCfg_enable).filter (fun n => s.visible fn n)
  let sqs := (s.listed .ringSqCfg_enable).filter (fun n => s.visible fn n)
  let s := cqs.foldl (fun s n =>
    if s.cqStarts n then
      ((s.setCq n { started := true, unsig := 0, since := 0 }).wr .ringCqState_stopped n 0).wr .ringCqState_phase n 1
    else s.wr .ringCqState_stopped n 1) s
  sqs.foldl (fun s n =>
    if s.sqStarts n then
      let pin := s.rd .ringSqCfg_classPin n
      let cls := if pin = 1 then 2 else if pin = 2 then 1 else if pin = 3 then 0 else if n = 0 then 2 else 0
      let s := s.setSq n { sqDefault n with started := true }
      ((s.wr .ringSqState_class n cls).wr .ringSqState_stopped n 0).wr .ringSqState_lastSeq n 0
    else s.wr .ringSqState_stopped n 1) s

/-- The SQs of a function that stopped leave that state by its reset, with nothing outstanding (R59). -/
def State.unstop (s : State) (mine : Nat → Bool) : State :=
  ((s.listed .ringSqState_stopped).filter (fun n => mine n && s.sqStarts n)).foldl (fun s n =>
    (s.setSq n { sqDefault n with started := s.rings.running }).wr .ringSqState_stopped n 0) s

/-- The ring engine with nothing in it. -/
def ringEngEmpty : RingEng :=
  { running := false, sweepNo := 0, sweepOut := [], sum := [], sqs := [], cqs := [], cas := [], work := [], wrote := [],
    heartbeat := 0, linePass := [], passBeat := [], passLeft := [], owed := [] }

/-- The ring engine starts on the locked set-up (R43 step 15): the mode is chosen afresh (R64), PF0's rings start, and
those of each VF whose own lock is set. -/
def State.startEngine (s : State) : State :=
  let s := { s with rings := { ringEngEmpty with running := true, heartbeat := s.rings.heartbeat } }
  let seq := s.flag .ringCtrl_forceSequence || !(s.fnCfg 0).ctl.atomicOp
  let s := s.wr .ringCtrl_sequence 0 (b2n seq)
  let s := s.startRings 0
  let s := (s.listed .ringVfLock_lock).foldl State.startRings s
  s.setReady readyRings true

end Sys2Proof.Machine
end

