-- ==== Sys2Proof/Machine/FitOps.lean ====
section
/-! DEFINITION. Fault events and buckets (R431-R436), latching, fetched descriptors waited for. -/

namespace Sys2Proof.Machine

open Sys2Proof

/-- The FIT_BUCKET kind of a unit (R433). -/
def bucketKind (u : Nat) : Nat :=
  if u < 0x40 then 0 else if u < 0x110 then 1 else if u < 0x230 then 2
  else if u < 0x308 then 4 else if u < 0x320 then 3 else if u < 0x420 then 5 else 6

/-- Is a unit retirable (R431)? -/
def retirable (u : Nat) : Bool :=
  decide (u ≤ 0x3F) || decide (0x100 ≤ u ∧ u ≤ 0x10F) || decide (0x200 ≤ u ∧ u ≤ 0x22F)
    || decide (0x300 ≤ u ∧ u ≤ 0x307) || decide (0x310 ≤ u ∧ u ≤ 0x31F) || decide (0x400 ≤ u ∧ u ≤ 0x403)
    || decide (0x410 ≤ u ∧ u ≤ 0x41F)

/-- The 16 slices of a unit's bucket, newest first. -/
def bucketDefault (_ : Nat) : List Nat := []
def State.bucket (s : State) (u : Nat) : List Nat := Store.get bucketDefault s.fit.buckets u
def State.setBucket (s : State) (u : Nat) (l : List Nat) : State :=
  { s with fit := { s.fit with buckets := Store.put bucketDefault s.fit.buckets u l } }

/-- The level: the sum of the slices (R432). -/
def State.bucketLevel (s : State) (u : Nat) : Nat := (s.bucket u).foldl (· + ·) 0

/-- T as it acts: 0 acts as 1. -/
def State.bucketT (s : State) (u : Nat) : Nat := max 1 (s.rd .fitBucket_threshold (bucketKind u))

/-- Is a unit no longer classified: it is retired, or a rank of a retired channel (R407, R431)? -/
def State.unitGone (s : State) (u : Nat) : Bool :=
  s.isRetired u || (decide (0x310 ≤ u ∧ u < 0x320) && s.isRetired (0x300 + (u - 0x310) / 2))

/-- Latches a unit as permanent, with the reason its log record carries (R435, R437); settle classifies it while the
Fitter is alive. -/
def State.latch (s : State) (u reason : Nat) : State :=
  if s.unitGone u || s.fit.latched.any (fun l => l.1 == u) then s
  else { s with fit := { s.fit with latched := s.fit.latched ++ [(u, reason)] } }

/-- Adds an event to a unit's bucket (R432): reaching T makes the unit permanent. The PCIe bucket retires nothing: it
writes one DEGRADED record and empties (R433). -/
def State.bucketEvent (s : State) (u weight : Nat) : State :=
  let l := match s.bucket u with | [] => [weight] | x :: r => (x + weight) :: r
  let s := s.setBucket u l
  if s.bucketLevel u ≥ s.bucketT u then
    if u = 0x500 then (s.report 0x500 0x05 2 (s.bucketLevel u % 2 ^ 32) repFitter).setBucket u []
    else s.latch u 0
  else s

/-- Is a coalescing window open that a unit's reports of a class go to? Those of a DDR5 channel name the rank (R442). -/
def State.windowOpen (s : State) (u cls : Nat) : Bool :=
  s.err.windows.any (fun w => w.cls == cls && (w.origin == u
    || (decide (0x300 ≤ u ∧ u < 0x308) && (w.origin == 0x310 + 2 * (u - 0x300) || w.origin == 0x311 + 2 * (u - 0x300)))))

/-- Is this the first event of a location within its coalescing window (R434)? -/
def State.newPlace (s : State) (u cls loc : Nat) : Bool :=
  !(s.fit.located.contains (u, cls, loc) && s.windowOpen u cls)

/-- Notes a location of a unit for its window. -/
def State.notePlace (s : State) (u cls loc : Nat) : State :=
  if s.fit.located.contains (u, cls, loc) then s
  else { s with fit := { s.fit with located := s.fit.located ++ [(u, cls, loc)] } }

/-- An event at a location, with the class of its report: added once per window (R434). -/
def State.placedEvent (s : State) (u cls loc weight : Nat) : State :=
  if s.newPlace u cls loc then (s.notePlace u cls loc).bucketEvent u weight else s

/-- The window of a pair closes: its locations count anew, and those of a rank for its channel too (R434). -/
def State.forgetPlaces (s : State) (origin cls : Nat) : State :=
  let gone := (s.fit.located.filter (fun p => p.1 == origin && p.2.1 == cls)).map (fun p => p.2.2)
  let c := 0x300 + (origin - 0x310) / 2
  let isRank := decide (0x310 ≤ origin ∧ origin < 0x320)
  { s with fit := { s.fit with located := s.fit.located.filter (fun p =>
      !(p.2.1 == cls && (p.1 == origin || (isRank && p.1 == c && gone.contains p.2.2)))) } }

/-- Takes no new placements: a bank whose level reached T/2, until it falls below T/4 (R436). -/
def State.avoided (s : State) (bank : Nat) : Bool := s.flag .fitCtrl_avoidEn && s.fit.avoided.contains bank

/-- A bank's avoidance follows its level (R436), while the Fitter is alive: of session and scratch banks, while avoid_en is
set. -/
def State.noteAvoid (s : State) (bank : Nat) : State :=
  let u := 0x200 + bank
  let l := s.bucketLevel u
  let t := s.bucketT u
  if !s.fitterAlive then s
  else if s.fit.avoided.contains bank then
    if 4 * l < t then { s with fit := { s.fit with avoided := s.fit.avoided.filter (fun b => b != bank) } } else s
  else if 2 * l ≥ t ∧ s.flag .fitCtrl_avoidEn ∧ (s.partOfBank bank = 1 ∨ s.partOfBank bank = 2) then
    { s with fit := { s.fit with avoided := s.fit.avoided ++ [bank], avoidances := s.fit.avoidances + 1 } }
  else s

/-- The fetched descriptor with this SQ and cid that has been dispatched. -/
def State.runningWork (s : State) (sq cid : Nat) : Option Work :=
  s.rings.work.find? (fun w => w.sq == sq && w.d.cid.toNat == cid && w.at_ == .running)

/-- Completes a dispatched descriptor by its SQ and cid. -/
def State.finish (s : State) (sq cid status result : Nat) : State :=
  match s.runningWork sq cid with
  | some w => s.complete w status result
  | none => s

end Sys2Proof.Machine
end

