-- ==== Sys2Proof/Machine/Memory.lean ====
section
/-! DEFINITION. The Bolt, the cache region and DDR5 as memory (chapters 12 and 16): who may reach what, the DDR5 map, reads
and writes of bytes. -/

namespace Sys2Proof.Machine

open Sys2Proof

/-- Who presents a Bolt access: a Hub master with the privilege of its Needle, a Shuttle stream lane, a fill or evict port,
or the clear engine. -/
inductive BoltClient where
  | hub (m priv : Nat)
  | shuttle
  | fill
  | clear
  deriving DecidableEq, Repr

/-- May a client reach a place (R327, R328)? -/
def State.boltAllowed (s : State) (c : BoltClient) (o : Nat) (p : BoltPlace) : Bool :=
  let open_ := p.owner == none
  let sbuf := meets o 1 s.sbufLo sbufLen
  match c with
  | .clear => true
  | .fill => p.part == 3
  | .shuttle => p.part == 2
  | .hub m priv =>
    let needle := decide (m ≤ 7) && decide (priv ≥ 1)
    if p.part = 0 then m == 15 || m == 13 || needle
    else if p.part = 1 then (m == 15 || m == 13 || m == 11 || needle) && (open_ || p.owner == some m)
    else if p.part = 2 then !sbuf && (open_ || p.owner == some m)
    else false

/-- The 128-byte line numbers an access touches. -/
def linesOf (a n : Nat) : List Nat := if n = 0 then [] else List.range' (a / 128) ((a + n - 1) / 128 - a / 128 + 1)

/-- The part of a range in each 128-byte line: first byte and length. -/
def lineParts (a n : Nat) : List (Nat × Nat) :=
  (linesOf a n).map (fun l => (max a (l * 128), min (a + n) (l * 128 + 128) - max a (l * 128)))

/-- The answer to an access of `n` bytes at Bolt offset `o`, but for ECC: refused where any byte's place is fenced or not
for this client, or the vault is under a wipe (R327, R328, R332, R344, R345). A bank word's bytes share one answer. -/
def State.boltAsk (s : State) (c : BoltClient) (o n : Nat) : Bool :=
  (lineParts o n).all (fun q =>
    match s.bolt.lay.place q.1 with
    | some p => !s.bolt.fenced.contains p.bank && !(s.bolt.wiping && p.part == 0) && s.boltAllowed c q.1 p
    | none => false)

/-- The store key of Bolt offset `o`. -/
def State.boltKey (s : State) (o : Nat) : Nat :=
  match s.bolt.lay.place o with
  | some p => p.key
  | none => 48 * bankBytes + o

/-- Bytes at a Bolt offset, whatever ECC says. -/
def State.boltBytes (s : State) (o n : Nat) : List Byte :=
  ((lineParts o n).map (fun q => Store.sliceRun zeroByte s.bolt.data (s.boltKey q.1) q.2)).flatten

def State.setBolt (s : State) (b : Bolt) : State := { s with bolt := b }

/-- Stores bytes at consecutive Bolt offsets. -/
def State.boltStore (s : State) (o : Nat) (bs : List Byte) : State :=
  s.setBolt { s.bolt with data :=
    (lineParts o bs.length).foldl (fun m q => Store.putRun zeroByte m (s.boltKey q.1) (sub bs (q.1 - o) q.2)) s.bolt.data }

/-! ## ECC of the Bolt (R338) -/

/-- The ECC words that `n` bytes at key `k` touch, by number. -/
def eccWords (k n : Nat) : List Nat := if n = 0 then [] else List.range' (k / 16) ((k + n - 1) / 16 - k / 16 + 1)

/-- Those it touches but does not cover whole. -/
def partWords (k n : Nat) : List Nat := (eccWords k n).filter (fun w => !decide (k ≤ w * 16 ∧ w * 16 + 16 ≤ k + n))

/-- The uncorrectable ones among the words that `words` names for each bank word of a range. -/
def State.badWords (s : State) (words : Nat → Nat → List Nat) (o n : Nat) : List Nat :=
  ((lineParts o n).map (fun q => words (s.boltKey q.1) q.2)).flatten.filter (fun w => s.bolt.bad.contains w)

/-- An uncorrectable word at key `k`: counted in ue, an event of weight 16 for its bank, one error record (R338, R433). A
word of a bank in no partition has no Bolt offset; its record carries the key. -/
def State.boltUe (s : State) (k reporter : Nat) : State :=
  let b := s.realBank (k / bankBytes)
  let s := (s.countSat .boltBankState_ue b).countSat .boltEccStat_uncorrectable
  let s := (s.placedEvent (0x200 + b) 0x02 (k % bankBytes / 16) 16).noteAvoid b
  s.report (0x200 + b) 0x02 3 ((s.bolt.lay.offsetOf k).getD k % 2 ^ 48 + 2 ^ 56) reporter

/-- A corrected word: counted in ce, one event for its bank, one error record (R338, R433). -/
def State.boltCe (s : State) (k reporter : Nat) : State :=
  let b := s.realBank (k / bankBytes)
  let s := (s.countSat .boltBankState_ce b).count .boltEccStat_corrected
  let s := (s.placedEvent (0x200 + b) 0x01 (k % bankBytes / 16) 1).noteAvoid b
  s.report (0x200 + b) 0x01 1 ((s.bolt.lay.offsetOf k).getD k % 2 ^ 48 + 2 ^ 56) reporter

/-- ECC word `w` has become uncorrectable, and stays so until a write covers it. -/
def State.markBad (s : State) (w : Nat) : State :=
  if s.bolt.bad.contains w then s else s.setBolt { s.bolt with bad := s.bolt.bad ++ [w] }

/-- Words an access covers whole are good again. -/
def State.mendWords (s : State) (ws : List Nat) : State :=
  s.setBolt { s.bolt with bad := s.bolt.bad.filter (fun w => !ws.contains w) }

/-- An access meets uncorrectable words: each is counted and reported (R338). -/
def State.meetBad (s : State) (ws : List Nat) (reporter : Nat) : State :=
  ws.foldl (fun s w => s.boltUe (w * 16) reporter) s

/-- A Bolt read (R332). -/
def State.boltRead (s : State) (c : BoltClient) (reporter o n : Nat) : Resp × List Byte × State :=
  if !s.boltAsk c o n then (.refused, [], s.countSat .boltStat_refused)
  else
    let bad := s.badWords eccWords o n
    if bad.isEmpty then (.ok, s.boltBytes o n, s) else (.ecc, [], s.meetBad bad reporter)

/-- A Bolt write: a refused one changes nothing; one that covers an uncorrectable word replaces it, one that covers part
of it changes nothing (R332, R338). -/
def State.boltWrite (s : State) (c : BoltClient) (reporter o : Nat) (bs : List Byte) : Resp × State :=
  let n := bs.length
  if !s.boltAsk c o n then (.refused, s.countSat .boltStat_refused)
  else
    let bad := s.badWords partWords o n
    if bad.isEmpty then (.ok, (s.mendWords (s.badWords eccWords o n)).boltStore o bs) else (.ecc, s.meetBad bad reporter)

/-- Clears every byte of a bank (R342): its words read zero and clean. -/
def State.clearBank (s : State) (b : Nat) : State :=
  let lo := b * bankBytes
  s.setBolt { s.bolt with
    data := s.bolt.data.filter (fun e => decide (e.1 < lo ∨ lo + bankBytes ≤ e.1))
    bad := s.bolt.bad.filter (fun w => decide (w * 16 < lo ∨ lo + bankBytes ≤ w * 16)) }

/-! ## Banks that make an access wait (R341, R345) -/

/-- A bank does not serve now: asleep, waking, or being copied to its donor. -/
def State.bankHolds (s : State) (b : Nat) : Bool :=
  s.rd .boltBankState_power b != 0 || s.bolt.copying.any (fun c => c.1 == s.placeOfBank b)

/-- Must an access wait for a bank? A fenced one refuses at once. -/
def State.bankWaits (s : State) (b : Nat) : Bool := !s.bolt.fenced.contains (s.placeOfBank b) && s.bankHolds b

/-- An access wakes a bank from retention or off; a scratch bank kept through a warm reset wakes at the lock alone (R346). -/
def State.wakeBank (s : State) (b : Nat) : State :=
  if s.bolt.kept.any (fun l => l.scratchB.contains b) then s
  else if s.rd .boltBankState_power b = 1 ∨ s.rd .boltBankState_power b = 2 then s.wr .boltBankState_power b 3 else s

/-- The banks that serve a range of Bolt offsets. -/
def State.boltBanks (s : State) (o n : Nat) : List Nat :=
  ((lineParts o n).filterMap (fun q => (s.bolt.lay.place q.1).map (fun p => s.realBank p.bank))).eraseDups

/-! ## DDR5: where an offset lies (R169, R390, R392) -/

/-- Granules per row and rows per bank of a population (R390); none for a population not listed. -/
def ddrGeom (x4 : Bool) (die ranks : Nat) : Option (Nat × Nat × Nat) :=
  let n := match die with | 0 => some 65536 | 1 => some 98304 | 2 => some 131072 | _ => none
  match n with
  | none => none
  | some n =>
    let c := if x4 then 32 else 16
    -- one rank holds 2 subchannels * 8 bank groups * 4 banks * N rows * C granules of 256 B
    let gib := 64 * n * c * 256 / 2 ^ 30
    if ranks = 1 then some (c, n, gib)
    else if ranks = 2 ∧ !(x4 && die != 0) then some (c, n, 2 * gib)
    else none

/-- A granule's device location (R169, R392). -/
structure DdrPlace where
  ch   : Nat
  sub  : Nat
  bg   : Nat
  bank : Nat
  row  : Nat
  rank : Nat
  col  : Nat
  deriving DecidableEq, Repr

/-- The geometry of the population in force, which all channels carry (R391): granules per row, rows per bank. -/
def State.ddrC (s : State) : Nat := match s.ddr.pop with | some (true, _, _) => 32 | _ => 16
def State.ddrN (s : State) : Nat :=
  match s.ddr.pop with | some (_, 0, _) => 65536 | some (_, 1, _) => 98304 | some _ => 131072 | none => 65536

/-- Does a location's rank exist in the population in force? A seven-channel map without the spare reaches past it (R407). -/
def State.rankThere (s : State) (p : DdrPlace) : Bool :=
  match s.ddr.pop with | some (_, _, n) => decide (p.rank < n) | none => true

/-- The usable DDR5 size in bytes (R393). -/
def State.ddrUsable (s : State) : Nat := s.rd .ddrStatus_usableGib * 2 ^ 30

/-- Does the seven-channel map serve granule `g` (R406)? -/
def State.ddrSeven (s : State) (g : Nat) : Bool :=
  s.flag .ddrStatus_map7 || (s.flag .ddrMigrate_running && decide (s.rd .ddrMigrate_next ≤ g))

/-- The rest of a location from the quotient after the channel. -/
def State.ddrRest (s : State) (ch r1 : Nat) : DdrPlace :=
  let r4 := r1 / 64
  { ch, sub := r1 % 2, bg := r1 / 2 % 8, bank := r1 / 16 % 4, row := r4 / s.ddrC % s.ddrN,
    rank := r4 / (s.ddrC * s.ddrN), col := r4 % s.ddrC }

/-- Does the spare hold what a retired channel held, or is it on its way there (R405, R406)? -/
def State.ddrMoved (s : State) : Bool := s.flag .ddrMigrate_running || s.flag .ddrStatus_map7

/-- The location of granule `g` under the eight-channel map, and under the seven-channel map (R169). -/
def State.ddrPlace8 (s : State) (g : Nat) : DdrPlace := s.ddrRest (g % 8) (g / 8)
def State.ddrPlace7 (s : State) (g : Nat) : DdrPlace :=
  let out := s.rd .ddrStatus_spareUsedBy
  s.ddrRest (if g % 7 < out then g % 7 else g % 7 + 1) (g / 7)

/-- The location of DDR5 offset `a` now. -/
def State.ddrPlace (s : State) (a : Nat) : DdrPlace :=
  if s.ddrSeven (a / 256) then s.ddrPlace7 (a / 256) else s.ddrPlace8 (a / 256)

/-- Is a location on a fenced channel or rank, or on none (R404, R405)? -/
def State.ddrFenced (s : State) (p : DdrPlace) : Bool :=
  bitOf (s.rd .ddrStatus_fencedCh) p.ch || bitOf (s.rd .ddrStatus_fencedRank) (2 * p.ch + p.rank) || !s.rankThere p

/-- The granule numbers an access touches. -/
def granules (a n : Nat) : List Nat := if n = 0 then [] else List.range' (a / 256) ((a + n - 1) / 256 - a / 256 + 1)

/-- Is any granule of a range refused? -/
def State.ddrRefused (s : State) (a n : Nat) : Bool :=
  (granules a n).any (fun g => s.ddrFenced (s.ddrPlace (g * 256)))

/-- The unit of the first granule of a range that a fenced channel or rank holds; none where nothing is fenced. -/
def State.fencedUnit (s : State) (a n : Nat) : Option Nat :=
  if s.rd .ddrStatus_fencedCh = 0 ∧ s.rd .ddrStatus_fencedRank = 0 ∧ s.ddr.spentBy = none then none
  else ((granules a n).find? (fun g => s.ddrFenced (s.ddrPlace (g * 256)))).map (fun g => 0x300 + (s.ddrPlace (g * 256)).ch)

/-- The protected regions of R394, start and length, with the program store at `prog`. -/
def State.regionsAt (s : State) (prog : Nat) : List (Nat × Nat) :=
  [(s.rd .vtBase_addr * 2 ^ 31, 2 ^ (20 + min 4 (s.rd .vtCtrl_sizeM20)) * 128 + 4096),
   (s.rd .vtExt_addr * 2 ^ 22, min 64 (s.rd .vtExt_size64mib) * 2 ^ 26),
   (prog * 2 ^ 22, s.rd .thmProg_size4mib * 2 ^ 22)]

/-- The base of the program store in force: as sampled, or as set up until the store starts (R382). -/
def State.progBase (s : State) : Nat := s.thm.progBase.getD (s.rd .thmProg_base)

def State.ddrRegions (s : State) : List (Nat × Nat) := s.regionsAt s.progBase

/-- Does a DDR5 range touch a protected region (R394)? -/
def State.ddrProtected (s : State) (a n : Nat) : Bool := s.ddrRegions.any (fun r => meets a n r.1 r.2)

/-! ## DDR5 contents -/


/-- Would an access of these DDR5 bytes cross a seam that discards its entries? -/
def State.ddrCut (s : State) (a n : Nat) : Bool :=
  (granules a n).any (fun g => s.seamShut (69 + (s.ddrPlace (g * 256)).ch))

/-- Bytes as the channels hold them. -/
def State.ddrBytes (s : State) (a n : Nat) : List Byte := Store.sliceRun zeroByte s.ddr.data a n

/-- Stores bytes in the channels; poison leaves a line only when the write covers the whole line (R401). -/
def State.ddrStore (s : State) (a : Nat) (bs : List Byte) : State :=
  let n := bs.length
  s.setDdr { s.ddr with
    data := Store.putRun zeroByte s.ddr.data a bs
    poison := s.ddr.poison.filter (fun l => !decide (a ≤ l * 128 ∧ l * 128 + 128 ≤ a + n)) }

/-- Marks a line poisoned. -/
def State.poisonLine (s : State) (l : Nat) : State :=
  if s.ddr.poison.contains l then s else s.setDdr { s.ddr with poison := l :: s.ddr.poison }

/-- Is any line of a range poisoned? -/
def State.ddrPoisoned (s : State) (a n : Nat) : Bool := (linesOf a n).any (fun l => s.ddr.poison.contains l)

/-! ## ECC of a channel (R401, R402) -/

/-- A row's number within a rank, for the three quarters of R402. -/
def DdrPlace.rowKey (p : DdrPlace) : Nat := ((p.sub * 8 + p.bg) * 4 + p.bank) * 2 ^ 18 + p.row

def DdrPlace.rankUnit (p : DdrPlace) : Nat := 0x310 + 2 * p.ch + p.rank

/-- An event at a granule, in the rank's bucket and noted by row, in the channel's, or in both (R401, R433, R434). -/
def State.ddrEvent (s : State) (a weight : Nat) (rank chan : Bool) : State :=
  let p := s.ddrPlace a
  let u := p.rankUnit
  let cls := if weight = 16 then 0x02 else 0x01
  let s := if rank then
      let fresh := s.newPlace u cls (a / 256)
      let s := s.placedEvent u cls (a / 256) weight
      if fresh then { s with fit := { s.fit with rowEv := s.fit.rowEv ++ [(u, 0, p.rowKey, weight)] } } else s
    else s
  if chan then s.placedEvent (0x300 + p.ch) cls (a / 256) weight else s

/-- An access met an uncorrectable granule or a poisoned line: one report, from who met it (R186, R401, R442). -/
def State.ddrMet (s : State) (a reporter : Nat) : State :=
  s.report (s.ddrPlace a).rankUnit 0x02 3 (a % 2 ^ 48) reporter

/-- A corrected read: counted, one event in both buckets, one record. -/
def State.ddrCe (s : State) (a reporter : Nat) : State :=
  let p := s.ddrPlace a
  let s := (s.count .ddrcEccStat_ce p.ch).ddrEvent a 1 true true
  s.report p.rankUnit 0x01 1 (a % 2 ^ 48) reporter

/-- An uncorrectable read: counted, 16 in both buckets, one record; its line is poisoned. -/
def State.ddrUeMet (s : State) (a reporter : Nat) : State :=
  ((s.countSat .ddrcEccStat_ue (s.ddrPlace a).ch).ddrEvent a 16 true true).ddrMet a reporter
def State.ddrUe (s : State) (a reporter : Nat) : State := (s.poisonLine (a / 128)).ddrUeMet a reporter

def State.ddrEcc (s : State) (e : EccEvent) (a reporter : Nat) : State :=
  match e with | .none => s | .single => s.ddrCe a reporter | .double => s.ddrUe a reporter

/-! ## The cache region (R335-R337) -/

/-- The number of sets: 4,096 per cache bank. -/
def State.cacheSets (s : State) : Nat := 4096 * s.bolt.lay.cacheB.length

/-- An empty way. -/
def noLine (_ : Nat) : Option CacheLine := none

/-- The set and bank of a line. -/
def State.setOf (s : State) (l : Nat) : Nat := l % s.cacheSets
def State.cacheBankOf (s : State) (l : Nat) : Nat :=
  s.bolt.lay.cacheB.getD (s.setOf l % s.bolt.lay.cacheB.length) 0

/-- What way `w` of set `t` holds. -/
def State.way (s : State) (t w : Nat) : Option CacheLine := Store.get noLine s.bolt.lines (t * 16 + w)
def State.setWay (s : State) (t w : Nat) (x : Option CacheLine) : State :=
  s.setBolt { s.bolt with lines := Store.put noLine s.bolt.lines (t * 16 + w) x }

/-- The way that holds line `l`. -/
def State.cacheHit (s : State) (l : Nat) : Option Nat :=
  if s.cacheSets = 0 then none
  else (List.range 16).find? (fun w => match s.way (s.setOf l) w with | some x => x.line == l | none => false)

/-- The tree of a set: bit `i` of its number is node `i` (1 the root, children 2i and 2i + 1); 1 points right. A use of
way `w` makes every node on its path point away from it. -/
def plruTouch (tree w : Nat) : Nat :=
  let n2 := 2 + w / 8
  let n3 := 2 * n2 + w / 4 % 2
  let n4 := 2 * n3 + w / 2 % 2
  withBit (withBit (withBit (withBit tree 1 (w / 8 % 2 == 0)) n2 (w / 4 % 2 == 0)) n3 (w / 2 % 2 == 0)) n4 (w % 2 == 0)

/-- The way the tree points to. -/
def plruVictim (tree : Nat) : Nat :=
  let b1 := b2n (bitOf tree 1)
  let b2 := b2n (bitOf tree (2 + b1))
  let b3 := b2n (bitOf tree (2 * (2 + b1) + b2))
  let b4 := b2n (bitOf tree (2 * (2 * (2 + b1) + b2) + b3))
  8 * b1 + 4 * b2 + 2 * b3 + b4

def State.touchWay (s : State) (t w : Nat) : State :=
  s.setBolt { s.bolt with plru := Store.modify (fun _ => 0) s.bolt.plru t (fun v => plruTouch v w) }

/-- The way a new line of set `t` takes: an empty one first, else the tree's victim. -/
def State.victim (s : State) (t : Nat) : Nat :=
  match (List.range 16).find? (fun w => (s.way t w).isNone) with
  | some w => w
  | none => plruVictim (Store.get (fun _ => 0) s.bolt.plru t)

/-- Writes a dirty line back to its channel; to fenced granules nothing goes (R401, R404), and what a seam discards leaves its
bytes undefined (R354). -/
def State.writeBackLine (s : State) (x : CacheLine) : State :=
  if x.dirty && !s.ddrRefused (x.line * 128) 128 then
    if s.ddrCut (x.line * 128) 128 then
      let r := s.freshBytes 128
      r.2.ddrStore (x.line * 128) r.1
    else s.ddrStore (x.line * 128) x.data
  else s

/-- Empties a way, writing a dirty line back. -/
def State.evict (s : State) (t w : Nat) : State :=
  match s.way t w with
  | some x => (s.writeBackLine x).setWay t w none
  | none => s

/-- Puts a line in the cache, over a victim. -/
def State.cachePut (s : State) (x : CacheLine) : State :=
  let t := s.setOf x.line
  let w := (s.cacheHit x.line).getD (s.victim t)
  let s := match s.way t w with
    | some y => if y.line = x.line then s else s.evict t w
    | none => s
  (s.setWay t w (some x)).touchWay t w

/-- The place of a line in its bank: way `w` of the bank's set `i` is bank word 16 i + w. DESIGN CHOICE (log 111). -/
def State.wayKey (s : State) (t w : Nat) : Nat :=
  let n := s.bolt.lay.cacheB.length
  s.bolt.lay.cacheB.getD (t % n) 0 * bankBytes + (t / n * 16 + w) * 128

/-- The set and way that a word of a cache bank holds. -/
def State.wayAt (s : State) (bank word : Nat) : Option (Nat × Nat) :=
  (s.bolt.lay.cacheB.findIdx? (fun b => b == bank)).map (fun i => (word / 16 * s.bolt.lay.cacheB.length + i, word % 16))

/-- An uncorrectable error at a line of the cache (R337): a clean line is filled again and counts as corrected, a dirty one is
written back poisoned and dropped. Answers whether the access goes on. A word that holds no line is R338's. -/
def State.cacheUe (s : State) (t w reporter : Nat) : Bool × State :=
  let k := s.wayKey t w
  match s.way t w with
  | none => (false, s.boltUe k reporter)
  | some x =>
    let gone := s.ddrRefused (x.line * 128) 128
    if x.dirty then
      let s := if gone then s else (s.writeBackLine x).poisonLine x.line
      (false, (s.setWay t w none).boltUe k reporter)
    else
      let s := s.boltCe k reporter
      if gone || s.ddr.poison.contains x.line then (false, s.setWay t w none)
      else (true, s.setWay t w (some { x with data := s.ddrBytes (x.line * 128) 128 }))

/-- Makes line `l` present, filling it on a miss (R336); a fill whose channel is in reset is aborted (R17). -/
def State.cacheFill (s : State) (reporter l : Nat) : Resp × State :=
  match s.cacheHit l with
  | some w => (.ok, s.touchWay (s.setOf l) w)
  | none =>
    if s.ddrRefused (l * 128) 128 then (.refused, s)
    else if s.ddrCut (l * 128) 128 then (.abort, s)
    else if s.ddr.poison.contains l then (.ecc, s.ddrMet (l * 128) reporter)
    else (.ok, s.cachePut { line := l, dirty := false, data := s.ddrBytes (l * 128) 128 })

/-- The bytes of line `l` as the cache or the channels hold them. -/
def State.lineBytes (s : State) (l : Nat) : List Byte :=
  match s.cacheHit l with
  | some w => match s.way (s.setOf l) w with | some x => x.data | none => s.ddrBytes (l * 128) 128
  | none => s.ddrBytes (l * 128) 128

/-- DDR5 bytes as every client sees them. -/
def State.ddrView (s : State) (a n : Nat) : List Byte :=
  (((linesOf a n).map s.lineBytes).flatten.drop (a % 128)).take n

/-- A direct read (R167): a cached line is served from the Bolt; a channel in reset aborts it (R17). -/
def State.ddrRead (s : State) (reporter a n : Nat) : Resp × List Byte × State :=
  if s.ddrUsable < a + n then (.decerr, [], s)
  else if s.ddrRefused a n then (.refused, [], s)
  else if (linesOf a n).any (fun l => (s.cacheHit l).isNone && s.ddrCut (l * 128) 128) then (.abort, [], s)
  else
    match (linesOf a n).find? (fun l => (s.cacheHit l).isNone && s.ddr.poison.contains l) with
    | some l => (.ecc, [], s.ddrMet (l * 128) reporter)
    | none => (.ok, s.ddrView a n, s)

/-- Takes cached copies of a range out of the cache, dirty ones written back first (R167). -/
def State.cacheDrop (s : State) (a n : Nat) : State :=
  (linesOf a n).foldl (fun s l =>
    match s.cacheHit l with | some w => s.evict (s.setOf l) w | none => s) s

/-- A direct write (R167): cached copies are invalidated; one that a seam discards leaves its bytes undefined (R354). -/
def State.ddrWrite (s : State) (a : Nat) (bs : List Byte) : Resp × State :=
  if s.ddrUsable < a + bs.length then (.decerr, s)
  else if s.ddrRefused a bs.length then (.refused, s)
  else if s.ddrCut a bs.length then
    let r := (s.cacheDrop a bs.length).freshBytes bs.length
    (.abort, r.2.ddrStore a r.1)
  else (.ok, (s.cacheDrop a bs.length).ddrStore a bs)

/-- A read through the cache region (R336); direct while no cache bank is in force. -/
def State.cacheRead (s : State) (reporter a n : Nat) : Resp × List Byte × State :=
  if s.cacheSets = 0 then s.ddrRead reporter a n
  else if s.ddrUsable < a + n then (.decerr, [], s)
  else
    let r := (linesOf a n).foldl (fun (r : Resp × State) l =>
      if r.1 = .ok then r.2.cacheFill reporter l else r) (Resp.ok, s)
    if r.1 = .ok then (.ok, r.2.ddrView a n, r.2) else (r.1, [], r.2)

/-- One line's part of a cached write. -/
def State.cacheWriteLine (s : State) (reporter l off : Nat) (bs : List Byte) : Resp × State :=
  if bs.length = 128 ∧ (s.cacheHit l).isNone then
    if s.ddrRefused (l * 128) 128 then (.refused, s)
    else (.ok, s.cachePut { line := l, dirty := true, data := bs })
  else
    match s.cacheFill reporter l with
    | (.ok, s) =>
      let old := s.lineBytes l
      (.ok, s.cachePut { line := l, dirty := true, data := old.take off ++ bs ++ old.drop (off + bs.length) })
    | (r, s) => (r, s)

/-- A write through the cache region (R336). -/
def State.cacheWrite (s : State) (reporter a : Nat) (bs : List Byte) : Resp × State :=
  if s.cacheSets = 0 then s.ddrWrite a bs
  else if s.ddrUsable < a + bs.length then (.decerr, s)
  else
    (linesOf a bs.length).foldl (fun (r : Resp × State) l =>
      if r.1 = .ok then
        let lo := max a (l * 128)
        let hi := min (a + bs.length) (l * 128 + 128)
        r.2.cacheWriteLine reporter l (lo - l * 128) (sub bs (lo - a) (hi - lo))
      else r) (Resp.ok, s)

/-- Lines that `keep` does not keep read zero, in the channels and in the cache. -/
def State.zeroLines (s : State) (keep : Nat → Bool) : State :=
  let s := s.setDdr { s.ddr with data := s.ddr.data.filter (fun c => keep (c.1 / 128)), poison := s.ddr.poison.filter keep }
  s.setBolt { s.bolt with lines := s.bolt.lines.filter (fun w => w.2.all (fun x => keep x.line)) }

/-- Bytes of a range of Bolt offsets read zero, and their words are good. -/
def State.zeroBolt (s : State) (o n : Nat) : State :=
  let keep := fun (k : Nat) => (s.bolt.lay.offsetOf k).all (fun a => !decide (o ≤ a ∧ a < o + n))
  s.setBolt { s.bolt with data := s.bolt.data.filter (fun c => keep c.1), bad := s.bolt.bad.filter (fun w => keep (w * 16)) }

/-- Writes back every dirty line and leaves the cache empty (R341, R345, R346). -/
def State.cacheEmpty (s : State) : State :=
  let s := s.bolt.lines.foldl (fun s e => match e.2 with | some x => s.writeBackLine x | none => s) s
  s.setBolt { s.bolt with lines := [], plru := [] }

/-- Discards the cached lines that lie on refused granules (R404). -/
def State.cacheFence (s : State) : State :=
  s.setBolt { s.bolt with lines := s.bolt.lines.filter (fun e =>
    match e.2 with | some x => !s.ddrRefused (x.line * 128) 128 | none => false) }

/-! ## Internal addresses (R350) -/

/-- Internal addresses of the Bolt and of DDR5. -/
def boltBase : Nat := 0x100000000
def ddrBase : Nat := 0x200000000
def boltSize : Nat := 384 * 2 ^ 20
def ddrWindow : Nat := 512 * 2 ^ 30

/-- What ECC finds when an access reads at an internal address (R337, R338, R401): answers whether the access still gets its
data. A cached line of DDR5 is a word of its cache bank. -/
def State.eccAt (s : State) (e : EccEvent) (a reporter : Nat) : Bool × State :=
  let o := a - ddrBase
  let hit := if ddrBase ≤ a then s.cacheHit (o / 128) else none
  match e with
  | .none => (true, s)
  | .single =>
    if boltBase ≤ a ∧ a < boltBase + boltSize then (true, s.boltCe (s.boltKey (a - boltBase)) reporter)
    else if ddrBase ≤ a ∧ a < ddrBase + ddrWindow then
      match hit with
      | some w => (true, s.boltCe (s.wayKey (s.setOf (o / 128)) w) reporter)
      | none => (true, s.ddrCe o reporter)
    else (true, s)
  | .double =>
    if boltBase ≤ a ∧ a < boltBase + boltSize then
      let k := s.boltKey (a - boltBase)
      (false, (s.markBad (k / 16)).boltUe k reporter)
    else if ddrBase ≤ a ∧ a < ddrBase + ddrWindow then
      match hit with
      | some w => s.cacheUe (s.setOf (o / 128)) w reporter
      | none => (false, s.ddrUe o reporter)
    else (false, s)

/-- The banks an access at an internal address needs: for DDR5 that of a line it goes through or finds in the cache. -/
def State.addrBanks (s : State) (cached : Bool) (a n : Nat) : List Nat :=
  if a < ddrBase then s.boltBanks (a - boltBase) n
  else if s.cacheSets = 0 then []
  else (((linesOf (a - ddrBase) n).filter (fun l => cached || (s.cacheHit l).isSome)).map s.cacheBankOf).eraseDups

end Sys2Proof.Machine
end

