-- ==== Sys2Proof/Machine/Vault.lean ====
section
/-! DEFINITION. The Vault Table (chapter 05): entries, handles, blobs, allocation, keys by type, sessions' bookkeeping. -/

namespace Sys2Proof.Machine

open Sys2Proof

/-! ## Results (R99, R100) -/

/-- Completion status codes (R99). -/
def stOk : Nat := 0x00
def stNotReady : Nat := 0x01
def stBadDescriptor : Nat := 0x02
def stHandleStale : Nat := 0x03
def stTagDenied : Nat := 0x04
def stAccessDenied : Nat := 0x05
def stRetryExhausted : Nat := 0x06
def stResourceRetired : Nat := 0x07
def stTenantFault : Nat := 0x08
def stTimeout : Nat := 0x09
def stMeshUnavailable : Nat := 0x0A
def stAbortedByReset : Nat := 0x0B
def stVerifyFalse : Nat := 0x0C
def stDmaFault : Nat := 0x0D
def stQuota : Nat := 0x0E
def stUnsupported : Nat := 0x0F

/-- The result field of R100: offset of the field concerned, detail, content from bit 16. -/
def resultOf (offset detail content : Nat) : Nat := offset + 256 * detail + 65536 * content

/-- A failed check: status, result, the entry whose tag failed, which is reported (R133), and whether a read of host
memory failed, which AER reports (R31). -/
structure Fail where
  status : Nat
  result : Nat
  integrity : Option Nat
  aer : Bool
  deriving DecidableEq, Repr

def fail (status offset detail content : Nat := 0) : Fail :=
  { status, result := resultOf offset detail content, integrity := none, aer := false }

/-- What a check answers. -/
abbrev Chk (α : Type) := Except Fail α

/-- Goes on only where `ok` holds. -/
def need (ok : Bool) (f : Fail) : Chk Unit := if ok then .ok () else .error f

/-- BAD_DESCRIPTOR at an offset, unless `ok`. -/
def needField (ok : Bool) (offset : Nat) : Chk Unit := need ok (fail stBadDescriptor offset)

/-- A read of host memory that owns its descriptor (R31, R100). -/
def dmaRead (h : HostView) (a n : Nat) : Chk (List Byte) :=
  match viewRead h a n with
  | some bs => .ok bs
  | none => .error { fail stDmaFault 0xFF 1 with aer := true }

/-! ## Types and usages (R96, R97, R138) -/

/-- Is this type the public-only form of another? -/
def isPublicOnly (kt : Nat) : Bool := decide (kt ≥ 0x8000)

/-- The exact or least material length of a type and the greatest (none: no code of R96). -/
def matLen (kt : Nat) : Option (Nat × Nat) :=
  let table : List (Nat × Nat × Nat) :=
    [(1, 16, 16), (2, 32, 32), (3, 32, 32), (4, 64, 64), (5, 32, 32), (6, 32, 32), (7, 16, 128), (8, 16, 66),
     (0x10, 97, 97), (0x11, 145, 145), (0x12, 199, 199), (0x13, 64, 64)]
    ++ [(0x14, 900, 900), (0x15, 1348, 1348), (0x16, 1796, 1796), (0x17, 2692, 2692), (0x18, 3588, 3588),
     (0x20, 1632, 1632), (0x21, 2400, 2400), (0x22, 3168, 3168), (0x23, 2560, 2560), (0x24, 4032, 4032),
     (0x25, 4896, 4896)]
    ++ [(0x8010, 65, 65), (0x8011, 97, 97), (0x8012, 133, 133), (0x8013, 32, 32), (0x8014, 260, 260),
     (0x8015, 388, 388), (0x8016, 516, 516), (0x8017, 772, 772), (0x8018, 1028, 1028)]
    ++ [(0x8020, 800, 800), (0x8021, 1184, 1184), (0x8022, 1568, 1568), (0x8023, 1312, 1312), (0x8024, 1952, 1952),
     (0x8025, 2592, 2592)]
  (table.find? (fun e => e.1 == kt)).map (·.2)

/-- Does a material length fit a type? -/
def lenFits (kt n : Nat) : Bool :=
  match matLen kt with
  | some (lo, hi) => decide (lo ≤ n ∧ n ≤ hi)
  | none => false

/-- The CREATE length of a symmetric type (R139). -/
def createLen (kt : Nat) : Nat :=
  if kt = 1 then 16 else if kt = 4 ∨ kt = 7 then 64 else 32

def isEc (kt : Nat) : Bool := decide (0x10 ≤ kt % 0x8000 ∧ kt % 0x8000 ≤ 0x12)
def isEd (kt : Nat) : Bool := kt % 0x8000 == 0x13
def isRsa (kt : Nat) : Bool := decide (0x14 ≤ kt % 0x8000 ∧ kt % 0x8000 ≤ 0x18)
def isKem (kt : Nat) : Bool := decide (0x20 ≤ kt % 0x8000 ∧ kt % 0x8000 ≤ 0x22)
def isDsa (kt : Nat) : Bool := decide (0x23 ≤ kt % 0x8000 ∧ kt % 0x8000 ≤ 0x25)

/-- Usage bits (R97). -/
def uEncrypt : Nat := 0
def uDecrypt : Nat := 1
def uSign : Nat := 2
def uVerify : Nat := 3
def uWrap : Nat := 4
def uUnwrap : Nat := 5
def uDerive : Nat := 6
def uAgree : Nat := 7
def uMac : Nat := 8
def uKdf : Nat := 9
def uExport : Nat := 10
def uSession : Nat := 11
def uProgram : Nat := 12
def uSigner : Nat := 13

/-- The usage bits a type allows (R138); usage program is allowed on every type. -/
def allowedUsage (kt : Nat) : Nat :=
  let m := fun (l : List Nat) => l.foldl (fun a b => a + 2 ^ b) (2 ^ uProgram)
  if isPublicOnly kt then
    m ([uVerify, uSigner] ++ (if isRsa kt then [uEncrypt] else []) ++ (if isEc kt || isKem kt then [uAgree] else []))
  else if kt = 1 ∨ kt = 2 ∨ kt = 5 then m [uEncrypt, uDecrypt, uSession, uExport]
  else if kt = 3 ∨ kt = 4 then m [uEncrypt, uDecrypt, uExport]
  else if kt = 6 then m [uWrap, uUnwrap, uExport]
  else if kt = 7 then m [uMac, uKdf, uExport]
  else if kt = 8 then m [uDerive, uKdf, uExport]
  else if isEc kt then m [uSign, uVerify, uAgree, uExport]
  else if isEd kt || isDsa kt then m [uSign, uVerify, uExport]
  else if isRsa kt then m [uSign, uVerify, uEncrypt, uDecrypt, uExport]
  else if isKem kt then m [uAgree, uExport]
  else 0

/-- Is a mask nonzero and within what its type allows (R138)? -/
def usageFits (kt mask : Nat) : Bool := mask != 0 && (mask &&& allowedUsage kt) == mask

/-- The curve of an EC type. -/
def curveOf (kt : Nat) : Pk.Curve :=
  if kt % 0x8000 = 0x10 then Pk.p256 else if kt % 0x8000 = 0x11 then Pk.p384 else Pk.p521

/-- The modulus length of an RSA type, in bytes. -/
def rsaLen (kt : Nat) : Nat :=
  match kt % 0x8000 with
  | 0x14 => 256 | 0x15 => 384 | 0x16 => 512 | 0x17 => 768 | _ => 1024

def kemOf (kt : Nat) : Lattice.KemPar :=
  if kt % 0x8000 = 0x20 then Lattice.kem512 else if kt % 0x8000 = 0x21 then Lattice.kem768 else Lattice.kem1024

def dsaOf (kt : Nat) : Lattice.DsaPar :=
  if kt % 0x8000 = 0x23 then Lattice.dsa44 else if kt % 0x8000 = 0x24 then Lattice.dsa65 else Lattice.dsa87

/-- The public key (R90) of a key's material. -/
def publicOf (kt : Nat) (m : Bs) : Bs :=
  if isPublicOnly kt then m
  else if isEc kt then m.drop (curveOf kt).len
  else if isEd kt then m.drop 32
  else if isRsa kt then m.take (rsaLen kt + 4)
  else if isKem kt then Lattice.kemPublic (kemOf kt) m
  else Lattice.dsaPublic (dsaOf kt) m

/-- Does a public key pass validation (R139)? -/
def publicValid (kt : Nat) (m : Bs) : Bool :=
  if isEc kt then (Pk.decodePt (curveOf kt) m).isSome
  else if isEd kt then (Pk.edDecode m).isSome
  else if isRsa kt then
    let k := Pk.rsaPubOf (rsaLen kt) m
    k.n % 2 == 1 && decide (2 ^ (8 * k.len - 1) ≤ k.n) && k.e % 2 == 1 && decide (k.e ≥ 3)
  else if isKem kt then Lattice.kemKeyOk (kemOf kt) m
  else true

/-! ## Table geometry (R129, R135, R142-R144) -/

/-- A free entry never allocated since the clear. -/
def entryDefault (_ : Nat) : Entry :=
  { live := false, epoch := false, pend := false, generation := 0, shard := 0, tenant := 0, keyType := 0, usage := 0,
    nonceSalt := 0, writeCount := 0, created := 0, expiry := 0, material := [], extFirst := 0, extCount := 0 }

def State.entry (s : State) (i : Nat) : Entry := Store.get entryDefault s.vault.entries i

/-- The 128-byte DDR5 lines an entry and its extension blocks stand in (R129, R130). -/
def State.entryLines (s : State) (i : Nat) (e : Entry) : List Nat :=
  (s.vault.base / 128 + i) :: (List.range e.extCount).map (fun j => s.vault.ext / 128 + e.extFirst + j)

def State.setVault (s : State) (v : Vault) : State := { s with vault := v }
def State.putEntry (s : State) (i : Nat) (e : Entry) : State :=
  s.setVault { s.vault with entries := Store.put entryDefault s.vault.entries i e }

/-- The number of entries, 2^t. -/
def State.tableSize (s : State) : Nat := 2 ^ s.vault.t

/-- Table time in seconds (R142). -/
def State.tableTime (s : State) : Nat := s.rd .vtTimeBase_unixS + (s.time - s.vault.lockAt) / 1000000000

/-- Is an entry past its expiry (R142)? -/
def State.expired (s : State) (e : Entry) : Bool := e.expiry != 0 && decide (e.expiry ≤ s.tableTime)

/-- Does VT_SHARD[sh] contain index `i`? -/
def State.inShard (s : State) (sh i : Nat) : Bool :=
  let b := s.rd .vtShard_base sh * 4096
  decide (b ≤ i ∧ i < b + min (s.rd .vtShard_size sh) 4096 * 4096)

/-- The shard of an index: the lowest-numbered whose range contains it (R135). -/
def State.shardOf (s : State) (i : Nat) : Option Nat := (List.range 256).find? (fun sh => s.inShard sh i)

/-- Material of more than 64 B, and all of the types 0x0010 to 0x0025, goes to the extension store (R130). -/
def extBlocksFor (kt n : Nat) : Nat :=
  if n > 64 ∨ (0x10 ≤ kt % 0x8000 ∧ kt % 0x8000 ≤ 0x25) then ceilDiv n 112 else 0

/-- Runs of extension blocks in use, by first block: those of the live entries, and those that writes not yet committed would
put back. -/
def State.extUsed (s : State) : List (Nat × Nat) :=
  let held := s.vault.entries.map (·.2) ++ (s.mesh.shards.map (fun x => x.2.pend.map (·.old))).flatten
  (held.filter (fun e => e.live && e.extCount > 0)).map (fun e => (e.extFirst, e.extCount))

/-- First contiguous run of `n` free blocks: 0, or the end of some run in use (R130). -/
def State.extAlloc (s : State) (n : Nat) : Option Nat :=
  let used := s.extUsed
  let fits := fun a => decide (a + n ≤ s.vault.extBlocks) && used.all (fun u => decide (u.1 + u.2 ≤ a ∨ a + n ≤ u.1))
  if n = 0 then some 0
  else ((0 :: used.map (fun u => u.1 + u.2)).filter fits).foldl
    (fun best a => match best with | none => some a | some b => some (min a b)) none

/-- May shard `sh` allocate index `i`? -/
def State.allocatable (s : State) (sh i : Nat) : Bool :=
  decide (i < s.tableSize) && s.shardOf i == some sh && !(s.entry i).live

/-- First allocatable index of `n` from `i` on. -/
def State.scanFree (s : State) (sh : Nat) : Nat → Nat → Option Nat
  | 0, _ => none
  | n + 1, i => if s.allocatable sh i then some i else s.scanFree sh n (i + 1)

/-- Next-fit allocation in a shard's range (R135). -/
def State.allocIndex (s : State) (sh : Nat) : Option Nat :=
  let lo := s.rd .vtShard_base sh * 4096
  let n := min (s.rd .vtShard_size sh) 4096 * 4096
  let p := Store.get (fun _ => lo) s.vault.ptrs sh
  let p := if lo ≤ p ∧ p < lo + n then p else lo
  match s.scanFree sh (lo + n - p) p with
  | some i => some i
  | none => s.scanFree sh (p - lo) lo

/-- The pointer moves past an allocated index. -/
def State.moveAllocPtr (s : State) (sh i : Nat) : State :=
  let lo := s.rd .vtShard_base sh * 4096
  s.setVault { s.vault with ptrs := Store.put (fun _ => lo) s.vault.ptrs sh (i + 1) }

/-- Live entries of a tenant (quota of R98 step 5). -/
def State.liveOf (s : State) (tenant : Nat) : Nat :=
  (s.vault.entries.filter (fun e => e.2.live && e.2.tenant == tenant)).length

/-- Quotas of a function that no TENANT_LIMITS has set: none in effect (the spec gives no value). -/
def quotaDefault (_ : Nat) : Quota := { entries := 2 ^ 24, sessions := 65536, programs := 256 }

def State.quota (s : State) (fn : Nat) : Quota := Store.get quotaDefault s.fit.quotas fn

/-- The epoch new writes carry: bit 0 of the current key ID (R150). -/
def State.epochNow (s : State) : Bool := s.vault.keyId % 2 == 1

/-! ## Stored form of an entry (R131, R132) -/

/-- Bytes 0-39 of a stored entry. -/
def entryHeader (i : Nat) (e : Entry) : Bs :=
  toLe 3 i ++ [b2n e.live + 2 * b2n e.epoch + 4 * b2n (e.extCount != 0) + 8 * b2n e.pend] ++ toLe 2 e.generation
    ++ [e.shard % 256, e.tenant % 256] ++ toLe 2 e.keyType ++ toLe 2 e.usage ++ toLe 2 e.material.length ++ [0, 0]
    ++ toLe 4 e.nonceSalt ++ toLe 4 e.writeCount ++ toLe 8 e.created ++ toLe 8 e.expiry

/-- The plaintext body, bytes 40-103. -/
def entryBody (e : Entry) : Bs :=
  if e.extCount = 0 then let m := natsOf e.material; m ++ zeros (64 - m.length)
  else toLe 4 e.extFirst ++ toLe 2 e.extCount ++ zeros 58

/-- The 128 stored bytes under a table key. -/
def entryStored (key : Bs) (i : Nat) (e : Entry) : Bs :=
  let hd := entryHeader i e
  let iv := toLe 3 i ++ [0] ++ toLe 4 e.writeCount ++ zeros 4
  let (ct, tag) := Aes.gcmSeal key iv hd (entryBody e)
  hd ++ ct ++ zeros 8 ++ tag

/-- The stored extension blocks of an entry. -/
def extStored (key : Bs) (i : Nat) (e : Entry) : Bs :=
  let hd := entryHeader i e
  let m := natsOf e.material
  ((List.range e.extCount).map (fun j =>
    let blk := (m.drop (112 * j)).take 112
    let iv := toLe 3 i ++ [1] ++ toLe 4 e.writeCount ++ toLe 4 j
    let (ct, tag) := Aes.gcmSeal key iv hd (blk ++ zeros (112 - blk.length))
    ct ++ tag)).flatten

/-- The table key of an epoch bit, while the vault region holds it. -/
def State.tableKey (s : State) (epoch : Bool) : Option Bs :=
  if !s.vault.keyHeld then none
  else if epoch = s.epochNow then some (natsOf s.vault.key)
  else s.vault.prev.map (fun p => natsOf p.2)

/-- The body of a stored entry, none when its tag fails (R132). -/
def entryOpen (key line : Bs) : Option Bs :=
  Aes.gcmOpen key (line.take 3 ++ [0] ++ (line.drop 20).take 4 ++ zeros 4) (line.take 40) ((line.drop 40).take 64)
    ((line.drop 112).take 16)

/-- Block `j` of the extension of the entry with header `hd`, none when its tag fails (R132). -/
def blockOpen (key hd : Bs) (j : Nat) (b : Bs) : Option Bs :=
  Aes.gcmOpen key (hd.take 3 ++ [1] ++ (hd.drop 20).take 4 ++ toLe 4 j) hd (b.take 112) (b.drop 112)

/-- The extension run an opened entry names: first block and count. -/
def bodyRun (hd body : Bs) : Nat × Nat :=
  if hd.getD 3 0 / 4 % 2 = 1 then (valLe (body.take 4), valLe ((body.drop 4).take 2)) else (0, 0)

/-- The entry that a header, an extension run and the material name (R131). -/
def entryFrom (hd : Bs) (run : Nat × Nat) (mat : Bs) : Entry :=
  let st := hd.getD 3 0
  { live := st % 2 == 1, epoch := st / 2 % 2 == 1, pend := st / 8 % 2 == 1, generation := valLe ((hd.drop 4).take 2),
    shard := hd.getD 6 0, tenant := hd.getD 7 0, keyType := valLe ((hd.drop 8).take 2),
    usage := valLe ((hd.drop 10).take 2), nonceSalt := valLe ((hd.drop 16).take 4),
    writeCount := valLe ((hd.drop 20).take 4), created := valLe ((hd.drop 24).take 8), expiry := valLe ((hd.drop 32).take 8),
    material := bytesOf (mat.take (valLe ((hd.drop 12).take 2))), extFirst := run.1, extCount := run.2 }

/-- An entry opened with its extension blocks, none when a tag fails: `block j` is the `j`-th of its run as it reads. -/
def entryWith (key line : Bs) (block : Nat × Nat → Nat → Option Bs) : Option Entry :=
  match entryOpen key line with
  | none => none
  | some body =>
    let hd := line.take 40
    let run := bodyRun hd body
    let blocks := (List.range run.2).map (fun j => (block run j).bind (blockOpen key hd j))
    if blocks.any Option.isNone then none
    else some (entryFrom hd run (if run.2 = 0 then body else (blocks.map (fun b => b.getD [])).flatten))

/-- A record of a backup image (R153): its index, its entry and the bytes it takes; none when a tag fails. -/
def entryParse (key : Bs) (bs : Bs) : Option (Nat × Entry × Nat) :=
  (entryWith key (bs.take 128) (fun _ j => some ((bs.drop (128 + 128 * j)).take 128))).map
    (fun e => (valLe (bs.take 3), e, 128 + 128 * e.extCount))

/-! ## The stored lines (R129-R133) -/

/-- A line nothing has been stored in. -/
def zeroLine (_ : Nat) : List Byte := List.replicate 128 0

/-- A 128-byte line of the table, its checkpoint area or the extension store, as the Vault Table engine last wrote it. -/
def State.imageLine (s : State) (l : Nat) : List Byte := Store.get zeroLine s.vault.image l

/-- Bytes of a line read back as they were written: what a GCM tag over them verifies (R133, R401). -/
def State.lineGood (s : State) (l off n : Nat) : Bool :=
  ((s.cacheHit l).isSome || !s.ddr.poison.contains l) && sub (s.lineBytes l) off n == sub (s.imageLine l) off n

/-- The cache bank of a line serves an access of the Vault Table engine, which has been held until the bank woke (R341, R342):
DESIGN CHOICE (log 115), an operation of the engine is one step here, the wake included. -/
def State.useLineBank (s : State) (l : Nat) : State :=
  let b := s.cacheBankOf l
  if s.cacheSets = 0 ∨ s.rd .boltBankState_power b = 0 then s else s.wr .boltBankState_power b 0

/-- The Vault Table engine writes bytes of line `l`, through the cache region as every access at its internal address goes
(R129, R350). A refused write is lost. -/
def State.vaultWrite (s : State) (l off : Nat) (bs : List Byte) : State :=
  let a := l * 128 + off
  if s.ddrUsable < a + bs.length || s.ddrRefused a bs.length then s
  else
    let s := (s.useLineBank l).cacheWrite repVault a bs |>.2
    let was := s.imageLine l
    s.setVault
      { s.vault with image := Store.put zeroLine s.vault.image l (was.take off ++ bs ++ was.drop (off + bs.length)) }

/-- Whole lines from `l` on. -/
def State.vaultLines (s : State) (l : Nat) (bs : List Byte) : State :=
  (blocksOf 128 bs).zipIdx.foldl (fun s e => s.vaultWrite (l + e.2) 0 e.1) s

/-- The Vault Table engine reads lines, through the cache region. -/
def State.vaultRead (s : State) (ls : List Nat) : State :=
  ls.foldl (fun s l => ((s.useLineBank l).cacheRead repVault (l * 128) 128).2.2) s

/-- A line as the Vault Table engine reads it, none where an uncorrectable error poisons it (R401). -/
def State.lineRead (s : State) (l : Nat) : Option Bs :=
  if (s.cacheHit l).isSome || !s.ddr.poison.contains l then some (natsOf (s.lineBytes l)) else none

/-- The entry that stored bytes other than those written last hold: one whose tags verify at its own index, an older version
say (R132, R133). -/
def State.entryStray (s : State) (i : Nat) : Option Entry :=
  match s.lineRead (s.vault.base / 128 + i) with
  | none => none
  | some line =>
    if valLe (line.take 3) ≠ i then none
    else
      match s.tableKey (line.getD 3 0 / 2 % 2 == 1) with
      | none => none
      | some key => entryWith key line (fun run j => s.lineRead (s.vault.ext / 128 + run.1 + j))

/-- Entry `i` as the engine reads it: none when a tag fails (R133, R401), or when it is live and its key is not held. Every
extension block is verified at every use: DESIGN CHOICE (log 114). -/
def State.entryRead (s : State) (i : Nat) : Option Entry :=
  let e := s.entry i
  (if (s.entryLines i e).all (fun l => s.lineGood l 0 128) then some e else s.entryStray i).filter
    (fun e => !(e.live && e.epoch != s.epochNow && s.vault.prev.isNone))

def State.entryBad (s : State) (i : Nat) : Bool := (s.entryRead i).isNone

/-- What the stored clear bytes of an entry say of it, whatever its tag (R133). -/
def State.entryClear (s : State) (i : Nat) : Entry :=
  let l := s.vault.base / 128 + i
  let e := s.entry i
  if s.lineGood l 0 40 then e
  else
    let hd := natsOf (sub (s.lineBytes l) 0 40)
    { e with live := hd.getD 3 0 % 2 == 1, generation := valLe ((hd.drop 4).take 2), shard := hd.getD 6 0 }

/-- The engine goes on from the version it has read. -/
def State.adopt (s : State) (i : Nat) (e : Entry) : State := if s.entry i = e then s else s.putEntry i e

/-- The channel of a fenced granule that an entry stands on (R25, R404). -/
def State.entryFenced (s : State) (i : Nat) (e : Entry) : Option Nat :=
  (s.entryLines i e).findSome? (fun l => s.fencedUnit (l * 128) 128)

/-- RESOURCE_RETIRED for an entry on a fenced granule (R25). -/
def State.needUnfenced (s : State) (i : Nat) (e : Entry) : Chk Unit :=
  match s.entryFenced i e with
  | some u => .error (fail stResourceRetired 0xFF 1 u)
  | none => .ok ()

/-! ## Writing entries (R131-R136, R145) -/

/-- VT_STATUS.live follows the table. -/
def State.noteLive (s : State) : State :=
  s.wr .vtStatus_live 0 (s.vault.entries.filter (fun e => e.2.live)).length

/-- A cached copy is dropped before the write commits (R145). -/
def State.uncache (s : State) (i : Nat) : State :=
  s.setVault { s.vault with cache := s.vault.cache.filter (fun j => j != i) }

/-- The vault region in MiB, and the part of it that holds session key slots (R144). -/
def State.vaultMib (s : State) : Nat := s.bolt.lay.vaultB.length * 8
def State.slotMib (s : State) : Nat := min s.vault.slotMib (s.vaultMib - 2)

/-- The room of the hot-entry cache, in decrypted entries and extension blocks of 128 B each: the rest of the vault region
(R144). The size of a decrypted one is a DESIGN CHOICE (log 115). -/
def State.hotRoom (s : State) : Nat := (s.vaultMib - 1 - s.slotMib) * 8192

/-- What the cached entries take of it. -/
def State.hotUsed (s : State) : Nat := (s.vault.cache.map (fun i => 1 + (s.entry i).extCount)).sum

/-- Entries leave the hot-entry cache until what is left fits; which one leaves is a free value (log 115). -/
def State.trimHot (keep : Nat) : Nat → State → State
  | 0, s => s
  | n + 1, s =>
    let rest := s.vault.cache.filter (fun j => j != keep)
    if s.hotUsed ≤ s.hotRoom ∨ rest.isEmpty then s
    else
      let r := s.fresh 64
      State.trimHot keep n (r.2.uncache (rest.getD (r.1 % rest.length) keep))

/-- A use of an entry: a hit of the hot-entry cache, or a miss that reads the entry and fills it, counted (R145). -/
def State.touchEntry (s : State) (i : Nat) : State :=
  if s.vault.cache.contains i then s.count .vtCacheStat_hits
  else
    let s := s.vaultRead (s.entryLines i (s.entry i))
    let s := (s.setVault { s.vault with cache := s.vault.cache ++ [i] }).count .vtCacheStat_misses
    State.trimHot i s.vault.cache.length s

/-- The generation after `g` of an entry or a context. -/
def nextGen (g : Nat) : Nat := if g ≥ 65535 then 1 else g + 1

/-- Session contexts nothing has used: generation 1. -/
def sessDefault (_ : Nat) : Sess :=
  { isOpen := false, gen := 1, tenant := 0, chacha := false, opening := false, dataPhase := false, ended := false,
    nonce := [], key := [], aad := [], text := [], source := none, migrating := none }

def State.sess (s : State) (i : Nat) : Sess := Store.get sessDefault s.vault.sessions i

/-- VT_SESSIONS.open follows the contexts. -/
def State.putSess (s : State) (i : Nat) (x : Sess) : State :=
  let s := s.setVault { s.vault with sessions := Store.put sessDefault s.vault.sessions i x }
  s.wr .vtSessions_open 0 (s.vault.sessions.filter (fun e => e.2.isOpen)).length

/-- Frees a context: its reference is stale, its key slot is cleared (R146, R147). A hand-off it is in goes on, and ends with
its reply. -/
def State.freeSess (s : State) (i : Nat) : State :=
  let x := s.sess i
  s.putSess i { sessDefault i with gen := nextGen x.gen, migrating := x.migrating }

/-- A hand-off has ended: its context, if it is still open, is freed (R148). -/
def State.handedOff (s : State) (i : Nat) : State :=
  let s := if (s.sess i).isOpen then s.freeSess i else s
  s.putSess i { s.sess i with migrating := none }

/-- Frees every open context that `p` selects. -/
def State.freeSessWhere (s : State) (p : Sess → Bool) : State :=
  ((s.vault.sessions.filter (fun e => e.2.isOpen && p e.2)).map (·.1)).foldl State.freeSess s

/-- Sessions of an entry's earlier generations are stale once its ROTATE or DESTROY has committed (R147). -/
def State.staleSess (s : State) (i : Nat) : State :=
  let e := s.entry i
  s.freeSessWhere (fun x => x.source.any (fun q => q.1 == i && !(e.live && e.generation == q.2)))

/-- Stores an entry and its extension blocks, sealed under the table key of its epoch (R132); the cached copy goes before
(R145). No key, no write. -/
def State.storeEntry (s : State) (i : Nat) (e : Entry) : State :=
  match s.tableKey e.epoch with
  | none => s
  | some key =>
    let s := (s.uncache i).putEntry i e
    let s := s.vaultWrite (s.vault.base / 128 + i) 0 (bytesOf (entryStored key i e))
    (s.vaultLines (s.vault.ext / 128 + e.extFirst) (bytesOf (extStored key i e))).noteLive

/-- The extension blocks of an entry that is gone are overwritten with zeros (R139). -/
def State.zeroRun (s : State) (e : Entry) : State :=
  s.vaultLines (s.vault.ext / 128 + e.extFirst) (List.replicate (128 * e.extCount) 0)

/-- The extension blocks a write takes. -/
def writeBlocks (w : TableWrite) : Nat := if w.live then extBlocksFor w.keyType w.material.length else 0

/-- The first block of the run a write's material takes. A write not yet committed leaves the old content its blocks. -/
def State.writeRun (s : State) (w : TableWrite) (pend : Bool) : Option Nat :=
  (if pend then s else s.putEntry w.index { s.entry w.index with extCount := 0 }).extAlloc (writeBlocks w)

/-- Can the engine take a write: an index of its table, a key to seal it under, room for its material (R130, R132)? -/
def State.writeFits (s : State) (w : TableWrite) (pend : Bool) : Bool :=
  decide (w.index < s.tableSize) && s.vault.keyHeld && (s.writeRun w pend).isSome

/-- The entry a write leaves, under the current epoch (R150). A freed one holds zero material. -/
def State.entryAfter (s : State) (w : TableWrite) (shard : Nat) (pend : Bool) : Entry :=
  { live := w.live, epoch := s.epochNow, pend, generation := w.generation, shard, tenant := w.tenant,
    keyType := w.keyType, usage := w.usage, nonceSalt := w.nonceSalt, writeCount := (s.entry w.index).writeCount + 1,
    created := w.created, expiry := w.expiry, material := if w.live then w.material else [],
    extFirst := (s.writeRun w pend).getD 0, extCount := writeBlocks w }

/-- The channel of a fenced granule that a write would touch (R25, R404). -/
def State.writeFenced (s : State) (w : TableWrite) (pend : Bool) : Option Nat :=
  (s.entryFenced w.index (s.entry w.index)).or (s.entryFenced w.index (s.entryAfter w 0 pend))

/-- Applies one table write at its index (R132, R145, R147, R150); one that does not fit has no effect. -/
def State.applyWrite (s : State) (w : TableWrite) (shard : Nat) (pend : Bool) : State :=
  if !s.writeFits w pend then s
  else
    let e := s.entryAfter w shard pend
    if pend then s.storeEntry w.index e
    else ((s.zeroRun (s.entry w.index)).storeEntry w.index e).staleSess w.index

/-- Commit pending on an entry: a write of the entry like any other (R131, R422). -/
def State.setPend (s : State) (i : Nat) (b : Bool) : State :=
  let e := s.entry i
  s.storeEntry i { e with pend := b, epoch := s.epochNow, writeCount := e.writeCount + 1 }

/-- A write that was pending commits: the blocks of the old content are freed, sessions of its generation are stale. -/
def State.settleWrite (s : State) (i : Nat) (old : Entry) : State := ((s.zeroRun old).setPend i false).staleSess i

/-- Puts an entry back as it was before a pending write, by a write under the current epoch (R150, R422 step 5). -/
def State.undoWrite (s : State) (i : Nat) (old : Entry) : State :=
  if !s.vault.keyHeld then s
  else
    let e := s.entry i
    (s.zeroRun e).storeEntry i { old with epoch := s.epochNow, writeCount := e.writeCount + 1 }

/-- The handle of an entry (R91). -/
def handleOf (i : Nat) (e : Entry) : Nat :=
  e.tenant * 2 ^ 48 + e.shard * 2 ^ 40 + e.generation * 2 ^ 24 + i

/-! ## Key operands (R91-R97) -/

/-- A key operand after its checks. `usage` is none for a public key given by address. -/
structure KeyMat where
  keyType  : Nat
  usage    : Option Nat
  material : Bs
  salt     : Nat
  expiry   : Nat
  shard    : Nat
  source   : Option (Nat × Nat)
  deriving DecidableEq, Repr

/-- The device's own primary for a shard is in SV_SHARD; a reloading shard serves nothing (R424). -/
def State.shardReloading (s : State) (sh : Nat) : Bool := s.rd .svShard_role sh == 3

/-- Steps 1 and 2 of R92, and the reloading shard of R424. -/
def State.handleIndex (s : State) (tenant h off : Nat) : Chk Nat := do
  let i := h % 2 ^ 24
  need (h / 2 ^ 48 == tenant) (fail stAccessDenied off 1)
  need (decide (i < s.tableSize)) (fail stHandleStale off 1)
  match s.shardOf i with
  | some sh => need (!s.shardReloading sh) (fail stMeshUnavailable 0xFF 2 (s.rd .svShard_primary sh))
  | none => pure ()
  return i

/-- Generation and shard of R92 step 4. -/
def handleCurrent (e : Entry) (h : Nat) : Bool :=
  e.live && e.generation == h / 2 ^ 24 % 2 ^ 16 && e.shard == h / 2 ^ 40 % 2 ^ 8

/-- The entry at an index, whose tags verify (R92 step 3, R133). -/
def State.needEntry (s : State) (i off : Nat) : Chk Entry :=
  match s.entryRead i with
  | some e => .ok e
  | none => .error { fail stAccessDenied off 3 with integrity := some i }

/-- A handle checked as R92 gives. -/
def State.checkHandle (s : State) (tenant h off : Nat) (expiryToo : Bool := true) : Chk (Nat × Entry) := do
  let i ← s.handleIndex tenant h off
  s.needUnfenced i (s.entry i)
  let e ← s.needEntry i off
  need (handleCurrent e h) (fail stHandleStale off 1)
  need (!(expiryToo && s.expired e)) (fail stAccessDenied off 5)
  return (i, e)

def matOfEntry (i : Nat) (e : Entry) : KeyMat :=
  { keyType := e.keyType, usage := some e.usage, material := natsOf e.material, salt := e.nonceSalt,
    expiry := e.expiry, shard := e.shard, source := some (i, e.generation) }

/-- A type check that reports the key field's offset, then a usage check (R97). `uses`: any one of these bits. -/
def checkTypeUse (k : KeyMat) (off : Nat) (typeOk : Nat → Bool) (uses : List Nat) : Chk Unit := do
  needField (typeOk k.keyType) off
  match k.usage with
  | some m => need (uses.isEmpty || uses.any (fun u => bitOf m u)) (fail stAccessDenied off 2)
  | none => pure ()

/-- A wrapped blob operand read, checked and unwrapped (R93, R94). A misaligned address is refused at step 6, before the read:
DESIGN CHOICE (log 116). -/
def State.openBlob (s : State) (h : HostView) (tenant addr off : Nat) : Chk KeyMat := do
  needField (addr % 8 == 0) off
  let hd ← dmaRead h addr 16
  let kt := leAt hd 0 2
  let n := leAt hd 4 2
  needField (leAt hd 6 1 == 1 && leAt hd 7 1 == 0 && (matLen kt).isSome && lenFits kt n) off
  let body ← dmaRead h (addr + 16) (8 * ceilDiv (16 + n) 8 + 8)
  let (i, e) ← s.checkHandle tenant (leAt hd 8 8) off
  checkTypeUse (matOfEntry i e) off (fun t => t == 6) [uUnwrap]
  match Aes.kwpUnwrap (natsOf e.material) (natsOf body) with
  | none => .error (fail stAccessDenied off 3)
  | some p =>
    need (p.take 16 == natsOf hd && p.length == 16 + n) (fail stAccessDenied off 3)
    return { keyType := kt, usage := some (leAt hd 2 2), material := p.drop 16, salt := 0, expiry := 0, shard := 0,
             source := none }

/-- The key operand of a kind: handle, blob, or a public key of a given type at a host address. -/
def State.keyOperand (s : State) (h : HostView) (tenant kind value off : Nat) (pubType : Nat) : Chk KeyMat :=
  if kind = 0 then do
    let (i, e) ← s.checkHandle tenant value off
    return matOfEntry i e
  else if kind = 2 then s.openBlob h tenant value off
  else do
    let n := ((matLen pubType).getD (0, 0)).1
    let bs ← dmaRead h value n
    return { keyType := pubType, usage := none, material := natsOf bs, salt := 0, expiry := 0, shard := 0,
             source := none }

/-! ## Sessions and their key slots (R144, R146) -/

/-- Key slots available: VT_CTRL.key_slot_mib MiB, or the vault region less 2 MiB when that is smaller, 256 B each (R144). -/
def State.keySlots (s : State) : Nat := s.slotMib * 4096

/-- Key slots in use: one per source generation, one per blob session. -/
def State.slotsUsed (s : State) : Nat :=
  let op := s.vault.sessions.filter (fun e => e.2.isOpen)
  let blobs := (op.filter (fun e => e.2.source.isNone)).length
  let srcs := (op.filterMap (fun e => e.2.source)).eraseDups
  blobs + srcs.length

/-- May a new session take context `i`: 512 B of the session partition, none of its words in a fenced bank (R345) or in one
that takes no new placements (R436). -/
def State.ctxUsable (s : State) (i : Nat) : Bool :=
  decide (i < min 65536 (16384 * s.bolt.lay.sessB.length))
    && (List.range 4).all (fun j =>
      match s.bolt.lay.place (s.bolt.lay.vaultSpan * bankBytes + 512 * i + 128 * j) with
      | some p => !s.bolt.fenced.contains p.bank && !(s.flag .fitCtrl_avoidEn && s.fit.avoided.contains p.bank)
      | none => false)

/-- First usable free context of `n` from `i` on. -/
def State.scanCtx (s : State) (used : List Nat) : Nat → Nat → Option Nat
  | 0, _ => none
  | n + 1, i => if !used.contains i && s.ctxUsable i then some i else s.scanCtx used n (i + 1)

/-- The lowest free context that may be used. -/
def State.freeCtx (s : State) : Option Nat :=
  s.scanCtx ((s.vault.sessions.filter (fun e => e.2.isOpen || e.2.migrating.isSome)).map (·.1)) 65536 0

def State.sessionsOf (s : State) (tenant : Nat) : Nat :=
  (s.vault.sessions.filter (fun e => e.2.isOpen && e.2.tenant == tenant)).length

/-- A session reference (R91): context and generation. -/
def sessRef (i : Nat) (x : Sess) : Nat := i + 65536 * x.gen

/-- A session operand checked as R92 gives against its tenant and generation (R147). -/
def State.checkSess (s : State) (tenant ref off : Nat) : Chk Nat := do
  let i := ref % 65536
  let x := s.sess i
  needField (decide (ref < 2 ^ 32)) off
  need (!x.isOpen || x.tenant == tenant) (fail stAccessDenied off 1)
  need (x.isOpen && x.gen == ref / 65536 % 65536) (fail stHandleStale off 2)
  return i

/-- ABORTED_BY_RESET with a kind of R377. -/
def abortedBy (kind : Nat) : Nat := resultOf 0xFF kind 0

/-- Every session becomes stale, at any reset but an FLR (R147); a hand-off in progress ends with the wipe's kind. -/
def State.dropSessions (s : State) (kind : Nat) : State :=
  s.vault.sessions.foldl (fun s e =>
    if !e.2.isOpen && e.2.migrating.isNone then s
    else
      let s := s.handedOff e.1
      match e.2.migrating with
      | some (sq, cid, _, _) => s.finish sq cid stAbortedByReset (abortedBy kind)
      | none => s) s

end Sys2Proof.Machine
end

