-- ==== Sys2Proof/Machine/MeshWire.lean ====
section
/-! DEFINITION. Selvage frames as bytes: MAC addresses, the Selvage header, MACsec (R408, R410-R412, R415). -/

namespace Sys2Proof.Machine

open Sys2Proof

/-! ## Addresses (R410) -/

/-- The MAC address of port `p` of the member with ID `d`. -/
def State.portMac (s : State) (d p : Nat) : Nat := s.rd .svMacBase_base * 4096 + 4 * (d % 1024) + p % 4

/-- The group MAC address: bits 11:0 all ones, the individual/group bit 1. -/
def State.groupMac (s : State) : Nat := (s.rd .svMacBase_base * 4096 + 4095) ||| 2 ^ 40

/-- The device ID in a source MAC address. -/
def macId (f : FrameHdr) : Nat := f.srcMac / 4 % 1024

/-- A port takes frames addressed to its own MAC address or to the group; it drops all others at the MAC. -/
def State.macTakes (s : State) (f : FrameHdr) : Bool := f.dstMac == s.portMac (s.rd .svMeshState_deviceId) f.port || f.dstMac == s.groupMac

/-! ## Header and body (R411, R412) -/

/-- The class of a body. -/
def classOf : MeshBody → Nat
  | .keepalive _ _ => 0x01
  | .membership _ => 0x02
  | .shardWrite _ => 0x03
  | .shardReply _ _ => 0x04
  | .forward _ => 0x05
  | .claim _ => 0x06
  | .claimReply _ _ => 0x07
  | .reload _ => 0x08
  | .handoff _ => 0x09
  | .handoffReply _ => 0x0A
  | .ack => 0x0B

/-- The bytes of a body. -/
def bodyOf : MeshBody → Bs
  | .keepalive time ports => toLe 8 time ++ toLe 1 ports ++ zeros 7
  | .ack => []
  | b => Config.bodyBytes b

/-- The 32 bytes of the Selvage header. -/
def headerBytes (src dst : Nat) (group resent : Bool) (seq ack shard epoch : Nat) (b : MeshBody) : Bs :=
  toLe 2 (src % 1024) ++ toLe 2 (if group then 0x8000 else dst % 1024) ++ [classOf b, b2n resent]
    ++ toLe 2 (bodyOf b).length ++ toLe 8 seq ++ toLe 8 ack ++ toLe 1 shard ++ zeros 3 ++ toLe 4 epoch

def TxFrame.header (f : TxFrame) : Bs := headerBytes f.src f.dst f.group f.resent f.seq f.ack f.shard f.epoch f.body
def headerOf (f : FrameHdr) (b : MeshBody) : Bs :=
  headerBytes f.src f.dst f.group f.resent f.seq f.ack f.shard f.epoch b

/-- The largest frame, FCS included, and the room it leaves a body (R408, R410). -/
def State.mtu (s : State) : Nat := max 1518 (min 9216 (s.rd .svCtrl_mtu))
def State.bodyRoom (s : State) : Nat := s.mtu - 82 - 4 * s.rd .svCtrl_vlanEn

/-! ## MACsec (R415) -/

/-- The secure channel identifier of a port: its MAC address and port identifier 1. -/
def sciOf (mac : Nat) : Nat := mac * 65536 + 1

/-- The SecTAG, 16 bytes: it carries the SCI, and the length of what it secures when that is below 48 bytes (IEEE 802.1AE). -/
def secTag (an pn mac n : Nat) : Bs :=
  toBe 2 0x88E5 ++ [0x2C + an % 4, if n < 48 then n else 0] ++ toBe 4 pn ++ toBe 8 (sciOf mac)

/-- The SAK of a port's MACsec engine and its AN. -/
def State.sakAt (s : State) (port : Nat) : Bs × Nat :=
  match s.mesh.sak.find? (fun e => e.1 == port) with
  | some e => (natsOf e.2.1, e.2.2)
  | none => ([], 0)

/-- The initial value of GCM-AES-XPN-256: the salt, exclusive or the short SCI and the 64-bit packet number. -/
def xpnIv (key : Bs) (sci pn : Nat) : Bs :=
  toBe 12 ((Config.shortSci sci % 2 ^ 32 * 2 ^ 64 + pn % 2 ^ 64) ^^^ (Config.xpnSalt key % 2 ^ 96))

/-- A frame under MACsec on a port: its SecTAG, its ciphertext and its ICV, confidentiality offset 0. -/
def State.protect (s : State) (port dst src pn : Nat) (header : Bs) (b : MeshBody) : Bs × Bs × Bs :=
  let k := s.sakAt port
  let text := toBe 2 (s.rd .svCtrl_ethertype) ++ header ++ bodyOf b
  let tag := secTag k.2 pn src text.length
  (tag, Aes.gcmSeal k.1 (xpnIv k.1 (sciOf src) pn) (toBe 6 dst ++ toBe 6 src ++ tag) text)

/-- The ICV of a received frame, as this port's SAK gives it. -/
def State.icvOf (s : State) (f : FrameHdr) (b : MeshBody) : List Byte :=
  bytesOf (s.protect f.port f.dstMac f.srcMac f.pn (headerOf f b) b).2.2

/-- Does its ICV verify? There is a receive SC for each device and port of the mesh, and none for another address. -/
def State.icvOk (s : State) (f : FrameHdr) (b : MeshBody) : Bool :=
  f.srcMac / 4096 == s.rd .svMacBase_base && f.icv == s.icvOf f b

/-! ## The frame on the wire (R410) -/

/-- The frame check sequence of IEEE 802.3. -/
def crcByte (c b : Nat) : Nat :=
  (List.range 8).foldl (fun c _ => if c % 2 = 1 then (c / 2) ^^^ 0xEDB88320 else c / 2) (c ^^^ b)
def fcs (bs : Bs) : Bs := toLe 4 (bs.foldl crcByte 0xFFFFFFFF ^^^ 0xFFFFFFFF)

/-- The 802.1Q tag, when SV_CTRL asks for one. -/
def State.vlanTag (s : State) : Bs :=
  if s.flag .svCtrl_vlanEn then toBe 2 0x8100 ++ toBe 2 (s.rd .svCtrl_pcp * 8192 + s.rd .svCtrl_vlanId) else []

/-- The bytes of a frame as it leaves its port. -/
def State.wireOf (s : State) (f : TxFrame) : List Byte :=
  let src := s.portMac f.src f.port
  let dst := if f.group then s.groupMac else s.portMac f.dst f.port
  let r := s.protect f.port dst src f.pn f.header f.body
  let bs := toBe 6 dst ++ toBe 6 src ++ s.vlanTag ++ r.1 ++ r.2.1 ++ r.2.2
  bytesOf (bs ++ fcs bs)

/-- A list cut into runs that fit, each of at least one element. -/
def cutRuns (fits : List α → Bool) : List α → List α → List (List α)
  | acc, [] => [acc]
  | acc, e :: es => if acc.isEmpty || fits (acc ++ [e]) then cutRuns fits (acc ++ [e]) es else acc :: cutRuns fits [e] es

/-- The batches of a reload, each in one frame (R408, R412). -/
def State.batches (s : State) (es : List TableWrite) (applied : Nat) : List (List TableWrite) :=
  cutRuns (fun l => decide ((bodyOf (.reload (.batch l applied false))).length ≤ s.bodyRoom)) [] es

end Sys2Proof.Machine
end

