-- ==== Sys2Proof/Machine/Mesh.lean ====
section
/-! DEFINITION. The Selvage mesh (chapter 17): ports, frames, membership, shards, claims, commits and reload. -/

namespace Sys2Proof.Machine

open Sys2Proof

def State.setMesh (s : State) (m : Mesh) : State := { s with mesh := m }

/-- This device's ID, and whether it is a member. -/
def State.myId (s : State) : Nat := s.rd .svMeshState_deviceId
def State.joined (s : State) : Bool := s.flag .svMeshState_joined

/-- A device nothing is known of. -/
def peerDefault (_ : Nat) : Peer :=
  { member := false, joining := false, lost := false, fresh := false, leaving := false, paths := [], heard := 0, txSeq := 0,
    unacked := [], rxSeq := 0, ackOwed := false }

def State.peer (s : State) (d : Nat) : Peer := Store.get peerDefault s.mesh.peers d
def State.setPeer (s : State) (d : Nat) (p : Peer) : State :=
  s.setMesh { s.mesh with peers := Store.put peerDefault s.mesh.peers d p }

/-- A shard nothing is known of. -/
def shardDefault (_ : Nat) : Shard :=
  { replicas := [], applied := 0, highest := 0, claiming := none, pend := [], nextNum := 1, reloaded := [], late := [],
    awaits := [], holds := false, issuer := none, won := 0, reconciling := false, queued := [] }

def State.shard (s : State) (n : Nat) : Shard := Store.get shardDefault s.mesh.shards n
def State.setShard (s : State) (n : Nat) (x : Shard) : State :=
  s.setMesh { s.mesh with shards := Store.put shardDefault s.mesh.shards n x }

/-! ## Ports and paths (R414, R427) -/

/-- Is a port in service: clocked, enabled, up, keyed, not retired? -/
def State.portUp (s : State) (p : Nat) : Bool :=
  s.flag .svPortCtrl_enable p && s.flag .svPortState_linkUp p && s.flag .svPortState_keyed p
    && !s.flag .svPortState_retired p && s.clocked

def State.portsUp (s : State) : List Nat := (List.range 4).filter s.portUp

/-- Is the path to a peer on a port live: a frame arrived on it within the last 200 µs (R414)? -/
def State.pathLive (s : State) (d p : Nat) : Bool :=
  s.portUp p && (s.peer d).paths.any (fun e => e.1 == p && decide (s.time < e.2 + 200000))

/-- Mask of the live paths to a peer. -/
def State.pathMask (s : State) (d : Nat) : Nat := maskOf 4 (s.pathLive d)

/-- The port frames to a peer leave on (R414): d mod 4, else the next higher-numbered live one, wrapping. -/
def State.portFor (s : State) (d : Nat) : Option Nat :=
  ((List.range 4).map (fun i => (d + i) % 4)).find? (fun p => s.pathLive d p)

/-- SV_PORT_STATE.paths counts the peers with a live path on each port. -/
def State.notePaths (s : State) : State :=
  s.each 4 (fun p s => s.wr .svPortState_paths p
    ((s.mesh.peers.filter (fun e => s.pathLive e.1 p)).length))

/-- SV_MESH_STATE.members counts the members known, this device included. -/
def State.noteMembers (s : State) : State :=
  s.wr .svMeshState_members 0
    ((s.mesh.peers.filter (fun e => e.2.member)).length + b2n s.joined)

/-- Known members but this device. -/
def State.members (s : State) : List Nat := (s.mesh.peers.filter (fun e => e.2.member)).map (·.1)

/-! ## Sending (R410, R411, R414) -/

/-- A frame of this device to a peer, not sent yet (port 4). -/
def State.newFrame (s : State) (d seq shard epoch : Nat) (body : MeshBody) : TxFrame :=
  { src := s.myId, dst := d, group := false, port := 4, seq, ack := 0, shard, epoch, resent := false, sends := 0, at_ := 0,
    pn := 0, body, wire := [] }

/-- Puts one frame on a port, under the next packet number of its SAK (R415). Its ack field acknowledges what the peer has
sent, so no ACK frame is owed after it. -/
def State.putFrame (s : State) (f : TxFrame) : State :=
  let p := s.peer f.dst
  let pn := Store.get (fun _ => 0) s.mesh.txPn f.port + 1
  let f := if f.group then { f with pn } else { f with pn, ack := p.rxSeq }
  let s := if f.group then s else s.setPeer f.dst { p with ackOwed := false }
  let s := s.setMesh { s.mesh with out := s.mesh.out ++ [{ f with wire := s.wireOf f }],
                                   txPn := Store.put (fun _ => 0) s.mesh.txPn f.port pn }
  s.count .svPortStat_tx f.port

/-- Sends a reliable frame to a peer: at most 64 are unacknowledged; a further one waits (port 4: not sent yet). -/
def State.sendTo (s : State) (d : Nat) (shard epoch : Nat) (body : MeshBody) : State :=
  let p := s.peer d
  let f := s.newFrame d (p.txSeq + 1) shard epoch body
  match if p.unacked.length < 64 then s.portFor d else none with
  | some port =>
    let f := { f with port, sends := 1, at_ := s.time }
    (s.setPeer d { p with txSeq := p.txSeq + 1, unacked := p.unacked ++ [f] }).putFrame f
  | none => s.setPeer d { p with txSeq := p.txSeq + 1, unacked := p.unacked ++ [f] }

/-- Sends a MEMBERSHIP join to a peer on every port in service (R417 step 1). -/
def State.sendJoin (s : State) (d : Nat) (body : MeshBody) : State :=
  let p := s.peer d
  let f := { s.newFrame d (p.txSeq + 1) 0 0 body with port := s.portsUp.headD 4, sends := 1, at_ := s.time }
  let s := s.setPeer d { p with txSeq := p.txSeq + 1, unacked := p.unacked ++ [f] }
  s.portsUp.foldl (fun s port => s.putFrame { f with port }) s

/-- A group frame, once on each port in service (R410). -/
def State.sendGroup (s : State) (body : MeshBody) : State :=
  s.portsUp.foldl (fun s port => s.putFrame { s.newFrame 0 0 0 0 body with group := true, port, sends := 1, at_ := s.time }) s

/-! ## Receiving (R413, R414) -/

/-- A discarded frame is counted; an ICV failure is an event of the port's bucket (R413). A port whose link is down, or that
is not in use or retired, receives none, and a frame to another address is dropped at the MAC (R410). -/
def State.discardFrame (s : State) (f : FrameHdr) (b : MeshBody) : State :=
  if f.port < 4 && s.flag .svPortCtrl_enable f.port && s.flag .svPortState_linkUp f.port
      && !s.flag .svPortState_retired f.port && s.clocked && s.macTakes f then
    let s := s.countSat .svPortErr_discarded f.port
    if s.icvOk f b then s else s.bucketEvent (0x400 + f.port) 1
  else s

/-- The receive SC of a frame, and the packet number expected next on it, 1 at first (R415). -/
def rxSc (f : FrameHdr) : Nat := f.srcMac % 4096
def State.nextPn (s : State) (f : FrameHdr) : Nat := Store.get (fun _ => 1) s.mesh.rxPn (rxSc f)

/-- May a frame of this class come from its source: a member, or one that has yet to acknowledge this device's leave frame; a
MEMBERSHIP frame from any (R413, R418)? -/
def State.mayHear (s : State) (f : FrameHdr) (b : MeshBody) : Bool :=
  classOf b == 0x02 || (s.peer f.src).member || (s.peer f.src).leaving

/-- Does a received frame pass R413? Its packet number lies in the replay window when it is at most SV_CTRL.replay_window
below the one expected next (R415; PRESUMED of IEEE 802.1AE, log 44). -/
def State.frameOk (s : State) (f : FrameHdr) (b : MeshBody) : Bool :=
  s.portUp f.port && s.macTakes f && decide (s.nextPn f ≤ f.pn + s.rd .svCtrl_replayWindow) && f.src == macId f
    && (f.group || f.dst == s.myId) && s.mayHear f b && s.icvOk f b

/-- A valid frame moves its receive SC's window, makes its sender's path live, and a lost member live again (R414, R415,
R418). -/
def State.hear (s : State) (f : FrameHdr) (b : MeshBody) : State :=
  let s := s.setMesh { s.mesh with rxPn := Store.put (fun _ => 1) s.mesh.rxPn (rxSc f) (max (s.nextPn f) (f.pn + 1)) }
  let s := s.count .svPortStat_rx f.port
  let p := s.peer f.src
  let s := s.setPeer f.src { p with lost := false, heard := s.time, fresh := (p.fresh || p.lost) && classOf b == 0x02,
                                    paths := p.paths.filter (fun e => e.1 != f.port) ++ [(f.port, s.time)] }
  s.notePaths

/-- Frames waiting for room among the 64 are sent (R414). -/
def State.sendWaiting (s : State) (d : Nat) : State :=
  match s.portFor d with
  | none => s
  | some port =>
    (s.peer d).unacked.zipIdx.foldl (fun s e =>
      if e.1.sends = 0 ∧ e.2 < 64 then
        let f := { e.1 with port, sends := 1, at_ := s.time }
        let p := s.peer d
        (s.setPeer d { p with unacked := p.unacked.set e.2 f }).putFrame f
      else s) s

/-- The ack field of a frame releases the frames it covers; a device that has left is done with a peer that has acknowledged
its leave frame (R418). -/
def State.takeAck (s : State) (src ack : Nat) : State :=
  let p := s.peer src
  let left := p.unacked.filter (fun x => decide (x.seq > ack))
  (s.setPeer src { p with unacked := left, leaving := p.leaving && !left.isEmpty }).sendWaiting src

/-- A reliable frame: its ack is taken; it is acted on only when its seq is the next expected one, and is acknowledged in
either case (R414). -/
def State.receive (s : State) (f : FrameHdr) (b : MeshBody) (act : State → State) : State :=
  if !s.frameOk f b then s.discardFrame f b
  else
    let s := (s.hear f b).takeAck f.src f.ack
    let p := s.peer f.src
    if f.seq = p.rxSeq + 1 then act (s.setPeer f.src { p with rxSeq := f.seq, ackOwed := true })
    else s.setPeer f.src { p with ackOwed := true }

/-! ## Shards (R419-R425) -/

/-- Replica list and commit count of a shard; a device that is not joined, or whose shard no SHARD_CONFIG has reached (log
43), counts itself alone (R419). -/
def State.replicasOf (s : State) (sh : Nat) : List Nat := (s.shard sh).replicas
def State.commitK (s : State) (sh : Nat) : Nat := max 1 (s.rd .svShard_k sh)
def State.alone (s : State) (sh : Nat) : Bool := !s.joined || (s.replicasOf sh).isEmpty

/-- Is this device the primary of a shard (R143)? -/
def State.isPrimary (s : State) (sh : Nat) : Bool := s.alone sh || s.rd .svShard_role sh == 1

/-- Is a replica live to this device? -/
def State.liveMember (s : State) (d : Nat) : Bool := d == s.myId || ((s.peer d).member && !(s.peer d).lost)

def State.others (s : State) (sh : Nat) : List Nat := (s.replicasOf sh).filter (fun d => d != s.myId)

/-- Q of R420. -/
def claimQ (n k : Nat) : Nat := max (n - k + 1) (n / 2 + 1)

/-- Sends to every other replica under the shard's epoch. -/
def State.sendShard (s : State) (sh : Nat) (body : MeshBody) : State :=
  (s.others sh).foldl (fun s d => s.sendTo d sh (s.rd .svShard_epoch sh) body) s

/-- The descriptor that asked for a table write ends; a BACKUP_RESTORE goes on with its next record (R143, R154). -/
def State.endWrite (s : State) (sq cid status result : Nat) : State :=
  match s.runningWork sq cid with
  | none => s
  | some w =>
    match w.resume with
    | none => s.complete w status result
    | some (rs, n) =>
      if status ≠ stOk then s.complete w status result
      else { s with rings := { s.rings with work := s.rings.work.replace w { w with resume := some (rs.drop 1, n + 1),
                                                                                     at_ := .fenced } } }

/-- A write commits (R422 step 4): every replica clears commit pending, and whoever waits for it completes. -/
def State.commitWrite (s : State) (sh : Nat) (pw : PendWrite) : State :=
  let x := s.shard sh
  let s := s.setShard sh { x with pend := x.pend.filter (fun q => q.num != pw.num), applied := max x.applied pw.num }
  let s := (s.settleWrite pw.w.index pw.old).sendShard sh (.shardWrite (.commit pw.w.index))
  let s := match pw.work with | some (sq, cid, r) => s.endWrite sq cid stOk r | none => s
  match pw.origin with
  | some d => s.sendTo d sh (s.rd .svShard_epoch sh) (.shardReply true (s.rd .svShard_epoch sh))
  | none => s

/-- A pending write ends without commit (R422 step 5): the table is left unchanged. -/
def State.dropWrite (s : State) (sh : Nat) (pw : PendWrite) (status result : Nat) (tell : Bool) : State :=
  let x := s.shard sh
  let s := s.setShard sh { x with pend := x.pend.filter (fun q => q.num != pw.num) }
  let s := s.undoWrite pw.w.index pw.old
  let s := if tell then s.sendShard sh (.shardWrite (.abort pw.w.index)) else s
  let s := match pw.work with | some (sq, cid, _) => s.endWrite sq cid status result | none => s
  match pw.origin with
  | some d => s.sendTo d sh (s.rd .svShard_epoch sh) (.shardReply false (s.rd .svShard_epoch sh))
  | none => s

/-- A write that has no effect: the descriptor that asked for it completes, or the member that forwarded it is told. -/
def State.turnDown (s : State) (sh : Nat) (work : Option (Nat × Nat × Nat)) (origin : Option Nat) (status result : Nat) :
    State :=
  let s := match work with
    | some (sq, cid, _) => s.endWrite sq cid status result
    | none => s
  match origin with
  | some d => s.sendTo d sh (s.rd .svShard_epoch sh) (.shardReply false (s.rd .svShard_epoch sh))
  | none => s

/-- Does a write follow what its entry holds: an allocation of a free index under its stored generation, or the next
generation of the same live entry (R134, R136)? One that another member made on an older copy does not. -/
def State.writeFollows (s : State) (w : TableWrite) : Bool :=
  let e := s.entry w.index
  if !e.live then w.live && (e.generation == 0 || e.generation == w.generation)
  else if w.live then w.generation == nextGen e.generation && w.tenant == e.tenant && w.created == e.created
  else w.generation == (e.generation + 1) % 65536

/-- Is the write one of a BACKUP_RESTORE here? It is written at a free index whatever generation that holds (R154). -/
def State.restores (s : State) (work : Option (Nat × Nat × Nat)) : Bool :=
  work.any (fun k => (s.runningWork k.1 k.2.1).any (fun w => w.resume.isSome))

/-- Does replica `d` still reload the shard from this primary: a batch to it is not acknowledged (R424)? -/
def State.reloads (s : State) (sh d : Nat) : Bool :=
  (s.peer d).unacked.any (fun f => match f.body with | .reload (.batch _ _ _) => f.shard == sh | _ => false)

/-- The replicas that count towards k: the live ones but for those that reload (R422 step 2, R424). -/
def State.counting (s : State) (sh : Nat) : List Nat :=
  (s.replicasOf sh).filter (fun d => s.liveMember d && !s.reloads sh d)

/-- Sends a write to a replica, which is to reply. -/
def State.sendWrite (s : State) (sh d num : Nat) (w : TableWrite) : State :=
  let s := s.setShard sh { s.shard sh with awaits := (s.shard sh).awaits ++ [(d, num)] }
  s.sendTo d sh (s.rd .svShard_epoch sh) (.shardWrite (.write num w))

/-- Sends it to every other replica (R422 step 3). -/
def State.sendWrites (s : State) (sh num : Nat) (w : TableWrite) : State :=
  (s.others sh).foldl (fun s d => s.sendWrite sh d num w) s

/-- An allocation moves the shard's pointer past its index, whichever member made it (R135). -/
def State.noteAlloc (s : State) (sh : Nat) (w : TableWrite) : State :=
  if w.live && !(s.entry w.index).live then s.moveAllocPtr sh w.index else s

/-- Applies a write as primary and sends it to the replicas (R422 steps 2 and 3). A write that does not follow what the entry
holds, or does not fit, has no effect (R130, R143; log 117). -/
def State.primaryWrite (s : State) (sh : Nat) (w : TableWrite) (work : Option (Nat × Nat × Nat)) (origin : Option Nat) :
    State :=
  let k := s.commitK sh
  if (s.counting sh).length < k || !(s.writeFollows w || s.restores work && !(s.entry w.index).live) then
    s.turnDown sh work origin stMeshUnavailable (resultOf 0xFF 2 s.myId)
  else if !s.writeFits w true then s.turnDown sh work origin stQuota (resultOf 0xFF 1 0)
  else
    let old := s.entry w.index
    let x := s.shard sh
    let pw : PendWrite :=
      { num := x.nextNum, epoch := s.rd .svShard_epoch sh, w, old, accepts := [s.myId], work, origin }
    let s := (s.noteAlloc sh w).applyWrite w sh true
    let s := s.setShard sh { s.shard sh with nextNum := x.nextNum + 1, pend := (s.shard sh).pend ++ [pw] }
    let s := s.sendWrites sh pw.num w
    if k ≤ 1 then s.commitWrite sh pw else s

/-- Is a claim of this member's in progress? -/
def State.claims (s : State) (sh : Nat) : Bool := (s.shard sh).claiming.any (fun c => !c.abandoned)

/-- A table write of a descriptor (R119, R143, R422): applied at once by a device that stands alone, committed by the
primary, or forwarded to it. It waits while this member claims the shard or reconciles it (R423), and while a write of the
shard that this member forwarded is not answered: SHARD_REPLY names no write (R412; log 43). -/
def State.tableWrite (s : State) (wk : Work) (w : TableWrite) (sh result : Nat) : State :=
  match s.writeFenced w (!s.alone sh) with
  | some u => s.complete wk stResourceRetired (resultOf 0xFF 1 u)
  | none =>
  if s.alone sh then (s.applyWrite w sh false).complete wk stOk result
  else if s.claims sh || (s.shard sh).reconciling || s.mesh.forwarded.any (fun e => e.1 == sh) then s.moveWork wk .fenced
  else
    let s := s.moveWork wk .running
    let key := (wk.sq, wk.d.cid.toNat, result)
    let p := s.rd .svShard_primary sh
    if s.isPrimary sh then s.primaryWrite sh w (some key) none
    else if p = s.myId then s.turnDown sh (some key) none stMeshUnavailable (resultOf 0xFF 2 p)
    else if !s.liveMember p then s.turnDown sh (some key) none stMeshUnavailable (resultOf 0xFF 3 p)
    else
      let s := s.setMesh { s.mesh with forwarded := s.mesh.forwarded ++ [(sh, w.index, key)] }
      s.sendTo p sh (s.rd .svShard_epoch sh) (.forward w)

/-- Stops acting as primary, or claiming to be (R421): every write it holds uncommitted ends MESH_UNAVAILABLE naming the
refusing member, and is aborted under the epoch it had (R422 step 5). -/
def State.stepDown (s : State) (sh by_ : Nat) : State :=
  let x := s.shard sh
  let mine := if s.rd .svShard_role sh == 1 then x.pend else x.pend.filter (fun pw => pw.work.isSome || pw.origin.isSome)
  let s := if s.rd .svShard_role sh == 1 then s.wr .svShard_role sh 2 else s
  let s := s.setShard sh { x with reconciling := false, queued := [] }
  let s := mine.reverse.foldl (fun s pw => s.dropWrite sh pw stMeshUnavailable (resultOf 0xFF 2 by_) true) s
  x.queued.foldl (fun s e => s.turnDown sh none (some e.2) stMeshUnavailable 0) s

/-- Is the descriptor TAKEOVER? -/
def State.isTakeover (s : State) (sq cid : Nat) : Bool :=
  match s.runningWork sq cid with | some w => w.opcode == 0x0705 | none => false

/-- Another member holds a higher epoch: a claim in progress is over. TAKEOVER ends MESH_UNAVAILABLE; a SHARD_CONFIG goes on
with the claim of that member (R419, R421, R423). -/
def State.claimOver (s : State) (sh by_ : Nat) : State :=
  match (s.shard sh).claiming with
  | none => s
  | some c =>
    let s := s.setShard sh { s.shard sh with claiming := none }
    match c.work with
    | none => s
    | some (sq, cid) =>
      if s.isTakeover sq cid then s.finish sq cid stMeshUnavailable (resultOf 0xFF 2 by_)
      else s.setMesh { s.mesh with confs := s.mesh.confs ++ [(sh, c.epoch, sq, cid)] }

/-- Starts the reload of a shard from a member (R424, R425). -/
def State.startReload (s : State) (sh src : Nat) : State :=
  let s := s.wr .svShard_role sh 3
  let s := s.setShard sh { s.shard sh with reloaded := [], late := [] }
  s.sendTo src sh (s.rd .svShard_epoch sh) (.reload .request)

/-- A frame under a higher shard epoch (R425): the replica stops acting as primary, discards its pending writes and reloads
from the sender. -/
def State.fence (s : State) (sh src epoch : Nat) : State :=
  let s := (s.stepDown sh src).claimOver sh src
  let s := (s.shard sh).pend.reverse.foldl
    (fun s pw => s.dropWrite sh pw stMeshUnavailable (resultOf 0xFF 2 src) false) s
  let s := s.setShard sh { s.shard sh with highest := max (s.shard sh).highest epoch }
  s.startReload sh src

/-- Does a replica that serves a shard hold an epoch below this one (R425)? One that reloads goes on (log 43). -/
def State.outdated (s : State) (sh epoch : Nat) : Bool :=
  decide (s.rd .svShard_epoch sh < epoch) && (s.rd .svShard_role sh == 1 || s.rd .svShard_role sh == 2)

/-- What the primary tells the replicas when it has reconciled: pending writes that it has not re-sent are discarded, and a
replica that does not hold the shard reloads it (R419, R423; log 42). -/
def State.tellClaimed (s : State) (sh : Nat) (ds : List Nat) (settled : Bool) : State :=
  let e := s.rd .svShard_epoch sh
  ds.foldl (fun s d => s.sendTo d sh e (.membership (.claimed sh e settled))) s

/-- Steps 2 and 3 of R423: every write held with commit pending is re-sent under the new epoch and commits under R422; then
the writes that members forwarded meanwhile are taken. -/
def State.endReconcile (s : State) (sh : Nat) : State :=
  let x := s.shard sh
  let s := s.setShard sh { x with reconciling := false, queued := [] }
  let s := x.pend.foldl (fun s pw =>
    let s := s.sendWrites sh pw.num pw.w
    if s.commitK sh ≤ 1 then s.commitWrite sh pw else s) s
  let s := s.tellClaimed sh (s.others sh) true
  x.queued.foldl (fun s e => s.primaryWrite sh e.1 none (some e.2)) s

/-- Step 1 of R423: a write fetched from an acceptor is held with commit pending. -/
def State.fetchWrite (s : State) (sh : Nat) (w : TableWrite) : State :=
  let e := s.entry w.index
  if e.generation = w.generation ∧ e.live = w.live ∨ !s.writeFits w true then s
  else
    let x := s.shard sh
    let pw : PendWrite :=
      { num := x.nextNum, epoch := s.rd .svShard_epoch sh, w, old := e, accepts := [s.myId], work := none, origin := none }
    let s := s.applyWrite w sh true
    s.setShard sh { s.shard sh with nextNum := x.nextNum + 1, pend := (s.shard sh).pend ++ [pw] }

/-- A claim has its Q acceptances: this member is primary, the issuer of the configuration is told, and it reconciles (R419,
R423): it fetches what it lacks, then re-sends. -/
def State.claimWon (s : State) (sh : Nat) (c : Claiming) : State :=
  let s := (s.wr .svShard_role sh 1).wr .svShard_primary sh s.myId
  let x := s.shard sh
  let lacks := decide (c.bestSeq > x.applied) && c.best != s.myId
  let s := s.setShard sh { x with claiming := none, nextNum := max x.nextNum (c.bestSeq + 1), reconciling := lacks,
                                  holds := true, issuer := none, won := max x.won c.epoch, awaits := [],
                                  pend := x.pend.map (fun pw => { pw with accepts := [s.myId], epoch := c.epoch }) }
  let s := s.tellClaimed sh (x.issuer.toList.filter (fun d => d != s.myId)) false
  let s := if lacks then s.sendTo c.best sh c.epoch (.reload .request) else s.endReconcile sh
  match c.work with
  | some (sq, cid) =>
    match s.runningWork sq cid with
    | some w => s.complete w stOk (if w.opcode = 0x0705 then c.epoch else 0)
    | none => s
  | none => s

/-- Claims an epoch of a shard (R420): this member accepts at once and asks the other replicas; it acts as primary of no
epoch meanwhile. A descriptor that waited for an earlier claim waits for this one. -/
def State.startClaim (s : State) (sh epoch : Nat) (work : Option (Nat × Nat)) : State :=
  let x := s.shard sh
  let work := work.or (x.claiming.bind (·.work))
  let c : Claiming :=
    { epoch, accepts := [s.myId], refusals := [], bestSeq := x.applied, best := s.myId, abandoned := false, work }
  let s := ((s.wr .svShard_epoch sh epoch).wr .svShard_primary sh s.myId).wr .svShard_role sh 2
  let s := s.setShard sh { x with claiming := some c, highest := max x.highest epoch }
  let s := s.sendShard sh (.claim s.myId)
  if claimQ x.replicas.length (s.commitK sh) ≤ 1 then s.claimWon sh c else s

/-- Takes a shard's configuration over from `src` (R419). A member newly listed that is not to claim reloads the shard from
its primary, or once a claim has succeeded; one no longer listed stops acting as primary and claiming. A configuration under a
higher epoch fences a replica (R425). -/
def State.takeConfig (s : State) (src : Nat) (c : ShardConf) : State :=
  let sh := c.shard
  let listed := c.replicas.contains s.myId
  let s := if listed then s else (s.stepDown sh src).claimOver sh src
  let x := s.shard sh
  let s := s.setShard sh { x with replicas := c.replicas, highest := max x.highest c.epoch }
  let s := (s.wr .svShard_replicas sh c.replicas.length).wr .svShard_k sh c.k
  if listed && s.outdated sh c.epoch then s.fence sh src c.epoch
  else
    let s := if s.rd .svShard_epoch sh < c.epoch then
        (s.wr .svShard_epoch sh c.epoch).wr .svShard_primary sh c.primary
      else s
    if listed then
      if s.rd .svShard_role sh ≠ 0 then s
      else
        let s := (s.wr .svShard_role sh 2).setShard sh { s.shard sh with holds := false }
        let p := s.rd .svShard_primary sh
        if s.joined && s.rd .svShard_epoch sh != 0 && p != s.myId && s.liveMember p
            && c.replicas.find? s.liveMember != some s.myId then s.startReload sh p
        else s
    else s.wr .svShard_role sh 0

/-- The first live member of a shard's list, when it is this device, claims (R419, R423). One that reloads the shard does
not (R424). -/
def State.claimIfFirst (s : State) (sh epoch : Nat) (work : Option (Nat × Nat)) : State :=
  match (s.replicasOf sh).find? s.liveMember with
  | some d => if d = s.myId ∧ s.joined ∧ s.rd .svShard_role sh ≠ 3 then s.startClaim sh epoch work else s
  | none => s

/-- Shards this device holds a list of. -/
def State.shardNums (s : State) : List Nat := s.mesh.shards.map (·.1)

def State.confOf (s : State) (sh : Nat) : ShardConf :=
  { shard := sh, replicas := s.replicasOf sh, k := s.rd .svShard_k sh, epoch := s.rd .svShard_epoch sh,
    primary := s.rd .svShard_primary sh }

/-- The digest of the VT_SHARD map (R417): a free function of the map (log 42). -/
def State.shardDigest (s : State) : Nat :=
  Config.mapDigest (((List.range 256).map (fun i =>
    toLe 4 (s.rd .vtShard_base i + 4096 * s.rd .vtShard_size i))).flatten)

/-- The first live replica of each shard whose primary is lost, gone or not yet made claims the next epoch (R419, R423). -/
def State.claimHeadless (s : State) : State :=
  (s.shardNums.filter (fun sh => s.rd .svShard_role sh != 1 && !s.claims sh
      && (s.rd .svShard_epoch sh == 0 || !s.liveMember (s.rd .svShard_primary sh)))).foldl (fun s sh =>
    s.claimIfFirst sh (s.rd .svShard_epoch sh + 1) none) s

/-! ## Membership (R417, R418) -/

/-- A device joins the member list. One that has sent nothing yet counts as heard when it is added (log 42). -/
def State.addMember (s : State) (d : Nat) : State :=
  if d = s.myId ∧ s.joined then s
  else
    let p := s.peer d
    (s.setPeer d { p with member := true, joining := false, leaving := false, fresh := p.fresh || !p.member,
                          heard := if p.paths.isEmpty && !p.member then s.time else p.heard }).noteMembers

/-- Is a device a member that no JOIN of its own could come from: live, and heard as a member (R417)? -/
def State.knownLive (s : State) (d : Nat) : Bool :=
  d == s.myId && s.joined || ((s.peer d).member && !(s.peer d).lost && !(s.peer d).fresh)

/-- JOIN completes (R417 step 3): MESH_JOINED sets, every shard whose list names the member is reloaded in ascending
order (R424). -/
def State.finishJoin (s : State) (j : Joining) : State :=
  let s := s.setMesh { s.mesh with joining := none }
  let s := (s.wr .svMeshState_joined 0 1).setReady readyMesh true
  let s := (j.members ++ j.answered).foldl State.addMember s
  let s := s.noteMembers
  let s := ((List.range 256).filter (fun sh => (s.replicasOf sh).contains s.myId)).foldl (fun s sh =>
    if s.rd .svShard_primary sh != s.myId && s.liveMember (s.rd .svShard_primary sh) then
      s.startReload sh (s.rd .svShard_primary sh)
    else s.claimIfFirst sh (s.rd .svShard_epoch sh + 1) none) s
  s.finish j.work.1 j.work.2 stOk (s.rd .svMeshState_members)

/-- JOIN fails and the device stays unjoined. -/
def State.failJoin (s : State) (j : Joining) (status result : Nat) : State :=
  let s := s.setMesh { s.mesh with
    joining := none, peers := s.mesh.peers.map (fun e => (e.1, { e.2 with joining := false })) }
  (s.wr .svMeshState_deviceId 0 0).finish j.work.1 j.work.2 status result

/-- Pending writes of an earlier epoch that the new primary has not re-sent are discarded (R423 step 4): it re-sends before
it commits or sends anything new. -/
def State.dropStale (s : State) (sh epoch : Nat) : State :=
  let x := s.shard sh
  let s := s.setShard sh { x with pend := x.pend.filter (fun pw => pw.epoch == epoch) }
  (x.pend.filter (fun pw => pw.epoch != epoch)).reverse.foldl (fun s pw => s.undoWrite pw.w.index pw.old) s

/-- A claim has succeeded (R419, R423 step 4): the primary has re-sent what it holds, so what it has not re-sent is discarded;
a replica that does not hold the shard reloads it. -/
def State.onClaimed (s : State) (src sh epoch : Nat) (settled : Bool) : State :=
  let listed := s.rd .svShard_role sh != 0
  let s := s.setShard sh { s.shard sh with won := max (s.shard sh).won epoch }
  if !settled || !listed then s
  else if s.outdated sh epoch then s.fence sh src epoch
  else if s.rd .svShard_role sh != 2 || s.rd .svShard_epoch sh != epoch || s.rd .svShard_primary sh != src then s
  else
    let s := s.dropStale sh epoch
    if (s.shard sh).holds then s else s.startReload sh src

/-- A MEMBERSHIP frame (R412, R417, R418, R419). -/
def State.onMembership (s : State) (f : FrameHdr) (b : MemberBody) : State :=
  match b with
  | .join peers digest =>
    let mine := s.joined
      || (match s.mesh.joining with | some j => j.peers.contains f.src && peers.contains s.myId | none => false)
    if !mine then s
    else
      -- the list names the joiner only where another member holds its ID; it is announced where its ID is free and its map agrees
      let free := !s.knownLive f.src
      let mem := if s.joined then s.myId :: s.members.filter (fun d => d != f.src || !free) else []
      let s := s.sendTo f.src 0 0 (.membership (.answer mem s.shardDigest (s.shardNums.map s.confOf)))
      if s.joined && digest == s.shardDigest && free then
        let s := (s.members.filter (fun d => d != f.src)).foldl (fun s d => s.sendTo d 0 0 (.membership (.announce f.src))) s
        s.addMember f.src
      else s
  | .answer members digest shards =>
    match s.mesh.joining with
    | none => s
    | some j =>
      if members.contains s.myId then s.failJoin j stMeshUnavailable (resultOf 0xFF 1 s.myId)
      else if digest ≠ s.shardDigest then s.failJoin j stMeshUnavailable (resultOf 0xFF 1 f.src)
      else
        let all := (j.members ++ members ++ [f.src]).eraseDups
        if all.length + 1 > 1024 then s.failJoin j stMeshUnavailable (resultOf 0xFF 1 s.myId)
        else
          let j := { j with answered := (j.answered ++ [f.src]).eraseDups, members := all,
                            firstAt := some (j.firstAt.getD s.time) }
          let s := shards.foldl (fun s c => s.takeConfig f.src c) s
          let s := s.setMesh { s.mesh with joining := some j }
          if j.peers.all (fun d => j.answered.contains d) then s.finishJoin j else s
  | .announce d => s.addMember d
  | .leave => (s.setPeer f.src { s.peer f.src with member := false, joining := false }).noteMembers.claimHeadless
  | .config c =>
    let s := s.takeConfig f.src c
    let s := s.setShard c.shard { s.shard c.shard with issuer := some f.src }
    s.claimIfFirst c.shard (s.rd .svShard_epoch c.shard + 1) none
  | .claimed sh epoch settled => s.onClaimed f.src sh epoch settled

/-! ## Writes, claims and reload at a replica (R420-R425) -/

/-- The frame comes from the primary, under the epoch held. -/
def State.fromPrimary (s : State) (f : FrameHdr) : Bool :=
  f.epoch == s.rd .svShard_epoch f.shard && f.src == s.rd .svShard_primary f.shard

/-- A write a replica accepts (R420): one re-sent under a new epoch is the one it holds; any other is applied. -/
def State.acceptWrite (s : State) (f : FrameHdr) (num : Nat) (w : TableWrite) : State :=
  let sh := f.shard
  let x := s.shard sh
  let s := match x.pend.find? (fun pw => pw.epoch != f.epoch && decide (pw.w = w)) with
    | some pw =>
      s.setShard sh { x with pend := x.pend.map (fun q => if q = pw then { pw with num, epoch := f.epoch } else q) }
    | none =>
      let s := s.dropStale sh f.epoch
      let pw : PendWrite := { num, epoch := f.epoch, w, old := s.entry w.index, accepts := [], work := none, origin := none }
      let s := (s.noteAlloc sh w).applyWrite w sh true
      s.setShard sh { s.shard sh with pend := (s.shard sh).pend ++ [pw] }
  let y := s.shard sh
  (s.setShard sh { y with nextNum := max y.nextNum (num + 1), applied := max y.applied num }).sendTo f.src sh f.epoch
    (.shardReply true f.epoch)

/-- What follows a write during a reload: its commit, or its abort (R424). -/
def settleLate (commit : Bool) (i : Nat) : List (Nat × TableWrite × Bool) → List (Nat × TableWrite × Bool)
  | [] => []
  | e :: es =>
    if e.2.1.index = i ∧ e.2.2 = false then if commit then (e.1, e.2.1, true) :: es else es
    else e :: settleLate commit i es

/-- A SHARD_WRITE frame (R420, R422, R424, R425). -/
def State.onShardWrite (s : State) (f : FrameHdr) (b : ShardBody) : State :=
  let sh := f.shard
  let refuse := fun (s : State) =>
    s.sendTo f.src sh (s.rd .svShard_epoch sh) (.shardReply false (s.rd .svShard_epoch sh))
  let reloading := s.rd .svShard_role sh = 3
  let late := fun (l : List (Nat × TableWrite × Bool)) => s.setShard sh { s.shard sh with late := l }
  match b with
  | .write num w =>
    -- while it reloads, a replica neither accepts a write nor refuses it
    if reloading then late ((s.shard sh).late ++ [(num, w, false)])
    else if s.outdated sh f.epoch then (refuse s).fence sh f.src f.epoch
    else if s.fromPrimary f ∧ s.rd .svShard_role sh = 2 ∧ s.writeFits w true then s.acceptWrite f num w
    else refuse s
  | .commit i =>
    if reloading then late (settleLate true i (s.shard sh).late)
    else if s.outdated sh f.epoch then s.fence sh f.src f.epoch
    else if !s.fromPrimary f then s
    else
      let s := s.dropStale sh f.epoch
      let x := s.shard sh
      match x.pend.find? (fun pw => pw.w.index == i) with
      | some pw => (s.setShard sh { x with pend := x.pend.erase pw }).settleWrite i pw.old
      | none => if (s.entry i).pend then (s.setPend i false).staleSess i else s
  | .abort i =>
    if reloading then late (settleLate false i (s.shard sh).late)
    else if s.outdated sh f.epoch then s.fence sh f.src f.epoch
    else if !s.fromPrimary f then s
    else
      let x := s.shard sh
      match x.pend.find? (fun pw => pw.w.index == i) with
      | some pw => (s.setShard sh { x with pend := x.pend.erase pw }).undoWrite i pw.old
      | none => s

/-- A reply at the primary: to the oldest write that the replica has not replied to, if that is still uncommitted (R422). -/
def State.writeReplied (s : State) (sh d : Nat) (accept : Bool) : State :=
  let x := s.shard sh
  match x.awaits.find? (fun e => e.1 == d) with
  | none => s
  | some e =>
    let s := s.setShard sh { x with awaits := x.awaits.erase e }
    match x.pend.find? (fun pw => pw.num == e.2) with
    | none => s
    | some pw =>
      if s.rd .svShard_role sh ≠ 1 then s
      else if accept then
        let pw' := { pw with accepts := pw.accepts ++ [d] }
        let s := s.setShard sh { s.shard sh with pend := x.pend.map (fun q => if q.num = pw.num then pw' else q) }
        if pw'.accepts.length ≥ s.commitK sh then s.commitWrite sh pw' else s
      else s.dropWrite sh pw stMeshUnavailable (resultOf 0xFF 2 d) true

/-- A SHARD_REPLY frame: at the primary, an accept or a refusal; at a forwarder, the outcome of its forwarded write (R421,
R422). An epoch above the own one fences this replica (R425). -/
def State.onShardReply (s : State) (f : FrameHdr) (accept : Bool) (held : Nat) : State :=
  let sh := f.shard
  let epoch := if accept then f.epoch else max f.epoch held
  match s.mesh.forwarded.find? (fun e => e.1 == sh && f.src == s.rd .svShard_primary sh && !s.isPrimary sh) with
  | some e =>
    let s := s.setMesh { s.mesh with forwarded := s.mesh.forwarded.erase e }
    let (sq, cid, r) := e.2.2
    let s := if accept then s.endWrite sq cid stOk r else s.endWrite sq cid stMeshUnavailable (resultOf 0xFF 2 f.src)
    if s.outdated sh epoch then s.fence sh f.src epoch else s
  | none => if s.outdated sh epoch then s.fence sh f.src epoch else s.writeReplied sh f.src accept

/-- A FORWARD frame at the primary (R422 step 1, R423, R425). -/
def State.onForward (s : State) (f : FrameHdr) (w : TableWrite) : State :=
  let sh := f.shard
  let refuse := fun (s : State) =>
    s.sendTo f.src sh (s.rd .svShard_epoch sh) (.shardReply false (s.rd .svShard_epoch sh))
  if s.outdated sh f.epoch then (refuse s).fence sh f.src f.epoch
  else if s.rd .svShard_role sh ≠ 1 then refuse s
  else if (s.shard sh).reconciling then s.setShard sh { s.shard sh with queued := (s.shard sh).queued ++ [(w, f.src)] }
  else s.primaryWrite sh w none (some f.src)

/-- A CLAIM frame (R420, R421). A replica that reloads counts towards no claim (R424), and one that the list does not name is
none: both refuse. -/
def State.onClaim (s : State) (f : FrameHdr) (c : Nat) : State :=
  let sh := f.shard
  let held := s.rd .svShard_epoch sh
  let role := s.rd .svShard_role sh
  if (role = 1 ∨ role = 2) ∧ (held < f.epoch ∨ (held = f.epoch ∧ s.rd .svShard_primary sh = c)) then
    let s := if held < f.epoch then (s.stepDown sh f.src).claimOver sh f.src else s
    let s := (s.wr .svShard_epoch sh f.epoch).wr .svShard_primary sh c
    let s := s.setShard sh { s.shard sh with highest := max (s.shard sh).highest f.epoch }
    s.sendTo f.src sh f.epoch (.claimReply true (s.shard sh).applied)
  else s.sendTo f.src sh held (.claimReply false held)

/-- A claim of this member is refused by `d` (R420, R421): n − Q + 1 refusals end it, and with it TAKEOVER (R423); under an
epoch above its own the member stops acting as primary. -/
def State.claimRefused (s : State) (sh d value : Nat) : State :=
  let x := s.shard sh
  match x.claiming with
  | none => s
  | some c =>
    let x := { x with highest := max x.highest value }
    let c := { c with refusals := (c.refusals ++ [d]).eraseDups }
    let ends := decide (c.refusals.length ≥ x.replicas.length - claimQ x.replicas.length (s.commitK sh) + 1)
    let take := ends && c.work.any (fun k => s.isTakeover k.1 k.2)
    let s := s.setShard sh { x with claiming := some { c with abandoned := c.abandoned || ends,
                                                              work := if take then none else c.work } }
    let s := match take, c.work with
      | true, some (sq, cid) => s.finish sq cid stMeshUnavailable (resultOf 0xFF 2 d)
      | _, _ => s
    if s.rd .svShard_epoch sh < value then s.stepDown sh d else s

/-- A CLAIM_REPLY frame (R420): Q accepts of listed replicas win. A refusal that no claim in progress waits for fences this
replica where its epoch is the higher (R425). -/
def State.onClaimReply (s : State) (f : FrameHdr) (accept : Bool) (value : Nat) : State :=
  let sh := f.shard
  let x := s.shard sh
  let epoch := if accept then f.epoch else max f.epoch value
  match x.claiming.filter (fun c => !c.abandoned && x.replicas.contains f.src && (!accept || f.epoch == c.epoch)) with
  | none => if s.outdated sh epoch then s.fence sh f.src epoch else s
  | some c =>
    if accept then
      let c := { c with accepts := (c.accepts ++ [f.src]).eraseDups,
                        bestSeq := max c.bestSeq value, best := if value > c.bestSeq then f.src else c.best }
      if (c.accepts.filter x.replicas.contains).length ≥ claimQ x.replicas.length (s.commitK sh) then s.claimWon sh c
      else s.setShard sh { x with claiming := some c }
    else s.claimRefused sh f.src value

/-- A table write that leaves an index as `e` is. -/
def entryWrite (i : Nat) (e : Entry) : TableWrite :=
  { index := i, live := e.live, generation := e.generation, tenant := e.tenant, keyType := e.keyType,
    usage := e.usage, nonceSalt := e.nonceSalt, created := e.created, expiry := e.expiry,
    material := if e.live then e.material else [] }

/-- An entry of a shard without the writes of it that are not committed. -/
def State.committed (s : State) (sh i : Nat) : Entry :=
  match (s.shard sh).pend.find? (fun pw => pw.w.index == i) with
  | some pw => pw.old
  | none => s.entry i

/-- What a member sends of a shard: every index whose stored generation is not 0 (R424). The primary sends what is committed;
an acceptor that a new primary fetches from sends what it has applied (R423). -/
def State.reloadBatch (s : State) (sh : Nat) (committed : Bool) : List TableWrite :=
  let view := fun (i : Nat) => if committed then s.committed sh i else s.entry i
  ((s.vault.entries.filter (fun e => s.shardOf e.1 == some sh && (view e.1).generation != 0)).map (fun e =>
    entryWrite e.1 (view e.1)))

/-- The batches of a reload, in index order, one frame each; then the writes not committed yet, which the replica is to accept
like any other (R422, R424). -/
def State.sendReload (s : State) (sh d : Nat) : State :=
  let x := s.shard sh
  let primary := s.rd .svShard_role sh == 1
  let bs := s.batches (s.reloadBatch sh primary) x.applied
  let s := bs.zipIdx.foldl (fun s e =>
    s.sendTo d sh (s.rd .svShard_epoch sh) (.reload (.batch e.1 x.applied (e.2 + 1 == bs.length)))) s
  if primary then
    let s := s.setShard sh { x with awaits := x.awaits.filter (fun e => e.1 != d) }
    x.pend.foldl (fun s pw => s.sendWrite sh d pw.num pw.w) s
  else s

/-- One write received during a reload, after the batch that covers its index: settled if it has committed, else held with
commit pending (R424). -/
def State.applyLate (s : State) (sh : Nat) (e : Nat × TableWrite × Bool) : State :=
  if !s.writeFollows e.2.1 then s
  else if e.2.2 then s.applyWrite e.2.1 sh false
  else
    let pw : PendWrite := { num := e.1, epoch := s.rd .svShard_epoch sh, w := e.2.1, old := s.entry e.2.1.index,
                            accepts := [], work := none, origin := none }
    let s := s.applyWrite e.2.1 sh true
    s.setShard sh { s.shard sh with pend := (s.shard sh).pend ++ [pw] }

/-- The end of a reload (R424): every index not received is free with generation 0, the writes received meanwhile are applied
in order, and the replica serves again. -/
def State.endReload (s : State) (sh applied : Nat) : State :=
  let x := s.shard sh
  let gone := (s.vault.entries.filter (fun e => s.shardOf e.1 == some sh && !x.reloaded.contains e.1)).map (·.1)
  let s := gone.foldl (fun s i =>
    let e := s.entry i
    ((s.zeroRun e).storeEntry i { entryDefault i with epoch := s.epochNow, writeCount := e.writeCount + 1 }).staleSess i) s
  let s := s.setShard sh { s.shard sh with pend := [] }
  let s := x.late.foldl (fun s e => s.applyLate sh e) s
  let top := (x.late.map (·.1)).foldl max applied
  (s.noteLive.wr .svShard_role sh 2).setShard sh
    { s.shard sh with reloaded := [], late := [], holds := true, applied := top, nextNum := top + 1 }

/-- A RELOAD frame (R423 step 1, R424, R425). Only a primary answers a request, and an acceptor that the new primary fetches
from. -/
def State.onReload (s : State) (f : FrameHdr) (b : ReloadBody) : State :=
  let sh := f.shard
  let role := s.rd .svShard_role sh
  let held := s.rd .svShard_epoch sh
  match b with
  | .request =>
    let refuse := fun (s : State) => s.sendTo f.src sh held (.reload (.refuse held (s.rd .svShard_primary sh)))
    if s.outdated sh f.epoch then (refuse s).fence sh f.src f.epoch
    else if role = 1 ∨ (s.shard sh).applied > 0 ∧ role = 2 ∧ s.rd .svShard_primary sh = f.src then s.sendReload sh f.src
    else refuse s
  | .refuse e holder =>
    if s.outdated sh (max f.epoch e) then s.fence sh f.src (max f.epoch e)
    else if role = 3 ∧ holder ≠ s.myId then s.sendTo holder sh held (.reload .request)
    else s
  | .batch entries applied last =>
    if s.outdated sh f.epoch then s.fence sh f.src f.epoch
    else if role = 1 ∧ (s.shard sh).reconciling then
      let s := entries.foldl (fun s w => s.fetchWrite sh w) s
      if last then s.endReconcile sh else s
    else if role = 3 ∧ held ≤ f.epoch then
      let s := (s.wr .svShard_epoch sh f.epoch).wr .svShard_primary sh f.src
      let s := entries.foldl (fun s w => s.applyWrite w sh false) s
      let s := s.setShard sh { s.shard sh with reloaded := (s.shard sh).reloaded ++ entries.map (·.index) }
      if last then s.endReload sh applied else s
    else s

/-! ## Hand-off of sessions (R148) -/

/-- A HANDOFF frame: the peer installs the context active for the same tenant and answers with its reference. The source
link is kept only by a replica of the entry's shard. -/
def State.onHandoff (s : State) (f : FrameHdr) (m : SessionImage) : State :=
  match s.freeCtx with
  | none => s
  | some i =>
    let linked := match m.source with
      | some (ix, g) =>
        (match s.shardOf ix with
         | some sh => if (s.replicasOf sh).contains s.myId then some (ix, g) else none
         | none => none)
      | none => none
    let x : Sess :=
      { isOpen := true, gen := (s.sess i).gen, tenant := m.tenant, chacha := m.chacha, opening := m.opening,
        dataPhase := m.dataPhase, ended := m.aad.length % 64 != 0 || m.text.length % 64 != 0, nonce := m.nonce,
        key := m.key, aad := m.aad, text := m.text,
        source := linked, migrating := none }
    (s.putSess i x).sendTo f.src 0 0 (.handoffReply (sessRef i x))

/-- The context handed to peer `d` in the frame `seq`, with the MIGRATE that waits for it. -/
def State.handingOff (s : State) (d seq : Nat) : Option (Nat × Nat × Nat) :=
  s.vault.sessions.findSome? (fun e => match e.2.migrating with
    | some (sq, cid, p, q) => if p = d ∧ q = seq then some (e.1, sq, cid) else none
    | none => none)

/-- The hand-off to a peer that is not answered: HANDOFF_REPLY names no session, so a device hands one at a time to a peer
(R412; log 37). -/
def State.openHandoff (s : State) (d : Nat) : Option Nat :=
  s.vault.sessions.findSome? (fun e => match e.2.migrating with
    | some (_, _, p, q) => if p = d then some q else none
    | none => none)

/-- A HANDOFF_REPLY (R148 step 4): the local context is freed and MIGRATE completes with the peer's reference. A reply of a
peer that had not received the hand-off frame when it sent it answers an earlier one, which has ended. -/
def State.onHandoffReply (s : State) (f : FrameHdr) (reference : Nat) : State :=
  match ((s.openHandoff f.src).filter (fun q => decide (q ≤ f.ack))).bind (s.handingOff f.src) with
  | some (i, sq, cid) => (s.handedOff i).finish sq cid stOk reference
  | none => s

/-- A hand-off ends with no peer copy known (R148 step 5). -/
def State.endHandoff (s : State) (d seq : Nat) : State :=
  match s.handingOff d seq with
  | some (i, sq, cid) => (s.handedOff i).finish sq cid stMeshUnavailable (resultOf 0xFF 3 d)
  | none => s

/-! ## Timers (R414, R417, R418, R420) -/

/-- A peer is lost (R418): one record with its ID as origin, health bit 5, its hand-offs end, its shards are claimed. -/
def State.peerLost (s : State) (d : Nat) : State :=
  let p := s.peer d
  if !p.member || p.lost then s
  else
    let ports := maskOf 4 (fun i => p.paths.any (fun e => e.1 == i))
    let s := s.setPeer d { p with lost := true, paths := [] }
    let s := (s.count .svMeshState_lost).notePaths
    let s := s.report (0x0800 + d) 0x0B 2 ports (repSv (d % 4))
    let s := s.vault.sessions.foldl (fun s e => match e.2.migrating with
      | some (_, _, q, seq) => if q = d then s.endHandoff d seq else s
      | none => s) s
    let gone := s.mesh.forwarded.filter (fun e => s.rd .svShard_primary e.1 == d)
    let s := s.setMesh { s.mesh with forwarded := s.mesh.forwarded.filter (fun e => s.rd .svShard_primary e.1 != d) }
    (gone.foldl (fun s e => s.endWrite e.2.2.1 e.2.2.2.1 stMeshUnavailable (resultOf 0xFF 3 d)) s).claimHeadless

/-- No answer comes to a RELOAD: a new primary gives its claim up; a replica that reloads asks the next live one (R423,
R424; log 43). -/
def State.reloadLost (s : State) (sh d : Nat) : State :=
  if s.rd .svShard_role sh = 3 then
    match (s.others sh).find? (fun q => q != d && s.liveMember q) with
    | some q => s.sendTo q sh (s.rd .svShard_epoch sh) (.reload .request)
    | none => s
  else if (s.shard sh).reconciling then
    let c : Claiming := { epoch := s.rd .svShard_epoch sh, accepts := [], refusals := [d], bestSeq := 0, best := s.myId,
                          abandoned := true, work := none }
    let s := s.stepDown sh d
    s.setShard sh { s.shard sh with claiming := some c }
  else s

/-- The SHARD_CONFIG of a shard whose configuration does not reach a replica ends (R414, R419). -/
def State.configLost (s : State) (sh retry : Nat) : State :=
  let mine := (s.mesh.confs.filter (fun e => e.1 == sh)).map (fun e => e.2.2)
    ++ ((s.shard sh).claiming.bind (·.work)).toList.filter (fun k => !s.isTakeover k.1 k.2)
  let s := s.setMesh { s.mesh with confs := s.mesh.confs.filter (fun e => e.1 != sh) }
  let s := s.setShard sh { s.shard sh with claiming := (s.shard sh).claiming.map (fun c =>
    { c with work := c.work.filter (fun k => s.isTakeover k.1 k.2) }) }
  mine.foldl (fun s k => s.finish k.1 k.2 stRetryExhausted retry) s

/-- The operation an exhausted frame carried ends (R414, R422 step 5, R148 step 5). A JOIN has its own bounds (R417); a claim
counts the member as one that refuses (log 43). -/
def State.frameExhausted (s : State) (d : Nat) (f : TxFrame) : State :=
  let retry := resultOf 0xFF 2 (0x400 + f.port)
  match f.body with
  | .handoff _ => s.endHandoff d f.seq
  | .claim _ => if s.claims f.shard then s.claimRefused f.shard d 0 else s
  | .membership (.config c) => s.configLost c.shard retry
  | .reload .request => s.reloadLost f.shard d
  | .shardWrite (.write n _) =>
    let s := s.setShard f.shard { s.shard f.shard with awaits := (s.shard f.shard).awaits.erase (d, n) }
    match (s.shard f.shard).pend.find? (fun pw => pw.num == n) with
    | some pw => if s.rd .svShard_role f.shard = 1 then s.dropWrite f.shard pw stRetryExhausted retry true else s
    | none => s
  | .forward w =>
    match s.mesh.forwarded.find? (fun e => e.1 == f.shard && e.2.1 == w.index) with
    | some e =>
      (s.setMesh { s.mesh with forwarded := s.mesh.forwarded.erase e }).endWrite e.2.2.1 e.2.2.2.1 stRetryExhausted retry
    | none => s
  | _ => s

/-- The sequences of a pair begin again (R414): what is not acknowledged is numbered from 1, in order, and sent again. -/
def State.restartPair (s : State) (d : Nat) : State :=
  let p := s.peer d
  let n := p.txSeq - p.unacked.length
  let s := s.setPeer d { p with unacked := p.unacked.zipIdx.map (fun e => { e.1 with seq := e.2 + 1, sends := 0 }),
                                txSeq := p.unacked.length, rxSeq := 0 }
  let s := s.setVault { s.vault with sessions := s.vault.sessions.map (fun e => (e.1, { e.2 with
    migrating := e.2.migrating.map (fun m => if m.2.2.1 = d then (m.1, m.2.1, d, m.2.2.2 - n) else m) })) }
  s.sendWaiting d

/-- A pair whose peer has started anew: the operations that its unacknowledged frames carried end (log 43). -/
def State.forgetPair (s : State) (d : Nat) : State :=
  let p := s.peer d
  p.unacked.foldl (fun s f => s.frameExhausted d f) (s.setPeer d { p with unacked := [], txSeq := 0, rxSeq := 0 })

/-- Is a frame due to be resent: 100 µs have passed since it was last sent (R414)? RETRANSMIT_TIMER says so of the frame that
was last sent longest ago. -/
def State.resendDue (s : State) (d : Nat) (f : TxFrame) : Bool :=
  decide (f.sends ≠ 0) && (decide (f.at_ + 100000 ≤ s.time)
    || (s.peer d).unacked.all (fun g => g.sends == 0 || decide (f.at_ ≤ g.at_)))

/-- Resends one frame on the path that is live now, an event of the port it was first sent on (R414); one without a path has
had its turn. -/
def State.resend (s : State) (d : Nat) (k : Nat) (g : TxFrame) : State :=
  let f := { g with resent := true, sends := g.sends + 1, at_ := s.time }
  let p := s.peer d
  let s := s.setPeer d { p with unacked := p.unacked.set k f }
  match s.portFor d with
  | none => s
  | some port =>
    ((s.count .svPortErr_retx (g.port % 4)).bucketEvent (0x400 + g.port % 4) 1).putFrame { f with port }

/-- A frame that has had its 16 retransmissions: it ends its operation, is an event of weight 256 (R433), and is reported
(R414). -/
def State.exhaust (s : State) (d : Nat) (g : TxFrame) : State :=
  let s := s.placedEvent (0x400 + g.port % 4) 0x03 d 256
  (s.report (0x400 + g.port % 4) 0x03 3 16 (repSv (g.port % 4))).frameExhausted d g

/-- Every unacknowledged frame to a peer that is due is resent, in order (R414); frames that have had their 16 retransmissions
end their operations and reset the pair's sequences. -/
def State.retransmit (s : State) (d : Nat) : State :=
  let p := s.peer d
  let dead := p.unacked.filter (fun f => s.resendDue d f && decide (f.sends ≥ 17))
  if dead.isEmpty then
    (p.unacked.zipIdx.filter (fun e => s.resendDue d e.1)).foldl (fun s e => s.resend d e.2 e.1) (s.sendWaiting d)
  else
    let s := s.setPeer d { p with unacked := p.unacked.filter (fun f => !dead.contains f),
                                  leaving := p.leaving && dead.length != p.unacked.length }
    (dead.foldl (fun s g => s.exhaust d g) s).restartPair d

/-- An ACK frame for what a peer has sent, when no reverse frame has carried the ack (R414). -/
def State.ackTimer (s : State) (d : Nat) : State :=
  let p := s.peer d
  if !p.ackOwed then s
  else match s.portFor d with
    | some port => s.putFrame { s.newFrame d 0 0 0 .ack with port, sends := 1, at_ := s.time }
    | none => s

/-- KEEPALIVE on every port in service, every 50 µs (R418). -/
def State.keepaliveTimer (s : State) : State :=
  if s.joined then s.sendGroup (.keepalive s.time s.portsUp.length) else s

/-- 10 ms after the first answer, or with none (R417). -/
def State.joinTimeout (s : State) : State :=
  match s.mesh.joining with
  | none => s
  | some j => if j.answered.isEmpty then s.failJoin j stTimeout (resultOf 0xFF 2 0) else s.finishJoin j

/-- An abandoned claimant claims again, above the highest epoch it has seen (R420). -/
def State.claimRetry (s : State) (sh : Nat) : State :=
  match (s.shard sh).claiming with
  | some c => if c.abandoned then s.startClaim sh ((s.shard sh).highest + 1) c.work else s
  | none => s

/-- Leaves the mesh (R418): MESH_JOINED clears, every shard role ends. A peer is heard until it has acknowledged the leave
frame. -/
def State.leaveMesh (s : State) : State :=
  let s := s.members.foldl (fun s d => s.sendTo d 0 0 (.membership .leave)) s
  let s := s.shardNums.foldl (fun s sh => s.wr .svShard_role sh 0) s
  let s := s.setMesh { s.mesh with peers := s.mesh.peers.map (fun e => (e.1, { e.2 with
    member := false, leaving := e.2.member && !e.2.unacked.isEmpty })) }
  let s := s.setMesh { s.mesh with shards := [], joining := none, forwarded := [] }
  let s := (s.wr .svMeshState_joined 0 0).wr .svMeshState_members 0 0
  s.setReady readyMesh false

end Sys2Proof.Machine
end

