-- ==== Sys2Proof/Machine/MeshPorts.lean ====
section
/-! DEFINITION. Selvage ports and lanes: start, link, bit-error windows, retirement, renegotiation (R408, R415, R416, R427). -/

namespace Sys2Proof.Machine

open Sys2Proof

/-- Is the port gated by CLK_GATE? -/
def State.portGated (s : State) (p : Nat) : Bool := !bitOf (s.rd .clkGate_sv) p

/-- SELVAGE_SVp follows link and key (R416). -/
def State.notePort (s : State) (p : Nat) : State := (s.setReady (readySv p) (s.portUp p)).notePaths

/-- The SAK and the AN of a mesh key (R415): HKDF-SHA-512 with 32 zero bytes of salt, over "selvage-sak" and its number. -/
def sakOf (key : List Byte) (number : Nat) : List Byte × Nat :=
  (bytesOf (Hash.hkdf .sha512 (natsOf key) (zeros 32)
    ([115, 101, 108, 118, 97, 103, 101, 45, 115, 97, 107] ++ toLe 4 number) 32), number % 4)

/-- A port's island starts: the SAK of the mesh key held now is installed, and its packet numbers begin (R415, R416). -/
def State.startPort (s : State) (p : Nat) : State :=
  let m := s.mesh
  let s := s.setMesh { m with sak := m.sak.filter (fun e => e.1 != p) ++ (m.key.map (fun k => (p, sakOf k.1 k.2))).toList,
                              txPn := m.txPn.filter (fun e => e.1 != p), rxPn := m.rxPn.filter (fun e => e.1 % 4 != p) }
  (s.wr .svPortState_keyed p (b2n m.key.isSome)).notePort p

/-- A lane of the port is retired. -/
def State.laneOut (s : State) (p l : Nat) : Bool := bitOf (s.rd .svPortState_laneRetired p) l

/-- The link of a port comes up on two lanes or on four. -/
def State.portLink (s : State) (p : Nat) (up : Bool) (lanes : Nat) : State :=
  ((s.wr .svPortState_linkUp p (b2n up)).wr .svPortState_lanes p (if up then lanes else 0)).notePort p

/-- The exponent of the floor, one more in the MARGIN profile (R427). -/
def State.berExp (s : State) : Nat := max 1 (s.rd .svBerFloor_negExp) + b2n (s.rd .globalProfile_active == 2)

/-- A BER window begins: it keeps its floor to its end, so a profile's floor applies from the next window (R449, step 6). -/
def State.berBegins (s : State) (p : Nat) : State :=
  s.setMesh { s.mesh with berExps := Store.put (fun _ => 0) s.mesh.berExps p s.berExp }

/-- SV_LINK_UP (R408, R416): a port that has started, is in use and is not retired. Auto-negotiation gives the 200 Gb/s type
on four lanes, or the 100 Gb/s type on two where that is permitted, which is all that is left with a lane retired. -/
def actSvLinkUp (p : Nat) (hundred : Bool) (s : State) : Host.Outcome State Fault Refusal :=
  let two := hundred || s.rd .svPortState_laneRetired p != 0
  if p < 4 && s.locked && s.flag .svPortCtrl_enable p && !s.flag .svPortState_retired p && !s.portGated p
      && !s.mesh.reneg.contains p && s.clocked && (!two || s.flag .svPortCtrl_allow100g p) then
    .next ((s.portLink p true (if two then 1 else 2)).berBegins p)
  else .next s

/-- SV_LINK_DOWN (R41): the bit clears, its paths stop being live. -/
def actSvLinkDown (p : Nat) (s : State) : Host.Outcome State Fault Refusal :=
  if p < 4 && s.flag .svPortState_linkUp p && s.clocked then .next (s.portLink p false 0) else .next s

/-- A retired port (R427): squelched, its bit clear. -/
def State.retirePort (s : State) (p : Nat) : State :=
  let s := s.setMesh { s.mesh with reneg := s.mesh.reneg.filter (fun q => q != p) }
  (s.wr .svPortState_retired p 1).portLink p false 0

/-- The port renegotiates (R427): its link is down meanwhile. -/
def State.renegotiate (s : State) (p : Nat) : State :=
  let s := s.setMesh { s.mesh with reneg := s.mesh.reneg.filter (fun q => q != p) ++ [p] }
  s.portLink p false 0

/-- Does the port lose both lane pairs, or is 100 Gb/s not permitted, with these lanes retired (R427)? -/
def State.portLost (s : State) (p : Nat) : Bool :=
  let pair := fun (i : Nat) => s.laneOut p (2 * i) || s.laneOut p (2 * i + 1)
  (pair 0 && pair 1) || !s.flag .svPortCtrl_allow100g p

/-- A retired lane: the port goes on with the other pair, or is lost (shown as true). -/
def State.retireLane (s : State) (p l : Nat) : State × Bool :=
  let s := s.wr .svPortState_laneRetired p (withBit (s.rd .svPortState_laneRetired p) l true)
  if s.portLost p then (s, true) else (s.renegotiate p, false)

/-- Is a lane over floor: its corrected bits against the 53,125,000,000 bits that R408's signalling rate gives a window of one
second? -/
def State.overFloor (s : State) (p corrected : Nat) : Bool :=
  decide (53125000000 < corrected * 10 ^ (Store.get (fun _ => 0) s.mesh.berExps p))

/-- One lane's window. -/
def State.laneWindow (s : State) (p l corrected : Nat) : State :=
  let k := 4 * p + l
  let n := if s.overFloor p corrected then min 15 (s.rd .svLaneBer_over k + 1) else 0
  let s := (s.wr .svLaneBer_corrected k (min corrected (2 ^ 32 - 1))).wr .svLaneBer_over k n
  if n ≥ max 1 (s.rd .svBerFloor_windows) && !s.laneOut p l then s.latch (0x410 + k) 4 else s

/-- BER_WINDOW_END (R427): the four lanes of a port whose link is up, and the codewords of the window that FEC could not
correct (log 45). -/
def actBerWindowEnd (p : Nat) (corrected : List Nat) (uncorrected : Nat) (s : State) : Host.Outcome State Fault Refusal :=
  if p < 4 && s.flag .svPortState_linkUp p && s.clocked then
    .next (((s.countSat .svPortErr_fecUncorr p uncorrected).each 4 (fun l s =>
      if s.laneOut p l then s else s.laneWindow p l (corrected.getD l 0))).berBegins p)
  else .next s

/-- RENEGOTIATION_DONE (R427): the port serves again at 100 Gb/s, or its third failure within one second makes it
permanent. -/
def actRenegotiationDone (p : Nat) (ok : Bool) (s : State) : Host.Outcome State Fault Refusal :=
  if !s.mesh.reneg.contains p || !s.clocked then .next s
  else if ok then
    let s := s.setMesh { s.mesh with reneg := s.mesh.reneg.filter (fun q => q != p) }
    .next ((s.portLink p true 1).berBegins p)
  else
    let mine := s.mesh.renegFail.filter (fun e => e.1 == p && decide (s.time < e.2 + 1000000000))
    let s := s.setMesh { s.mesh with renegFail := s.mesh.renegFail.filter (fun e => e.1 != p) ++ mine ++ [(p, s.time)] }
    if mine.length ≥ 2 then .next (s.latch (0x400 + p) 1) else .next s

end Sys2Proof.Machine
end

