-- ==== Sys2Proof/WellFormed.lean ====
section
/-! DEFINITION. Which commands are well formed: every operand in the range the spec gives it. The step checks none of this:
a meaning is total, and an operand no agent can send leaves the state as it is. -/

namespace Sys2Proof

/-- A function of the device: PF0, or a VF from 1 to 255 (R26). -/
def fnOk (fn : Nat) : Bool := decide (fn ≤ 255)

/-- A submission or completion queue (R50). -/
def ringOk (n : Nat) : Bool := decide (n < 4096)

/-- An engine: N00 to N63, or the Fitter's as 64 (R15, R428). -/
def engineOk (n : Nat) : Bool := decide (n ≤ 64)

/-- A Stitch pipeline (R157). -/
def pipeOk (p : Nat) : Bool := decide (p < 16)

/-- A DDR5 channel, a rank (R387, R390). -/
def chanOk (c : Nat) : Bool := decide (c < 8)
def rankOk (r : Nat) : Bool := decide (r < 4)

/-- A Selvage port; a device ID (R409, R410). -/
def portOk (p : Nat) : Bool := decide (p < 4)
def deviceOk (d : Nat) : Bool := decide (d < 1024)

/-- A Bolt bank (R323). -/
def bankOk (b : Nat) : Bool := decide (b < 48)

/-- A clock island (R371). -/
def islandOk (i : Nat) : Bool := decide (i < 85)

/-- A descriptor: 8 header bytes and 56 body bytes (R71). -/
def Desc.wf (d : Desc) : Bool := d.body.length == 56

/-- A register access (R10): 4 or 8 bytes whose value fits. -/
def RegAccess.wf (a : RegAccess) : Bool :=
  fnOk a.fn && (a.size == 4 || a.size == 8) && decide (a.value < 256 ^ a.size)

/-- Bytes a Bolt port moves in one cycle (R324). -/
def boltPortWidth (port : Nat) : Nat := if port ≤ 11 ∨ (28 ≤ port ∧ port ≤ 35) then 64 else 128

/-- A Bolt request (R324, R329): within one 128-byte word and the width of its port, its data of its length. -/
def BoltReq.wf (r : BoltReq) : Bool :=
  bankOk r.bank && decide (r.word < 65536) && decide (r.port ≤ 36) && decide (1 ≤ r.len ∧ r.len ≤ boltPortWidth r.port)
    && decide (r.byte + r.len ≤ 128)
    && (match r.data with | some d => d.length == r.len | none => true)

/-- The sizes of a Hub transaction (R348). -/
def hubSizeOk (n : Nat) : Bool := n == 1 || n == 2 || n == 4 || n == 8 || n == 16 || n == 32 || n == 64 || n == 128

/-- A Hub transaction (R347, R348). -/
def HubReq.wf (r : HubReq) : Bool :=
  decide (r.master < 16) && decide (r.priv ≤ 2) && hubSizeOk r.size && decide (r.addr % r.size = 0)
    && (match r.data with | some d => d.length == r.size | none => true)

/-- A DDR5 access (R401): data of its length. -/
def DdrReq.wf (r : DdrReq) : Bool :=
  decide (1 ≤ r.len) && (match r.data with | some d => d.length == r.len | none => true)

/-- A frame header (R410, R411). -/
def FrameHdr.wf (f : FrameHdr) : Bool :=
  portOk f.port && deviceOk f.src && deviceOk f.dst && decide (f.dstMac < 2 ^ 48 ∧ f.srcMac < 2 ^ 48) && f.icv.length == 16
    && decide (f.shard < 256)
    && decide (f.seq < 2 ^ 64) && decide (f.ack < 2 ^ 64) && decide (f.epoch < 2 ^ 32) && decide (f.pn < 2 ^ 64)

/-- A table write (R412, R131). -/
def TableWrite.wf (w : TableWrite) : Bool :=
  decide (w.index < 2 ^ 24) && decide (w.generation < 2 ^ 16) && decide (w.keyType < 2 ^ 16) && decide (w.usage < 2 ^ 16)

/-- Is every operand of a command in its range? -/
def Instr.wf : Instr → Bool
  | .powerOnReset => true
  | .powerOnResetRelease => true
  | .sysRstNAssert _ => true
  | .perstNAssert => true
  | .perstNRelease => true
  | .hotReset => true
  | .dlDown => true
  | .linkTrained => true
  | .flrPf0 => true
  | .flrVf n => decide (1 ≤ n ∧ n ≤ 255)
  | .d3hotToD0 => true
  | .busMasterEnableSet fn c => fnOk fn && decide (c.mps ≤ 5 ∧ c.mrrs ≤ 5 ∧ c.numVfs ≤ 255 ∧
      c.bar0 < 2 ^ 64 ∧ c.vfBar0 < 2 ^ 64 ∧ 4096 ≤ c.pageSize)
  | .bar0BadAccess a _ => fnOk a.fn
  | .gatedBlockAccess a _ => a.wf
  | .registerWrite a => a.wf
  | .setupLockRequest => true
  | .lockCheckDone => true
  | .ringVfLockRequest fn => decide (1 ≤ fn ∧ fn ≤ 255)
  | .vfLockCheckDone fn => decide (1 ≤ fn ∧ fn ≤ 255)
  | .lcReqDeploy _ => true
  | .ndlEngineReset n => engineOk n
  | .ndlModeWrite n _ _ => engineOk n
  | .msixUnmask fn v => fnOk fn && decide (v < 2048)
  | .sweepIssue => true
  | .sweepReturn ws => ws.length == 64
  | .doorbellReadReturn sq _ => ringOk sq
  | .casReturn word _ => decide (word < 64)
  | .clearRereadReturn sq _ => ringOk sq
  | .descriptorLand sq ds => ringOk sq && ds.all (fun e => e.2.1.wf)
  | .fetchFail sq a _ => ringOk sq && decide (a < 2 ^ 64)
  | .summaryReadFail a _ => decide (a < 2 ^ 64)
  | .readyBitSet b => decide (b < 64)
  | .holdLimitExpiry sq _ => ringOk sq
  | .cqCoalTimer c => decide (c ≤ 4096)
  | .statusPageWrite => true
  | .errConsumerReadReturn _ => true
  | .stream sq d _ => ringOk sq && d.wf
  | .streamCmd sq d _ => ringOk sq && d.wf
  | .sign sq d _ => ringOk sq && d.wf
  | .verify sq d _ => ringOk sq && d.wf
  | .ecdh sq d _ => ringOk sq && d.wf
  | .rsaEncrypt sq d _ => ringOk sq && d.wf
  | .rsaDecrypt sq d _ => ringOk sq && d.wf
  | .kemEncaps sq d _ => ringOk sq && d.wf
  | .kemDecaps sq d _ => ringOk sq && d.wf
  | .pubkeyExport sq d _ => ringOk sq && d.wf
  | .mac sq d _ => ringOk sq && d.wf
  | .macVerify sq d _ => ringOk sq && d.wf
  | .passwordVerify sq d _ => ringOk sq && d.wf
  | .passwordHash sq d _ => ringOk sq && d.wf
  | .passwordDerive sq d _ => ringOk sq && d.wf
  | .create sq d _ => ringOk sq && d.wf
  | .importKey sq d _ => ringOk sq && d.wf
  | .exportWrapped sq d _ => ringOk sq && d.wf
  | .derive sq d _ => ringOk sq && d.wf
  | .rotate sq d _ => ringOk sq && d.wf
  | .destroy sq d _ => ringOk sq && d.wf
  | .query sq d _ => ringOk sq && d.wf
  | .rewrapStart sq d _ => ringOk sq && d.wf
  | .rewrapStatus sq d _ => ringOk sq && d.wf
  | .backupSeal sq d _ => ringOk sq && d.wf
  | .backupRestore sq d _ => ringOk sq && d.wf
  | .openSession sq d _ => ringOk sq && d.wf
  | .update sq d _ => ringOk sq && d.wf
  | .final sq d _ => ringOk sq && d.wf
  | .close sq d _ => ringOk sq && d.wf
  | .migrate sq d _ => ringOk sq && d.wf
  | .migrateTimeout peer seq => deviceOk peer && decide (seq < 2 ^ 64)
  | .load sq d _ => ringOk sq && d.wf
  | .invoke sq d _ _ => ringOk sq && d.wf
  | .unload sq d _ => ringOk sq && d.wf
  | .join sq d _ => ringOk sq && d.wf
  | .leave sq d _ => ringOk sq && d.wf
  | .shardConfig sq d _ => ringOk sq && d.wf
  | .memberQuery sq d _ => ringOk sq && d.wf
  | .takeover sq d _ => ringOk sq && d.wf
  | .nop sq d _ => ringOk sq && d.wf
  | .errorRingSetup sq d _ => ringOk sq && d.wf
  | .profileChange sq d _ => ringOk sq && d.wf
  | .retire sq d _ => ringOk sq && d.wf
  | .restore sq d _ _ => ringOk sq && d.wf
  | .selfTest sq d _ _ => ringOk sq && d.wf
  | .ringRestart sq d _ => ringOk sq && d.wf
  | .ringClass sq d _ => ringOk sq && d.wf
  | .vectorRetarget sq d _ => ringOk sq && d.wf
  | .tenantLimits sq d _ => ringOk sq && d.wf
  | .streamAdmit src => (match src with | .ring r => decide (r < 16) | .needle n _ => engineOk n)
  | .chunkSourceLand _ _ _ => true
  | .keyScheduleBuilt p => pipeOk p
  | .jobFinish p _ => pipeOk p
  | .outputDrainDone _ _ => true
  | .streamRetire r => decide (r < 16)
  | .seamAbort a => (match a with
      | .quad q => decide (q < 4)
      | .ddrRead _ => true
      | .ddrWrite _ => true
      | .hub m _ => decide (m < 16))
  | .selftestInterval => true
  | .selfTestEnd p _ => pipeOk p
  | .stitchQuadDrained => true
  | .rewrapSweepStep => true
  | .freeListRebuildDone => true
  | .bundleIssue f => engineOk f.n
  | .lockupClearDone n => engineOk n
  | .unitResultPush n u => engineOk n && decide (u < 19)
  | .longOpComplete n => engineOk n
  | .loadReturn n _ => engineOk n
  | .directLoadWrite n _ => engineOk n
  | .storePerform n => engineOk n
  | .storeFaultReport n _ => engineOk n
  | .gatherElementFault n e _ => engineOk n && decide (e < 64)
  | .vgatherFfCount n => engineOk n
  | .budgetExpiry n => engineOk n
  | .fitterInterrupt n => engineOk n
  | .debugHalt n => engineOk n
  | .watchdogExpiry n => engineOk n
  | .critWindowExpiry n => engineOk n
  | .boltCycle reqs => reqs.all BoltReq.wf
  | .boltScrubRead _ _ => true
  | .bankIdleTimeout b => bankOk b
  | .bankWakeDone b => bankOk b
  | .vaultReadbackDone l => l.all (fun e => bankOk e.1)
  | .donorCopyDone b => bankOk b
  | .cacheWritebackDone => true
  | .hubRequest r => r.wf
  | .hubResponse m _ => decide (m < 16)
  | .tackCycle => true
  | .tackDelivery i => decide (i < 512)
  | .checkpointMirrorDone => true
  | .gpioEdge p _ => decide (p < 16)
  | .periTimerExpiry t => decide (t < 8)
  | .missingEdge => true
  | .xtalJudgedStable => true
  | .rootPllLock => true
  | .divisorSwitch i d => islandOk i && decide (1 ≤ d)
  | .droopStretch i _ => islandOk i
  | .islandReset i => islandOk i
  | .ddrTrainingDone c f => chanOk c && decide (f.die ≤ 2) && (f.ranks == 1 || f.ranks == 2 || f.ranks == 4)
  | .ddrRestoreDone r => chanOk r.ch
  | .dqsOscInterval c r _ => chanOk c && rankOk r
  | .zqCalInterval c r => chanOk c && rankOk r
  | .ddrRefresh c _ => chanOk c
  | .rankSweepBurst c r => chanOk c && rankOk r
  | .rankSweepEnd c r _ => chanOk c && rankOk r
  | .patrolScrubStep c _ _ => chanOk c
  | .ddrAccess r => r.wf
  | .ddrSpprDone r => chanOk r.ch
  | .migrationGranuleCopy _ => true
  | .keepalive f _ ports => f.wf && decide (ports < 256)
  | .membership f _ => f.wf
  | .shardWrite f b => f.wf && (match b with | .write _ w => w.wf | .commit i => decide (i < 2 ^ 24) | .abort i => decide (i < 2 ^ 24))
  | .shardReply f _ e => f.wf && decide (e < 2 ^ 32)
  | .forward f w => f.wf && w.wf
  | .claim f c => f.wf && deviceOk c
  | .claimReply f _ _ => f.wf
  | .reload f _ => f.wf
  | .handoff f m => f.wf && m.nonce.length == 12
  | .handoffReply f _ => f.wf
  | .ack f => f.wf
  | .keepaliveTimer => true
  | .peerLostTimeout d => deviceOk d
  | .retransmitTimer p => deviceOk p
  | .ackTimer p => deviceOk p
  | .joinTimeout => true
  | .claimRetryTimer s => decide (s < 256)
  | .berWindowEnd p c _ => portOk p && c.length == 4
  | .renegotiationDone p _ => portOk p
  | .svLinkUp l => portOk l.port
  | .tapeSample x => islandOk x.island
  | .hbOutToggle => true
  | .livenessDeadlineMiss _ => true
  | .fitterRestart => true
  | .fitterAlive => true
  | .bucketSliceAdvance _ => true
  | .retirementLogWrite => true
  | .coalWindowClose o c => decide (o < 65536) && decide (c < 256)
  | .policyInterval => true
  | .adaptPeriod u => decide (u.length ≤ 256)
  | .thermalSample _ => true
  | .powerWindow _ => true
  | .profileSwitchDone => true
  | .stage1Verified _ _ => true
  | .imageVerified k _ => decide (2 ≤ k ∧ k ≤ 4)
  | .trngStartupDone => true
  | .trngHealthFail _ => true
  | .drbgReseed => true
  | .tamperTrip _ _ => true
  | .thimbleWatchdogExpiry => true
  | .thermalTrip => true
  | .debugUnlock _ => true
  | .spdmRequest _ => true
  | .fwWrite _ _ d => decide (1 ≤ d.length)
  | .fwActivate _ _ => true
  | .fwCommit _ => true
  | .fwRevert _ => true
  | .meshKeyInstall _ k _ => k.length == 32
  | .lcRetire _ => true
  | .completionTimeout sq _ => ringOk sq
  | .sysRstNRelease => true
  | .svLinkDown p => portOk p
  | .aerError _ => true
  | .jtagProvisionRequest => true

end Sys2Proof
end

