-- ==== Sys2Proof/Machine/BoltOps.lean ====
section
/-! DEFINITION. Bolt bank cycles, scrub, power states, the flash-clear, bank retirement and what a new layout does
(R329-R331, R339-R346). -/

namespace Sys2Proof.Machine

open Sys2Proof

/-! ## Bank cycles (R329-R331) -/

/-- May a port reach a bank: stream lanes the scratch banks, fill and evict ports the cache banks (R327); a bank that a donor
replaces is out of reach. -/
def State.portReaches (s : State) (port bank : Nat) : Bool :=
  let p := s.partOfBank bank
  if port ≤ 11 then p != 4 && decide (bank / 4 = port)
  else if port ≤ 27 then p == 2 else if port ≤ 35 then p == 3 else port == 36 && !s.bankReplaced bank

/-- The store key of the first byte of a bank word. -/
def wordKey (bank word : Nat) : Nat := bank * bankBytes + word * 128

/-- The store key of a request's first byte: a donor holds the bytes of the bank it stands in for. -/
def State.reqKey (s : State) (r : BoltReq) : Nat := wordKey (s.placeOfBank r.bank) r.word + r.byte

/-- The line of the cache that a request's word holds, with its set and way (R335). -/
def State.reqLine (s : State) (r : BoltReq) : Option (Nat × Nat × CacheLine) :=
  match s.wayAt r.bank r.word with
  | some (t, w) => (s.way t w).map (fun x => (t, w, x))
  | none => none

/-- Who reports what a port's access meets (R443). -/
def portReporter (port : Nat) : Nat := if 12 ≤ port ∧ port ≤ 27 then repShuttle else repHub

/-- The words of a request that its access reads: of a write those it does not cover whole (R323, R338). -/
def reqReads (k : Nat) (r : BoltReq) : List Nat :=
  match r.data with | some d => partWords k d.length | none => eccWords k r.len

/-- What ECC found at a request (R337, R338): an error at a word that the access does not read is not met. Answers whether the
access goes on. -/
def State.reqEcc (s : State) (r : BoltReq) : Bool × State :=
  let k := s.reqKey r
  let rep := portReporter r.port
  match reqReads k r, r.ecc with
  | [], _ => (true, s)
  | _, .none => (true, s)
  | _, .single => (true, s.boltCe k rep)
  | w :: _, .double =>
    match s.reqLine r with
    | some (t, v, _) => s.cacheUe t v rep
    | none => (true, s.markBad w)

/-- The bytes of a request's word as the bank holds them, and the word after a write of them: at a cache bank those of the
line; a write through a Hub port makes it dirty, one of a fill port does not (R336). -/
def State.reqBytes (s : State) (r : BoltReq) : List Byte :=
  match s.reqLine r with
  | some (_, _, x) => sub x.data r.byte r.len
  | none => Store.sliceRun zeroByte s.bolt.data (s.reqKey r) r.len

def State.reqStore (s : State) (r : BoltReq) (d : List Byte) : State :=
  match s.reqLine r with
  | some (t, w, x) =>
    s.setWay t w (some { x with data := x.data.take r.byte ++ d ++ x.data.drop (r.byte + d.length)
                                dirty := x.dirty || decide (r.port ≤ 11) })
  | none =>
    let k := s.reqKey r
    (s.mendWords (eccWords k d.length)).setBolt { (s.mendWords (eccWords k d.length)).bolt with
      data := Store.putRun zeroByte s.bolt.data k d }

/-- The request at its bank word as memory answers it, without regard to other ports. -/
def State.bankAccess (s : State) (r : BoltReq) : BoltAns × State :=
  let ans := fun (resp : Resp) (data : List Byte) =>
    ({ port := r.port, bank := r.bank, word := r.word, resp, data } : BoltAns)
  let x := s.reqEcc r
  let bad := (reqReads (x.2.reqKey r) r).filter (fun w => x.2.bolt.bad.contains w)
  if !x.1 then (ans .ecc [], x.2)
  else if !bad.isEmpty && (x.2.reqLine r).isNone then (ans .ecc [], x.2.meetBad bad (portReporter r.port))
  else
    match r.data with
    | some d => (ans .ok [], x.2.reqStore r d)
    | none => (ans .ok (x.2.reqBytes r), x.2)

/-- Keeps an answer of this cycle. -/
def State.boltAnswer (s : State) (a : BoltAns) : State := s.setBolt { s.bolt with resp := s.bolt.resp ++ [a] }

/-- The request a bank grants (R329): one that is reissued after COLLIDED, else round robin among the ports. -/
def State.grant (s : State) (bank : Nat) (reqs : List BoltReq) : Option BoltReq :=
  match reqs.find? (fun r => s.bolt.retry.contains (r.port, bank, r.word)) with
  | some r => some r
  | none =>
    let last := Store.get (fun _ => 36) s.bolt.rr bank
    let next := fun p => (p + 37 - last - 1) % 37
    reqs.foldl (fun (best : Option BoltReq) r =>
      match best with
      | some b => if next r.port < next b.port then some r else best
      | none => some r) none

/-- Is a request refused: its bank is fenced, a vault bank under a wipe but for the clear engine's readback, or not for its
port (R327, R332, R344, R345)? -/
def State.reqRefused (s : State) (r : BoltReq) : Bool :=
  s.bolt.fenced.contains (s.placeOfBank r.bank) || (s.bolt.wiping && s.bolt.lay.vaultB.contains r.bank && r.port != 36)
    || !s.portReaches r.port r.bank

/-- Answers REFUSED. -/
def State.refuseReq (s : State) (r : BoltReq) : State :=
  (s.countSat .boltStat_refused).boltAnswer { port := r.port, bank := r.bank, word := r.word, resp := .refused, data := [] }

/-- A read that meets a write of another port in its commit cycle receives COLLIDED; the Shuttle counts the reissue of its
lanes (R171, R330). -/
def State.collide (s : State) (r : BoltReq) : State :=
  let s := s.count .boltStat_collided
  let s := if 12 ≤ r.port ∧ r.port ≤ 27 then s.count .shtStat_collided else s
  (s.setBolt { s.bolt with retry := s.bolt.retry ++ [(r.port, r.bank, r.word)] }).boltAnswer
    { port := r.port, bank := r.bank, word := r.word, resp := .collided, data := [] }

/-- One bank's cycle in normal service (R330). `prior` are the writes in their commit cycle. -/
def State.bankCycle (s : State) (prior : List (Nat × Nat × Nat)) (bank : Nat) (reqs : List BoltReq) : State :=
  let bad := reqs.filter s.reqRefused
  let s := bad.foldl State.refuseReq s
  let good := reqs.filter (fun r => !bad.contains r)
  if good.isEmpty then s
  else if s.bankHolds bank then s.wakeBank bank
  else
    match s.grant bank good with
    | none => s
    | some r =>
      let s := s.setBolt { s.bolt with rr := Store.put (fun _ => 36) s.bolt.rr bank r.port
                                       retry := s.bolt.retry.filter (fun x => x != (r.port, bank, r.word)) }
      if r.data.isNone && prior.any (fun c => c.2 == (bank, r.word) && c.1 != r.port) then s.collide r
      else
        let (a, s) := s.bankAccess r
        let s := s.boltAnswer a
        if r.data.isSome && a.resp == .ok then
          s.setBolt { s.bolt with commits := s.bolt.commits ++ [(r.port, bank, r.word)] }
        else s

/-- One bank's cycle in maintenance (R331): every maintenance port is granted, reads see the content before the cycle, of
two writes to a word the lowest port's stands. Every other request is held, as is one to a bank that is not on. -/
def State.bankMaint (s : State) (bank : Nat) (reqs : List BoltReq) : State :=
  let mine := reqs.filter (fun r => decide (r.port ≤ 11) || r.port == 36)
  let bad := mine.filter s.reqRefused
  let s := bad.foldl State.refuseReq s
  let good := mine.filter (fun r => !bad.contains r)
  let reads := good.filter (fun r => r.data.isNone)
  let writes := good.filter (fun r => r.data.isSome)
  let lost := fun (r : BoltReq) => writes.any (fun w => w.word == r.word && decide (w.port < r.port))
  if good.isEmpty then s
  else if s.bankHolds bank then s.wakeBank bank
  else
    let s := reads.foldl (fun s r => let (a, s) := s.bankAccess r; s.boltAnswer a) s
    writes.foldl (fun s r =>
      if lost r then
        (s.countSat .boltStat_writeLost).boltAnswer { port := r.port, bank, word := r.word, resp := .writeLost, data := [] }
      else let (a, s) := s.bankAccess r; s.boltAnswer a) s

/-- BOLT_CYCLE (R329-R331): one cycle of every bank that is asked. A request with a bank or word that does not exist, or
wider than its port (R324), is no request. -/
def actBoltCycle (reqs : List BoltReq) (s : State) : Host.Outcome State Fault Refusal :=
  let reqs := reqs.filter BoltReq.wf
  let prior := s.bolt.commits
  let s := s.setBolt { s.bolt with commits := [], resp := [] }
  let maint := s.flag .boltMode_maint
  .next (s.each 48 (fun b s =>
    let mine := reqs.filter (fun r => r.bank == b)
    if mine.isEmpty then s
    else if maint then s.bankMaint b mine else s.bankCycle prior b mine))

/-! ## Scrub (R339) -/

/-- Does the scrub read a bank: it is on, and no donor has taken its place? -/
def State.scrubs (s : State) (b : Nat) : Bool := s.rd .boltBankState_power b == 0 && !s.bankReplaced b

/-- The next bank word the scrub reads from word `w` on, and whether a pass ends on the way; none while no bank is on. -/
def State.scrubNext (s : State) : Nat → Nat → Bool → Option (Nat × Bool)
  | 0, _, _ => none
  | n + 1, w, wrap =>
    if s.scrubs (w / 65536) then some (w, wrap)
    else
      let b := (w / 65536 + 1) % 48
      s.scrubNext n (b * 65536) (wrap || b == 0)

/-- A pass over the banks is done (R339). -/
def State.scrubPass (s : State) (done : Bool) : State := if done then s.count .boltEccStat_scrubPasses else s

/-- What the scrub finds at a bank word: an error in the word's first ECC word. A double-bit word stays as it is, until a write
covers it; a client that wrote it meanwhile has. -/
def State.scrubFound (s : State) (bank word : Nat) (ecc : EccEvent) (clientWrote : Bool) : State :=
  let r : BoltReq := { port := 36, bank, word, byte := 0, len := 128, data := none, ecc }
  let k := s.reqKey r
  let x := s.reqEcc r
  if (s.reqLine r).isSome then x.2
  else
    -- words that were uncorrectable before the scrub read them, and the one that is now
    let old := (eccWords k 128).filter (fun w => s.bolt.bad.contains w && !(ecc == .double && w == k / 16))
    let s := if clientWrote && ecc == .double then s else x.2
    (if ecc = .double then s.boltUe k repHub else s).meetBad old repHub

/-- BOLT_SCRUB_READ (R338, R339): reads the next bank word; its write-back is dropped when a client has written the word
meanwhile, so data never changes here. Rate 0 stops scrub. -/
def actBoltScrubRead (ecc : EccEvent) (clientWrote : Bool) (s : State) : Host.Outcome State Fault Refusal :=
  if s.rd .boltScrub_rateMbs = 0 then .next s
  else
    match s.scrubNext 48 s.bolt.scrubAt false with
    | none => .next s
    | some (w, before) =>
      let s := (s.scrubPass before).scrubFound (w / 65536) (w % 65536) ecc clientWrote
      let w' := (w + 1) % (48 * 65536)
      let next := (s.scrubNext 49 w' (w' == 0)).getD (w', w' == 0)
      .next ((s.setBolt { s.bolt with scrubAt := next.1 }).scrubPass next.2)

/-! ## Power states (R341, R342) -/

/-- Writes back and drops the cached lines of one cache bank. -/
def State.cacheEmptyBank (s : State) (bank : Nat) : State :=
  let hit := fun (e : Nat × Option CacheLine) =>
    s.bolt.lay.cacheB.getD (e.1 / 16 % s.bolt.lay.cacheB.length) 48 == bank
  let s := (s.bolt.lines.filter hit).foldl
    (fun s e => match e.2 with | some x => s.writeBackLine x | none => s) s
  s.setBolt { s.bolt with lines := s.bolt.lines.filter (fun e => !hit e) }

/-- A bank's contents are lost: those of the place it serves (R341, R345). -/
def State.loseBank (s : State) (b : Nat) : State := if s.bankReplaced b then s else s.clearBank (s.placeOfBank b)

/-- BANK_IDLE_TIMEOUT (R341): the bank enters the deepest state its policy allows; vault and session banks stay on. A bank
that goes off has lost its contents. -/
def actBankIdleTimeout (b : Nat) (s : State) : Host.Outcome State Fault Refusal :=
  let part := s.partOfBank b
  let pol := s.rd .boltBankCfg_pwr b
  if b ≥ 48 || s.rd .boltPwrIdle_idleUs == 0 || s.rd .boltBankState_power b != 0 || decide (part ≤ 1) || pol == 0 then
    .next s
  else if pol = 1 then .next (s.wr .boltBankState_power b 1)
  else
    let s := if part = 3 then s.cacheEmptyBank b else s
    .next ((s.loseBank b).wr .boltBankState_power b 2)

/-- BANK_WAKE_DONE (R341, R342): a waking bank is on. -/
def actBankWakeDone (b : Nat) (s : State) : Host.Outcome State Fault Refusal :=
  if b < 48 ∧ s.rd .boltBankState_power b = 3 then .next (s.wr .boltBankState_power b 0) else .next s

/-! ## The flash-clear, retirement, layouts (R343-R346) -/

/-- The banks of the vault region: those in force, but for banks that hold scratch kept through a warm reset, which are none
of it until the lock (R326, R343, R346). -/
def State.vaultRegion (s : State) : List Nat :=
  s.bolt.lay.vaultB.filter (fun b => !s.bolt.kept.any (fun l => l.scratchB.contains b))

/-- The flash-clear line (R344, steps 1 and 2): every vault cell reads zero, BOLT_VAULT clears. -/
def State.flashClear (s : State) : State :=
  let s := s.vaultRegion.foldl State.clearBank s
  (s.setBolt { s.bolt with wiping := true }).setReady readyBoltVault false

/-- Vault readback (R344, step 3): words found not zero are rewritten with zeros, 16 for their bank each; BOLT_VAULT sets
while a vault bank is left. -/
def State.vaultReadback (s : State) (nonZero : List (Nat × Nat)) : State :=
  let s := nonZero.foldl (fun s e =>
    if s.vaultRegion.contains e.1 then (s.placedEvent (0x200 + e.1) 0x02 e.2 16).noteAvoid e.1 else s) s
  let s := s.setBolt { s.bolt with wiping := false }
  s.setReady readyBoltVault (!s.bolt.lay.vaultB.isEmpty)

/-- Registers that show the layout in force (R325). -/
def State.showLayout (s : State) : State :=
  let l := s.bolt.lay
  let s := (s.wr .boltLayout_vault 0 l.vaultB.length).wr .boltLayout_session 0 l.sessB.length
  let s := (s.wr .boltLayout_scratch 0 l.scratchB.length).wr .boltLayout_cache 0 l.cacheB.length
  s.each 48 (fun b s => s.wr .boltBankState_partition b (s.partOfBank b))

/-- Takes a layout into force (R326): banks whose partition changes are cleared before their first use, but for the banks
`keep` (R346). -/
def State.applyLayout (s : State) (keep : List Nat) (l : Layout) : State :=
  let old := s.bolt.lay
  let s := s.each 48 (fun b s => if old.partOf b = l.partOf b ∨ b ∈ keep then s else s.clearBank b)
  let s := s.setBolt { s.bolt with lay := l, copying := [], donors := [], fenced := [] }
  let s := s.each 48 (fun b s => (s.wr .boltBankState_donor b 0).wr .boltBankState_replaces b 0)
  -- cached lines do not survive a change of the cache banks, but for dirty lines that wait for their write-back
  let s := if old.cacheB = l.cacheB || s.bolt.writeBack then s else s.setBolt { s.bolt with lines := [], plru := [] }
  s.showLayout

/-- Is a bank of tier `t` left in service? -/
def State.tierLeft (s : State) (t : Nat) : Bool := (List.range 16).any (fun i => !s.flag .boltBankState_retired (16 * t + i))

/-- The bank that stood in for place `p` does so no more. -/
def State.dropDonor (s : State) (p : Nat) : State :=
  let s := (s.bolt.donors.filter (fun d => d.1 == p)).foldl
    (fun s d => (s.wr .boltBankState_donor d.2 0).wr .boltBankState_replaces d.2 0) s
  s.setBolt { s.bolt with donors := s.bolt.donors.filter (fun d => d.1 != p) }

/-- The place `p` of a failed bank is fenced: no bank serves it. -/
def State.fencePlace (s : State) (p : Nat) : State :=
  let s := s.dropDonor p
  s.setBolt { s.bolt with fenced := s.bolt.fenced ++ [p], copying := s.bolt.copying.filter (fun c => c.1 != p) }

/-- The place `p` of a failed session or scratch bank goes to the highest cache bank, while the cache has two or more, or is
fenced (R345). -/
def State.replaceBank (s : State) (p : Nat) : State :=
  let l := s.bolt.lay
  match l.cacheB.getLast? with
  | some donor =>
    if l.cacheB.length ≥ 2 then
      let s := s.cacheEmpty
      s.setBolt { s.bolt with lay := { l with cacheB := l.cacheB.dropLast }
                              copying := s.bolt.copying.filter (fun c => c.1 != p) ++ [(p, donor)] }
    else s.fencePlace p
  | none => s.fencePlace p

/-- Retires a bank (R345), but for the wipe and the sessions that a vault bank takes with it. A donor that fails is replaced in
its turn: it stands in until the second donor has its copy, so requests to its words are held meanwhile. -/
def State.retireBank (s : State) (b : Nat) : State :=
  let s := s.wr .boltBankState_retired b 1
  let l := s.bolt.lay
  let p := match s.bolt.copying.find? (fun c => c.2 == b) with | some c => c.1 | none => s.placeOfBank b
  let part := if s.bankReplaced b then 4 else l.partOf p
  let s := match part with
    | 0 => s.setBolt { s.bolt with lay := { l with vaultB := l.vaultB.filter (fun x => x != b) } }
    | 3 =>
      let s := s.cacheEmpty
      s.setBolt { s.bolt with lay := { l with cacheB := l.cacheB.filter (fun x => x != b) } }
    | 4 => s
    | _ => s.replaceBank p
  let s := s.showLayout
  -- a tier's bit clears with its last bank (R41)
  let s := if s.tierLeft (b / 16) then s else s.setReady (readyTier (b / 16)) false
  -- SESSIONS clears when no context is left to allocate
  if part = 1 && s.bolt.fenced.contains p && (s.scanCtx [] 65536 0).isNone then s.setReady readySessions false
  else s

/-- DONOR_COPY_DONE (R345): the donor takes the retired bank's place in the interleave, so no offset changes; words that
could not be read stay uncorrectable. -/
def actDonorCopyDone (b : Nat) (s : State) : Host.Outcome State Fault Refusal :=
  match s.bolt.copying.find? (fun c => c.1 == b) with
  | none => .next s
  | some c =>
    let s := s.dropDonor c.1
    let s := s.setBolt { s.bolt with copying := s.bolt.copying.erase c, donors := s.bolt.donors ++ [c] }
    .next ((s.wr .boltBankState_donor c.2 1).wr .boltBankState_replaces c.2 c.1).showLayout

/-- CACHE_WRITEBACK_DONE (R346): after a warm reset the dirty lines stand in DDR5, the cache is empty and serves. -/
def actCacheWritebackDone (s : State) : Host.Outcome State Fault Refusal :=
  let ddr := (List.range 8).all (fun c => s.flag .ddrcState_retired c || s.isReady (readyDdr c))
  if s.bolt.writeBack && s.locked && ddr then
    .next (s.cacheEmpty.setBolt { s.cacheEmpty.bolt with writeBack := false })
  else .next s

end Sys2Proof.Machine
end

