-- ==== Sys2Proof/Machine/Chain.lean ====
section
/-! DEFINITION. What a stage chain computes (R105-R109), unit by unit, and the vectors a stream reads and writes
(R162, R163). -/

namespace Sys2Proof.Machine

open Sys2Proof

/-! ## Stages (R105) -/

/-- Is a stage code assigned? -/
def stageKnown (c : Nat) : Bool := decide (0x01 ≤ c ∧ c ≤ 0x0B) || decide (0x12 ≤ c ∧ c ≤ 0x17)

/-- Is a stage a cipher? -/
def isCipher (c : Nat) : Bool := decide (0x01 ≤ c ∧ c ≤ 0x0B)

/-- Is a stage an AEAD decryption, which reads its side slot (R109)? -/
def isOpenStage (c : Nat) : Bool := c == 0x04 || c == 0x06 || c == 0x0B

def isXts (c : Nat) : Bool := c == 0x01 || c == 0x02
def isSiv (c : Nat) : Bool := c == 0x05 || c == 0x06
def isCbc (c : Nat) : Bool := c == 0x08 || c == 0x09

/-- Bytes of side output per unit. -/
def sideLen (c : Nat) : Nat :=
  if c = 0x03 ∨ c = 0x04 ∨ c = 0x05 ∨ c = 0x06 ∨ c = 0x0A ∨ c = 0x0B then 16
  else match c with
    | 0x12 => 32 | 0x13 => 48 | 0x14 => 64 | 0x15 => 32 | 0x16 => 64 | 0x17 => 8 | _ => 0

/-- Bytes of one side record (R108). -/
def recLen (chain : List Nat) : Nat := (chain.map sideLen).foldl (· + ·) 0

/-- Key types a cipher stage takes. -/
def stageType (c kt : Nat) : Bool :=
  if isXts c then kt == 3 || kt == 4 else if c = 0x0A ∨ c = 0x0B then kt == 5 else kt == 1 || kt == 2

/-- Usage bits a cipher stage takes, any of them. -/
def stageUse (c : Nat) : List Nat :=
  if c = 0x07 then [uEncrypt, uDecrypt]
  else if c = 0x01 ∨ c = 0x03 ∨ c = 0x05 ∨ c = 0x08 ∨ c = 0x0A then [uEncrypt] else [uDecrypt]

/-- The key of a stream and its per-unit values (R107): key bytes, nonce salt, iv_base. -/
structure UnitKey where
  key  : Bs
  salt : Nat
  base : Nat
  deriving DecidableEq, Repr

/-- The data-unit number of unit `i`. -/
def UnitKey.num (k : UnitKey) (i : Nat) : Nat := (k.base + i) % 2 ^ 64

/-- The 96-bit nonce of unit `i`. -/
def UnitKey.nonce (k : UnitKey) (i : Nat) : Bs := toLe 4 k.salt ++ toLe 8 (k.num i)

/-- One stage over one whole unit: its output, and its side output (none where its slot is read instead); `tag` is the
expected tag of a decryption, `false` its failure. -/
def runStage (k : UnitKey) (i c : Nat) (x tag : Bs) : Bs × Option Bs × Bool :=
  let u := k.num i
  let opened := fun (r : Option Bs) => match r with
    | some p => (p, none, true)
    | none => (zeros x.length, none, false)
  if c = 0x01 then (Aes.xts true k.key u x, some [], true)
  else if c = 0x02 then (Aes.xts false k.key u x, some [], true)
  else if c = 0x03 then let r := Aes.gcmSeal k.key (k.nonce i) [] x; (r.1, some r.2, true)
  else if c = 0x04 then opened (Aes.gcmOpen k.key (k.nonce i) [] x tag)
  else if c = 0x05 then let r := Aes.sivSeal k.key (k.nonce i) [] x; (r.1, some r.2, true)
  else if c = 0x06 then opened (Aes.sivOpen k.key (k.nonce i) [] x tag)
  else if c = 0x07 then (Aes.ctr k.key u x, some [], true)
  else if c = 0x08 then (Aes.cbc true k.key u x, some [], true)
  else if c = 0x09 then (Aes.cbc false k.key u x, some [], true)
  else if c = 0x0A then let r := Stream.aeadSeal k.key (k.nonce i) [] x; (r.1, some r.2, true)
  else if c = 0x0B then opened (Stream.aeadOpen k.key (k.nonce i) [] x tag)
  else if c = 0x12 then (x, some (Hash.sha256 x), true)
  else if c = 0x13 then (x, some (Hash.sha384 x), true)
  else if c = 0x14 then (x, some (Hash.sha512 x), true)
  else if c = 0x15 then (x, some (Hash.sha3_256 x), true)
  else if c = 0x16 then (x, some (Hash.sha3_512 x), true)
  else if c = 0x17 then (x, some (toLe 8 (Hash.crc64 x)), true)
  else (x, some [], true)

/-- What a chain does to one whole unit: the main output, the side slots written (offset in the record, bytes), and
whether every tag verified. -/
structure UnitOut where
  out  : Bs
  side : List (Nat × Bs)
  good : Bool
  deriving DecidableEq, Repr

/-- A chain over one whole unit, from slot offset `off` of its record `rec`. -/
def runChain (k : UnitKey) (i : Nat) (rec : Bs) : List Nat → Nat → Bs → UnitOut
  | [], _, x => { out := x, side := [], good := true }
  | c :: cs, off, x =>
    let r := runStage k i c x ((rec.drop off).take 16)
    let rest := runChain k i rec cs (off + sideLen c) r.1
    { out := rest.out
      side := (match r.2.1 with | some b => if b = [] then [] else [(off, b)] | none => []) ++ rest.side
      good := r.2.2 && rest.good }

/-- How much of a unit's output is fixed once `n` bytes of it are in and `rest` are to come: nothing where a tag has first to
be made or checked, all but the last block where stealing still changes it, else all (R107, R109). -/
def fixedLen (chain : List Nat) (n rest : Nat) : Nat :=
  if chain.any (fun c => isSiv c || isOpenStage c) then 0
  else if chain.any isXts then (if 16 ≤ rest then n / 16 * 16 else n / 16 * 16 - 16)
  else n

/-! ## Vectors (R162, R163) -/

/-- The address of byte `k` of a vector. -/
def Vec.addr (v : Vec) (k : Nat) : Nat :=
  if v.isList then
    let rec go : List (Nat × Nat) → Nat → Nat
      | [], _ => 0
      | (a, n) :: es, k => if k < n then a + k else go es (k - n)
    go v.extents k
  else v.base + k / v.esize * v.stride + k % v.esize

/-- A vector without bytes. -/
def Vec.none : Vec := { space := 0, base := 0, esize := 1, stride := 1, isList := false, extents := [] }

/-- The byte ranges a vector of `n` bytes occupies, for the checks of its bounds: its extents, or one range from the first
element to the end of the last. -/
def Vec.ranges (v : Vec) (n : Nat) : List (Nat × Nat) :=
  if v.isList then v.extents
  else if n = 0 then [] else [(v.base, (n / v.esize - 1) * v.stride + v.esize)]

/-- Ranges of a strided vector element by element, where gaps lie between elements. -/
def Vec.pieces (v : Vec) (n : Nat) : List (Nat × Nat) :=
  if v.isList || v.stride == v.esize then v.ranges n
  else (List.range (n / v.esize)).map (fun i => (v.base + i * v.stride, v.esize))

/-- Bytes of a vector from position `k`, gathered into runs of consecutive addresses. -/
def Vec.runs (v : Vec) : Nat → List Byte → List (Nat × List Byte)
  | _, [] => []
  | k, b :: bs =>
    match Vec.runs v (k + 1) bs with
    | (a, l) :: rest => if a = v.addr k + 1 then (v.addr k, b :: l) :: rest else (v.addr k, [b]) :: (a, l) :: rest
    | [] => [(v.addr k, [b])]

/-- The runs of `n` bytes of a vector from position `k`: address and length. -/
def Vec.spans (v : Vec) (k n : Nat) : List (Nat × Nat) :=
  (v.runs k (List.replicate n (0 : Byte))).map (fun r => (r.1, r.2.length))

/-- One run of device memory read: Bolt words, DDR5 through the cache or direct (R165). -/
def State.runRead (s : State) (space a n : Nat) : Resp × List Byte × State :=
  if space = 1 then s.boltRead .shuttle repShuttle (a - boltBase) n
  else if space = 2 then s.cacheRead repShuttle (a - ddrBase) n
  else s.ddrRead repShuttle (a - ddrBase) n

/-- Bytes of a vector in device memory, up to the first run that fails. -/
def State.vecRead (s : State) (v : Vec) (k n : Nat) : Resp × List Byte × State :=
  (v.spans k n).foldl (fun (r : Resp × List Byte × State) e =>
    if r.1 != Resp.ok then r
    else let x := r.2.2.runRead v.space e.1 e.2; (x.1, r.2.1 ++ x.2.1, x.2.2)) (Resp.ok, [], s)

/-- The banks that `n` bytes of a vector from position `k` need. -/
def State.vecBanks (s : State) (v : Vec) (k n : Nat) : List Nat :=
  if v.space = 0 then [] else ((v.spans k n).map (fun e => s.addrBanks (v.space == 2) e.1 e.2)).flatten.eraseDups

/-- One run written: a posted write for HOST, Bolt words, DDR5 through the cache or direct (R165). -/
def State.runWrite (s : State) (fn space a : Nat) (bs : List Byte) : Resp × State :=
  if space = 0 then (.ok, s.dataWrite fn a bs)
  else if space = 1 then s.boltWrite .shuttle repShuttle (a - boltBase) bs
  else if space = 2 then s.cacheWrite repShuttle (a - ddrBase) bs
  else s.ddrWrite (a - ddrBase) bs

/-- Writes bytes of a vector at positions from `k`, up to the first run refused. -/
def State.vecWrite (s : State) (fn : Nat) (v : Vec) (k : Nat) (bs : List Byte) : Resp × State :=
  (v.runs k bs).foldl (fun (r : Resp × State) e =>
    if r.1 != Resp.ok then r else r.2.runWrite fn v.space e.1 e.2) (Resp.ok, s)

end Sys2Proof.Machine
end

