-- ==== Sys2Proof/Machine/Tack.lean ====
section
/-! DEFINITION. The Tack router up to the delivery of an event (chapter 14), GPIO edges and peripheral timers. -/

namespace Sys2Proof.Machine

open Sys2Proof

/-- No reporter bit of R443: the Tack router, the clock/reset controller and the PCIe link have none. -/
def repNone : Nat := 128

/-- Can a source raise at all on this part (R358, R359)? -/
def State.sourceExists (s : State) (src : Nat) : Bool :=
  decide (src ≤ 186)
    && !(decide (s.part = .b0m) && (decide (96 ≤ src ∧ src ≤ 127) || decide (158 ≤ src ∧ src ≤ 161)))

def State.setTack (s : State) (t : Tack) : State := { s with tack := t }

/-- Source `src` raises an event of generation `gen` (R362, R367): merged with a pending one at the highest generation,
discarded while TACK is clear. -/
def State.raiseTack (s : State) (src gen : Nat) : State :=
  -- a gated quad's sources raise nothing (R367)
  let gated := decide (146 ≤ src ∧ src < 162) && s.flag .stcPipeState_gated (src - 146)
  if !s.isReady readyTack || !s.sourceExists src || gated then s
  else
    match s.tack.pend.find? (fun e => e.1 == src) with
    | some e =>
      let s := s.countSat .tckSrc_merged src
      s.setTack { s.tack with pend := s.tack.pend.map (fun x => if x.1 = src then (src, max e.2 gen) else x) }
    | none => s.setTack { s.tack with pend := s.tack.pend ++ [(src, gen)] }

/-- The island of an input's consumer (R386); none for the Vault Table engine, which has no seam (R366). -/
def inputIsland (i : Nat) : Option Nat :=
  if i < 256 then some (i / 4) else if i < 260 then some 82 else if i < 276 then some (64 + (i - 260) / 4)
  else if i = 276 then none else some 84

/-- Is an input listed (R359)? -/
def inputExists (i : Nat) : Bool := decide (i ≤ 284)

/-- Triggers on their way into one island. -/
def State.seamLoad (s : State) (isl : Nat) : Nat :=
  (s.tack.flying.filter (fun e => inputIsland e.1 == some isl)).length

/-- One trigger of an input leaves the router: dropped where the seam is full or the island is in reset (R17, R365). -/
def State.tackSend (s : State) (t : Nat × Nat × Nat) : State :=
  let drop := match inputIsland t.1 with
    | some isl => decide (8 ≤ s.seamLoad isl) || s.seamShut isl
    | none => false
  if drop then s.countSat .tckDrop_count t.1
  else s.setTack { s.tack with flying := s.tack.flying ++ [t] }

/-- The inputs source `src` is routed to: enabled fields that name listed inputs (R363). -/
def State.routes (s : State) (src : Nat) : List Nat :=
  ((List.range 8).filter (fun k => s.flag .tckRoute_en (src * 8 + k) && inputExists (s.rd .tckRoute_dest (src * 8 + k)))).map
    (fun k => s.rd .tckRoute_dest (src * 8 + k))

/-- R361: an event of generation 7 goes nowhere. -/
def State.loopDrop (s : State) (src : Nat) : State :=
  ((s.count .tckLoopDrop_count).wr .tckLoopDrop_lastSource 0 src).report 0x0602 0x13 1 src repNone

/-- Merges what reaches input `i` in one cycle into one trigger (R364). -/
def mergeAt (i : Nat) (l : List (Nat × Nat × Nat)) : Nat × Nat × Nat :=
  let mine := l.filter (fun e => e.1 == i)
  (i, mine.foldl (fun a e => min a e.2.1) 255, mine.foldl (fun a e => max a e.2.2) 0)

/-- TACK_CYCLE (R361-R365): takes every pending source, forks each event to its enabled fields, merges what meets at an
input. -/
def actTackCycle (s : State) : Host.Outcome State Fault Refusal :=
  if !s.isReady readyTack then .next s
  else
    let evs := s.tack.pend
    let s := s.setTack { s.tack with pend := [] }
    let s := evs.foldl (fun s e => s.count .tckSrc_raised e.1) s
    let s := (evs.filter (fun e => e.2 == 7)).foldl (fun s e => s.loopDrop e.1) s
    let live := evs.filter (fun e => e.2 != 7)
    let hits := (live.map (fun e => (s.routes e.1).map (fun i => (i, e.1, e.2)))).flatten
    let inputs := (List.range 285).filter (fun i => hits.any (fun h => h.1 == i))
    .next (inputs.foldl (fun s i =>
      let n := (hits.filter (fun h => h.1 == i)).length
      (s.countSat .tckMerge_count i (n - 1)).tackSend (mergeAt i hits)) s)

/-! ## Peripheral sources (R355, R358, R360) -/

/-- GPIO_EDGE: the pin's level follows; the edge PERI_GPIO_EVT selects raises source 162 + i while it is enabled. An
output pin and a pin past 15 raise nothing. -/
def actGpioEdge (pin : Nat) (rising : Bool) (s : State) : Host.Outcome State Fault Refusal :=
  if pin ≥ 16 then .next s
  else
    let s := { s with pins := { s.pins with gpioIn := withBit s.pins.gpioIn pin rising } }
    if !bitOf (s.rd .periGpioCfg_dir) pin && bitOf (s.rd .periGpioEvt_edgeEn) pin
        && bitOf (s.rd .periGpioEvt_edgeFall) pin == !rising then
      .next (s.raiseTack (162 + pin) 0)
    else .next s

/-- A timer nothing has started. -/
def timerDefault (_ : Nat) : PTimer := { armed := false, since := 0, gen := none }
def State.timer (s : State) (t : Nat) : PTimer := Store.get timerDefault s.tack.timers t
def State.setTimer (s : State) (t : Nat) (x : PTimer) : State :=
  s.setTack { s.tack with timers := Store.put timerDefault s.tack.timers t x }

/-- The timers start at the lock (R355). -/
def State.startTimers (s : State) : State :=
  s.each 8 (fun t s => if s.rd .periTimer_periodUs t = 0 then s.setTimer t (timerDefault t)
                       else s.setTimer t { armed := true, since := s.time, gen := none })

/-- A Tack restart of a timer (R359, R360): re-armed, counting from now. -/
def State.restartTimer (s : State) (t gen : Nat) : State :=
  s.setTimer t { armed := true, since := s.time, gen := some gen }

/-- PERI_TIMER_EXPIRY (R358, R360): an armed timer's expiry raises its source when enabled; a one-shot timer stops. -/
def actPeriTimerExpiry (t : Nat) (s : State) : Host.Outcome State Fault Refusal :=
  let x := s.timer t
  if t ≥ 8 || !x.armed || s.rd .periTimer_periodUs t == 0 then .next s
  else
    let s := s.setTimer t { x with armed := s.flag .periTimer_repeat t, since := s.time }
    if s.flag .periTimer_event t then
      .next (s.raiseTack (178 + t) (match x.gen with | some g => g + 1 | none => 0))
    else .next s

end Sys2Proof.Machine
end

