-- ==== Sys2Proof/Machine/Shuttle.lean ====
section
/-! DEFINITION. The Shuttle and the Stitch pipelines (chapter 06): cutting, buffers, allocation, jobs, draining,
self-tests. -/

namespace Sys2Proof.Machine

open Sys2Proof

def State.setSht (s : State) (x : Shuttle) : State := { s with sht := x }

/-! ## Pipelines -/

/-- A pipeline nothing has used. -/
def pipeDefault (_ : Nat) : Pipe := { slots := [], jobs := [], testGen := 0, testFor := [] }
def State.pipe (s : State) (p : Nat) : Pipe := Store.get pipeDefault s.sht.pipes p

/-- STC_PIPE_STATE.ks_slots follows the slots. -/
def State.setPipe (s : State) (p : Nat) (x : Pipe) : State :=
  (s.setSht { s.sht with pipes := Store.put pipeDefault s.sht.pipes p x }).wr .stcPipeState_ksSlots p x.slots.length

/-- Takes jobs: ready, not retired, not under self-test, not gated, and not of a quad that drains for FRUGAL (R182,
R188). -/
def State.pipeReady (s : State) (p : Nat) : Bool :=
  decide (p < 16) && s.flag .stcPipeState_ready p && !s.flag .stcPipeState_retired p
    && !s.flag .stcPipeState_selfTest p && !s.flag .stcPipeState_gated p
    && !(s.sht.draining && decide (8 ≤ p)) && !(decide (s.part = .b0m) && decide (12 ≤ p))

/-- STITCH_Qq is set while the quad is not gated and a pipeline of it serves (R383). -/
def State.noteQuad (s : State) (q : Nat) : State :=
  s.setReady (readyQuad q) ((List.range 4).any (fun i =>
    let p := 4 * q + i
    s.flag .stcPipeState_ready p && !s.flag .stcPipeState_retired p && !s.flag .stcPipeState_gated p))

/-! ## Streams and their jobs -/

/-- Changes stream `id` in flight. -/
def State.mapStrm (s : State) (id : Nat) (f : Strm → Strm) : State :=
  s.setSht { s.sht with flight := s.sht.flight.map (fun x => if x.id = id then f x else x) }

/-- Stream `id` in flight. -/
def State.strm (s : State) (id : Nat) : Option Strm := s.sht.flight.find? (fun x => x.id == id)

/-- Changes job `no` of a stream. -/
def Strm.mapJob (x : Strm) (no : Nat) (f : Job → Job) : Strm :=
  { x with jobs := x.jobs.map (fun j => if j.no = no then f j else j) }

def State.mapJob (s : State) (id no : Nat) (f : Job → Job) : State := s.mapStrm id (fun x => x.mapJob no f)

/-- The length of a unit (R157): the whole stream when unit_len is 0. -/
def Strm.unitSize (x : Strm) : Nat := if x.unitLen = 0 then x.length else x.unitLen

/-- The number of units of a stream. -/
def Strm.units (x : Strm) : Nat := ceilDiv x.length x.unitSize

/-- The job a stream cuts next (R158). -/
def Strm.cut (x : Strm) : Job :=
  let u := x.unitSize
  let off := x.nextOff
  let blank : Job :=
    { no := 0, off, len := 0, unit := off / u, units := 0, piece := off % u, ends := true, at_ := .waitBuf,
      reran := false, lastPipe := none, inBuf := 0, outBuf := 0, outOff := off, outLen := 0, side := [] }
  let no := match x.jobs.getLast? with | some j => j.no + 1 | none => off
  if u > x.chunk then
    let len := min (min x.chunk (u - off % u)) (x.length - off)
    let ends := decide (off % u + len = u) || decide (off + len = x.length)
    { blank with no, len, units := b2n ends, ends }
  else
    let recs := if recLen x.chain = 0 then x.length else 1024 / recLen x.chain
    let rest := x.length - off
    -- what remains where it fits, else as many units as fit
    let len := if rest ≤ x.chunk ∧ ceilDiv rest u ≤ recs then rest else min (max 1 (min (x.chunk / u) recs) * u) rest
    { blank with no, len, units := ceilDiv len u }

/-- The key and per-unit values of a stream. -/
def Strm.unitKey (x : Strm) : UnitKey := { key := natsOf x.key, salt := x.salt, base := x.ivBase }

/-- Buffers a job holds (R172). -/
def Job.held (j : Job) : Nat :=
  match j.at_ with | .waitBuf => 0 | .drained => 0 | .draining => 1 | _ => 2

/-- The bytes of side records a job reads for AEAD decryption. -/
def Strm.recsOf (x : Strm) (j : Job) : Nat := if x.chain.any isOpenStage then j.units * recLen x.chain else 0

/-- The reads of a job's source, and of its side records, go out to host memory (R165). -/
def State.jobReads (s : State) (x : Strm) (j : Job) : State :=
  let s := if x.src.space = 0 then
      ((x.src.runs j.off (List.replicate j.len (0 : Byte))).foldl
        (fun s r => s.dataRead x.fn r.1 r.2.length) s)
    else s
  let n := x.recsOf j
  if n != 0 && x.dst1.space == 0 then
    (x.dst1.runs (j.unit * recLen x.chain) (List.replicate n (0 : Byte))).foldl
      (fun s r => s.dataRead x.fn r.1 r.2.length) s
  else s

/-! ## Stream buffers (R172) -/

/-- The buffers a job holds, by number. -/
def Job.bufs (j : Job) : List Nat :=
  match j.held with | 0 => [] | 1 => [j.outBuf] | _ => [j.inBuf, j.outBuf]

/-- The free buffers, in ascending order. -/
def State.freeBufs (s : State) : List Nat :=
  let used := (s.sht.flight.map (fun x => (x.jobs.map Job.bufs).flatten)).flatten
  (List.range 64).filter (fun i => !used.contains i)

/-- The pair a job takes: the lowest free buffer for its input and for its output the lowest 16 or more above it, or else the
next free one. DESIGN CHOICE (log 112), in line with R172's example. -/
def State.bufPair (s : State) : Nat × Nat :=
  match s.freeBufs with
  | [] => (0, 1)
  | i :: l => (i, ((l.find? (fun o => decide (i + 16 ≤ o))).or l.head?).getD (i + 1))

/-- Bytes put into the stream-buffer area: they replace uncorrectable words. -/
def State.areaPut (s : State) (o : Nat) (bs : List Byte) : State :=
  (s.mendWords (s.badWords eccWords o bs.length)).boltStore o bs

/-- What a read of the stream-buffer area meets: its bytes, and the uncorrectable words among them. -/
def State.areaBad (s : State) (o n : Nat) : List Nat := s.badWords eccWords o n

/-- The banks that hold a job's buffers and side areas. -/
def State.areaBanks (s : State) (i n side : Nat) : List Nat := s.boltBanks (s.bufAt i) n ++ s.boltBanks (s.sideAt i) side

/-- Does buffer `i` or its side area, with so many bytes each, lie in part in a fenced bank (R332, R345)? -/
def State.areaFenced (s : State) (i n side : Nat) : Bool :=
  let hit := fun (o n : Nat) => (lineParts o n).any (fun q =>
    (s.bolt.lay.place q.1).any (fun p => s.bolt.fenced.contains p.bank))
  hit (s.bufAt i) n || hit (s.sideAt i) side

/-- Starts source reads while there are pairs of buffers (R172): for each stream in admission order, its waiting job, then
the jobs it cuts. A job that finds no pair waits and is counted once. -/
def State.issueReads : Nat → State → State
  | 0, s => s
  | fuel + 1, s =>
    let wants := fun (x : Strm) =>
      x.ended.isNone && (x.jobs.any (fun j => j.at_ == .waitBuf)
        || (decide (x.nextOff < x.length) && decide (2 ≤ s.sht.free)))
    let fresh := fun (x : Strm) =>
      x.ended.isNone && decide (x.nextOff < x.length) && !x.jobs.any (fun j => j.at_ == .waitBuf)
    if s.sht.free < 2 then
      -- jobs that find no pair of buffers: counted, one per stream
      match s.sht.flight.find? fresh with
      | some x =>
        let j := x.cut
        let s := s.mapStrm x.id (fun x => { x with jobs := x.jobs ++ [j], nextOff := x.nextOff + j.len })
        State.issueReads fuel (s.count .shtStat_bufWait)
      | none => s
    else
      match s.sht.flight.find? wants with
      | none => s
      | some x =>
        let take := fun (s : State) => s.setSht { s.sht with free := s.sht.free - 2 }
        match x.jobs.find? (fun j => j.at_ == .waitBuf) with
        | some j =>
          let p := s.bufPair
          State.issueReads fuel (((take s).mapJob x.id j.no (fun j =>
            { j with at_ := .reading, inBuf := p.1, outBuf := p.2 })).jobReads x j)
        | none =>
          let j := { x.cut with at_ := .reading, inBuf := s.bufPair.1, outBuf := s.bufPair.2 }
          let s := (take s).mapStrm x.id (fun x => { x with jobs := x.jobs ++ [j], nextOff := x.nextOff + j.len })
          State.issueReads fuel (s.jobReads x j)

/-! ## Bytes whose value is undefined (R102, R181) -/

/-- The device two spaces name bytes of: host memory, the Bolt, DDR5. -/
def spaceKind (space : Nat) : Nat := min space 2

/-- Do two vectors share a byte? -/
def Vec.clash (v : Vec) (n : Nat) (w : Vec) (m : Nat) : Bool :=
  spaceKind v.space == spaceKind w.space
    && (v.pieces n).any (fun a => (w.pieces m).any (fun b => meets a.1 a.2 b.1 b.2))

/-- A destination in place: it starts where the source starts and has its length. -/
def Vec.inPlace (v : Vec) (n : Nat) (w : Vec) (m : Nat) : Bool :=
  spaceKind v.space == spaceKind w.space && n == m && v.addr 0 == w.addr 0

/-- The bytes of side output of a stream. -/
def Strm.sideBytes (x : Strm) : Nat := x.units * recLen x.chain

/-- Is a destination of a stream undefined: it overlaps the source and is not in place, the other destination, or another
buffer of the descriptor (R102)? -/
def Strm.muddled (x : Strm) (v : Vec) (n : Nat) : Bool :=
  (v.clash n x.src x.length && !v.inPlace n x.src x.length)
    || x.reads.any (fun b => b.1 == spaceKind v.space && (v.pieces n).any (fun a => meets a.1 a.2 b.2.1 b.2.2))
    || (x.sideBytes != 0 && x.dst0.clash x.length x.dst1 x.sideBytes)

/-- Bytes of a stream written to a destination of it; a descriptor's host bytes are undefined where another descriptor in
flight beside it wrote (R102). -/
def State.drainTo (s : State) (x : Strm) (v : Vec) (n k : Nat) (bs : List Byte) : Resp × State :=
  let r := if x.muddled v n then s.freshBytes bs.length else (bs, s)
  match v.space, x.poster with
  | 0, .desc sq cid => (.ok, (v.runs k r.1).foldl (fun s e => s.sharedWrite x.fn (sq, cid) e.1 e.2) r.2)
  | _, _ => r.2.vecWrite x.fn v k r.1

/-- The ranges of device memory that the streams with the Shuttle write: space kind, first byte, length (R181). -/
def State.deviceWrites (s : State) : List (Nat × Nat × Nat) :=
  ((s.sht.flight ++ s.sht.waiting).map (fun y =>
    (y.dst0.pieces y.length).map (fun p => (spaceKind y.dst0.space, p.1, p.2))
      ++ (y.dst1.pieces y.sideBytes).map (fun p => (spaceKind y.dst1.space, p.1, p.2)))).flatten.filter (fun e => e.1 != 0)

/-- A stream as it comes to the Shuttle: those before it that have not retired are its earlier ones. A fence, or a token read
before the post, leaves none (R181). -/
def State.dispatched (s : State) (x : Strm) : Strm := { x with early := s.deviceWrites }

/-- Bytes read from position `k` of a vector: those in device memory that an earlier stream writes are undefined (R181). -/
def State.readBytes (s : State) (x : Strm) (v : Vec) (k : Nat) (bs : List Byte) : List Byte × State :=
  let w := x.early.filter (fun e => e.1 == spaceKind v.space)
  if w.isEmpty then (bs, s)
  else
    let r := s.freshBytes bs.length
    let hit := fun (j : Nat) => w.any (fun e => decide (e.2.1 ≤ v.addr (k + j) ∧ v.addr (k + j) < e.2.1 + e.2.2))
    (bs.mapIdx (fun j b => if hit j then r.1.getD j b else b), r.2)

/-- A vector's bytes become undefined: free values. -/
def State.spoilVec (s : State) (fn : Nat) (v : Vec) (n : Nat) : State :=
  if v.space = 0 then (v.pieces n).foldl (fun s p => s.hostUnknown fn p.1 p.2) s
  else
    let r := s.freshBytes n
    (r.2.vecWrite fn v 0 r.1).2

/-- The destinations of a stream that fails (R13, R177, R184). -/
def State.spoilStrm (s : State) (x : Strm) : State :=
  (s.spoilVec x.fn x.dst0 x.length).spoilVec x.fn x.dst1 x.sideBytes

/-! ## Ends of streams (R180) -/

/-- A stream finishes: with `some` status it failed; its jobs leave their pipelines and buffers. -/
def State.endStrm (s : State) (id status result : Nat) : State :=
  match s.strm id with
  | none => s
  | some x =>
    if x.ended.isSome then s
    else
      let back := (x.jobs.map Job.held).foldl (· + ·) 0
      let s := s.setSht { s.sht with free := s.sht.free + back }
      let s := s.each 16 (fun p s =>
        let q := s.pipe p
        s.setPipe p { q with jobs := q.jobs.filter (fun j => j.1 != id) })
      let s := if status = stOk ∨ status = stVerifyFalse then s else s.spoilStrm x
      s.mapStrm id (fun x => { x with jobs := [], ended := some (status, result) })

/-- A stream whose last job has drained ends OK, or VERIFY_FALSE when a unit's tag failed (R109, R110). -/
def State.noteDone (s : State) (id : Nat) : State :=
  match s.strm id with
  | some x =>
    if x.ended.isNone && x.jobs.isEmpty && decide (x.length ≤ x.nextOff) then
      if x.badUnits > 0 then s.endStrm id stVerifyFalse (x.badUnits % 2 ^ 32 + x.badFirst * 2 ^ 32)
      else s.endStrm id stOk (x.units % 2 ^ 32)
    else s
  | none => s

/-! ## Allocation (R173, R176, R182) -/

/-- Ready pipelines a job may go to: for a re-run, another than the faulting one while there is one (R184). -/
def State.candidates (s : State) (j : Job) : List Nat :=
  let ready := (List.range 16).filter s.pipeReady
  let other := ready.filter (fun p => some p != j.lastPipe)
  (if j.reran && !other.isEmpty then other else ready).filter (fun p => decide ((s.pipe p).jobs.length < 2))

/-- May this job start: pieces of a unit run one after another (R159). -/
def Strm.mayStart (x : Strm) (j : Job) : Bool :=
  j.at_ == .ready
    && (decide (x.unitSize ≤ x.chunk)
        || x.jobs.all (fun i => decide (j.no ≤ i.no) || i.unit != j.unit || i.at_ == .draining || i.at_ == .drained))

/-- Does a pipeline have room for a job that may start (R182)? -/
def State.canGo (s : State) (x : Strm) (j : Job) : Bool := x.mayStart j && !(s.candidates j).isEmpty

/-- The job of a tenant that starts next: streams in admission order, jobs in order; one that no pipeline has room for
waits. -/
def State.nextJob (s : State) (tenant : Nat) : Option (Strm × Job) :=
  (s.sht.flight.filter (fun x => x.tenant == tenant && x.ended.isNone)).findSome? (fun x =>
    (x.jobs.find? (s.canGo x)).map (fun j => (x, j)))

/-- Tenants with jobs that can go. -/
def State.jobTenants (s : State) : List Nat :=
  ((s.sht.flight.filter (fun x => x.ended.isNone && x.jobs.any (s.canGo x))).map (fun x => x.tenant)).eraseDups

/-- The tenant after `t` in ascending order, round again (R182). -/
def nextTenant (ts : List Nat) (t : Nat) : Nat :=
  let later := ts.filter (fun x => decide (t < x))
  match (if later.isEmpty then ts else later) with
  | [] => t
  | x :: xs => xs.foldl min x

/-- Deficit-weighted round robin (R182, R447): the tenant whose job goes next, with the deficits and the turn after. -/
def State.drr : Nat → State → List Nat → Option (Strm × Job) × State
  | 0, s, _ => (none, s)
  | fuel + 1, s, ts =>
    let t := s.sht.turn
    let d := Store.get (fun _ => 0) s.sht.deficit t
    let go := fun (s : State) =>
      let n := nextTenant ts t
      let q := max 1 (s.rd .fitTenant_effective n) * 4096
      State.drr fuel (s.setSht { s.sht with turn := n,
                                            deficit := Store.modify (fun _ => 0) s.sht.deficit n (· + q) }) ts
    match s.nextJob t with
    | some (x, j) =>
      if j.len ≤ d then
        (some (x, j), s.setSht { s.sht with deficit := Store.put (fun _ => 0) s.sht.deficit t (d - j.len) })
      else go s
    | none => go (s.setSht { s.sht with deficit := Store.put (fun _ => 0) s.sht.deficit t 0 })

/-- Does pipeline `p` hold the stream's key schedule? -/
def State.hasKey (s : State) (p : Nat) (x : Strm) : Bool :=
  match x.ks with | some k => (s.pipe p).slots.contains k | none => false

/-- The pipeline a job goes to (R182). -/
def State.choosePipe (s : State) (x : Strm) (j : Job) : Option Nat :=
  let c := s.candidates j
  let idle := c.filter (fun p => (s.pipe p).jobs.isEmpty)
  let from_ := if idle.isEmpty then c else idle
  match from_.find? (fun p => s.hasKey p x) with
  | some p => some p
  | none => from_.head?

/-- Puts a job on a pipeline: its key schedule is there, or has to be built first (R176). -/
def State.placeJob (s : State) (x : Strm) (j : Job) (p : Nat) : State :=
  let q := s.pipe p
  let hit := s.hasKey p x
  let s := match x.ks with
    | some k =>
      if hit then
        (s.setPipe p { q with slots := (q.slots.filter (fun t => t != k)) ++ [k], jobs := q.jobs ++ [(x.id, j.no)] }).count
          .stcKsStat_hits p
      else (s.setPipe p { q with jobs := q.jobs ++ [(x.id, j.no)] }).count .stcKsStat_misses p
    | none => s.setPipe p { q with jobs := q.jobs ++ [(x.id, j.no)] }
  s.mapJob x.id j.no (fun j => { j with at_ := .onPipe p (x.ks.isSome && !hit), lastPipe := some p })

/-- Allocates ready pipelines to jobs while there are both. -/
def State.allocate : Nat → State → State
  | 0, s => s
  | fuel + 1, s =>
    let ts := s.jobTenants
    if ts.isEmpty then s
    else
      match State.drr 4096 s ts with
      | (some (x, j), s) =>
        match s.choosePipe x j with
        | some p => State.allocate fuel (s.placeJob x j p)
        | none => s
      | (none, s) => s

/-- What the Shuttle does after any change: reads for free buffers, pipelines for ready jobs. -/
def State.shuttleRun (s : State) : State := State.allocate 40 (State.issueReads 600 s)

/-! ## Jobs (R107-R109, R159, R183) -/

/-- One unit's contribution: output, side slots by position in dst1, whether its tags verified. -/
def unitPart (x : Strm) (i : Nat) (bs rec : List Byte) : UnitOut := runChain x.unitKey i (natsOf rec) x.chain 0 (natsOf bs)

/-- The outputs of a job of whole units from its chunk and side records: main output, side slots (position in dst1), failing
unit numbers. -/
def wholeJob (x : Strm) (j : Job) (data recs : List Byte) : List Byte × List (Nat × List Byte) × List Nat :=
  let u := x.unitSize
  let r := recLen x.chain
  let parts := (List.range j.units).map (fun i => (j.unit + i, unitPart x (j.unit + i) (sub data (i * u) u) (sub recs (i * r) r)))
  ((parts.map (fun p => bytesOf p.2.out)).flatten,
   (parts.map (fun p => p.2.side.map (fun e => (p.1 * r + e.1, bytesOf e.2)))).flatten,
   (parts.filter (fun p => !p.2.good)).map (·.1))

/-- The outputs stand in the job's output buffer and its side area. -/
def State.jobOut (s : State) (j : Job) (out : List Byte) (side : List (Nat × List Byte)) : State :=
  (s.areaPut (s.bufAt j.outBuf) out).areaPut (s.sideAt j.outBuf) (side.map (·.2)).flatten

/-- The job as its outputs wait for their drain. -/
def Job.toDrain (j : Job) (outOff : Nat) (out : List Byte) (side : List (Nat × List Byte)) : Job :=
  { j with at_ := .draining, outOff, outLen := out.length, side := side.map (fun e => (e.1, e.2.length)) }

/-- A job's work done on what its input buffer holds: its outputs stand in its output buffer, its input buffer is free
(R172). -/
def State.jobDone (s : State) (x : Strm) (j : Job) : State :=
  let data := s.boltBytes (s.bufAt j.inBuf) j.len
  let recs := s.boltBytes (s.sideAt j.inBuf) (x.recsOf j)
  let s := s.setSht { s.sht with free := s.sht.free + 1 }
  let bad := fun (x : Strm) (l : List Nat) =>
    { x with badFirst := (match l with | i :: _ => if x.badUnits = 0 then i else min x.badFirst i | [] => x.badFirst)
             badUnits := x.badUnits + l.length }
  if x.unitSize ≤ x.chunk then
    let o := wholeJob x j data recs
    (s.jobOut j o.1 o.2.1).mapStrm x.id (fun x => bad (x.mapJob j.no (fun j => j.toDrain j.off o.1 o.2.1)) o.2.2)
  else
    let run : UnitRun := (x.carry.find? (fun r => r.unit == j.unit)).getD { unit := j.unit, input := [], emitted := 0 }
    let all := run.input ++ data
    let r := unitPart x j.unit all recs
    let whole := min x.unitSize (x.length - j.unit * x.unitSize)
    let upTo := if j.ends then all.length else fixedLen x.chain all.length (whole - all.length)
    let out := sub (bytesOf r.out) run.emitted (upTo - run.emitted)
    let side := if j.ends then r.side.map (fun e => (j.unit * recLen x.chain + e.1, bytesOf e.2)) else []
    let outOff := j.unit * x.unitSize + run.emitted
    (s.jobOut j out side).mapStrm x.id (fun x =>
      let x := x.mapJob j.no (fun j => j.toDrain outOff out side)
      let rest := x.carry.filter (fun r => r.unit != j.unit)
      let x := { x with carry := if j.ends then rest else rest ++ [{ unit := j.unit, input := all, emitted := upTo }] }
      bad x (if j.ends && !r.good then [j.unit] else []))

/-- A job goes back to wait for a pipeline. -/
def State.requeue (s : State) (x : Strm) (j : Job) (p : Nat) (again : Bool) : State :=
  let q := s.pipe p
  let s := s.setPipe p { q with jobs := q.jobs.filter (fun e => e != (x.id, j.no)) }
  s.mapJob x.id j.no (fun j => { j with at_ := .ready, reran := j.reran || again, lastPipe := some p })

/-- A read of host memory failed, for a reason the command does not tell: AER reports it; with Completion Timeout Disable set no
read times out (R31). -/
def State.readLost (s : State) : State :=
  let r := s.fresh 2
  r.2.emit (.aerRead (if r.1 = 0 ∧ !(s.fnCfg 0).ctl.ctoDisable then .timeout
    else if r.1 = 1 then .unsupportedRequest else .completerAbort))

/-- The unit that `n` bytes of a DDR5 vector from position `k` touch on a fenced channel or rank, if any (R166, R404). -/
def State.vecFenced (s : State) (v : Vec) (k n : Nat) : Option Nat :=
  if v.space < 2 then none else (v.spans k n).findSome? (fun e => s.fencedUnit (e.1 - ddrBase) e.2)

/-- A stream whose DDR5 vector lies on a fenced channel or rank ends (R166, R404). -/
def State.strmFenced (s : State) (id unit : Nat) : State := (s.endStrm id stResourceRetired (resultOf 0xFF 1 unit)).shuttleRun

/-- The vector that an ECC event at a job's read lies in, and the position there: the source, or with a host source the side
records; none where nothing is read from device memory. -/
def Strm.eccPlace (x : Strm) (j : Job) : Option (Vec × Nat) :=
  if x.src.space != 0 then some (x.src, j.off)
  else if x.recsOf j != 0 && x.dst1.space != 0 then some (x.dst1, j.unit * recLen x.chain)
  else none

/-- Must a job's landing, or its drain, wait: a bank it needs does not serve, or is under maintenance; or a warm reset's
write-back has not ended (R331, R341, R346)? -/
def State.banksWait (s : State) (banks : List Nat) : Bool :=
  (s.flag .boltMode_maint && !banks.isEmpty) || banks.any s.bankWaits

/-- The data of a job's read: the source's bytes, then the side records; from host memory they come with the command. -/
def State.landBytes (s : State) (x : Strm) (j : Job) (bs : List Byte) : Resp × (List Byte × List Byte) × State :=
  let nSrc := if x.src.space = 0 then j.len else 0
  let nRec := x.recsOf j
  let src := if x.src.space = 0 then (Resp.ok, sub bs 0 nSrc, s) else s.vecRead x.src j.off j.len
  if src.1 != Resp.ok then (src.1, ([], []), src.2.2)
  else
    let rec_ := if nRec = 0 then (Resp.ok, [], src.2.2)
      else if x.dst1.space = 0 then (Resp.ok, sub bs nSrc nRec, src.2.2)
      else src.2.2.vecRead x.dst1 (j.unit * recLen x.chain) nRec
    let a := rec_.2.2.readBytes x x.src j.off src.2.1
    let b := a.2.readBytes x x.dst1 (j.unit * recLen x.chain) rec_.2.1
    (rec_.1, (a.1, b.1), b.2)

/-- A stream lane's access to a stream buffer is refused: the stream ends, for a read with detail 0x01, for a write 0x02
(R332). -/
def State.areaRefuse (s : State) (id detail : Nat) : State :=
  ((s.countSat .boltStat_refused).endStrm id stDmaFault (resultOf 0xFF detail 0)).shuttleRun

/-- CHUNK_SOURCE_LAND (R172, R186): the data of the stream's oldest read lands in its input buffer. HOST data, and the side
records an AEAD decryption reads after it, come with the command; Bolt and DDR5 data are read here. -/
def actChunkSourceLand (id : Nat) (data : Option (List Byte)) (ecc : EccEvent) (s : State) :
    Host.Outcome State Fault Refusal :=
  match s.strm id with
  | none => .next s
  | some x =>
    match (if s.bolt.writeBack && decide (2 ≤ x.src.space ∨ 2 ≤ x.dst1.space) then none
           else x.jobs.find? (fun j => j.at_ == .reading)) with
    | none => .next s
    | some j =>
      let nRec := x.recsOf j
      let recAt := j.unit * recLen x.chain
      let nHost := (if x.src.space = 0 then j.len else 0) + (if x.dst1.space = 0 then nRec else 0)
      let lost := fun (s : State) => (s.endStrm id stDmaFault (resultOf 0xFF 1 0)).shuttleRun
      match (s.vecFenced x.src j.off j.len).or (s.vecFenced x.dst1 recAt nRec) with
      | some u => .next (s.strmFenced id u)
      | none =>
        let banks := s.vecBanks x.src j.off j.len ++ s.vecBanks x.dst1 recAt nRec ++ s.areaBanks j.inBuf j.len nRec
        if s.banksWait banks then .next (banks.foldl State.wakeBank s)
        else if s.areaFenced j.inBuf j.len nRec then .next (s.areaRefuse id 2)
        else
          let e := match x.eccPlace j with | some v => s.eccAt ecc (v.1.addr v.2) repShuttle | none => (true, s)
          if !e.1 then .next (lost e.2)
          else
            match data with
            | none => .next (lost (if nHost = 0 then e.2 else e.2.readLost))
            | some bs =>
              if nHost != bs.length then .next s
              else
                let r := e.2.landBytes x j bs
                if r.1 != Resp.ok then .next (lost r.2.2)
                else
                  let s := (r.2.2.areaPut (r.2.2.bufAt j.inBuf) r.2.1.1).areaPut (r.2.2.sideAt j.inBuf) r.2.1.2
                  .next (s.mapJob id j.no (fun j => { j with at_ := .ready })).shuttleRun

/-- The jobs of a pipeline, with their streams. -/
def State.pipeJobs (s : State) (p : Nat) : List (Strm × Job) :=
  (s.pipe p).jobs.filterMap (fun e =>
    match s.strm e.1 with
    | some x => (x.jobs.find? (fun j => j.no == e.2)).map (fun j => (x, j))
    | none => none)

/-- KEY_SCHEDULE_BUILT (R176): the oldest waiting job's schedule takes a slot, over the least recently used; the jobs that
wait for it start. -/
def actKeyScheduleBuilt (p : Nat) (s : State) : Host.Outcome State Fault Refusal :=
  match (s.pipeJobs p).find? (fun e => e.2.at_ == .onPipe p true) with
  | none => .next s
  | some (x, _) =>
    match x.ks with
    | none => .next s
    | some k =>
      let q := s.pipe p
      let kept := q.slots.filter (fun t => t != k)
      let kept := if kept.length ≥ 16 then kept.drop 1 else kept
      let s := s.setPipe p { q with slots := kept ++ [k] }
      .next ((s.pipeJobs p).foldl (fun s e =>
        if e.2.at_ = .onPipe p true ∧ e.1.ks = some k then
          s.mapJob e.1.id e.2.no (fun j => { j with at_ := .onPipe p false })
        else s) s)

/-- The banks that hold what a running job reads and writes: its input buffer with the side records, its output buffer with its
side area. -/
def State.jobBanks (s : State) (x : Strm) (j : Job) : List Nat :=
  s.areaBanks j.inBuf j.len (x.recsOf j) ++ s.areaBanks j.outBuf j.len (j.units * recLen x.chain)

/-- JOB_FINISH (R183, R184, R186): the oldest running job of the pipeline ends, with its outputs or with a job fault; an
uncorrectable word in its input buffer is a job fault. It goes on only when the banks of its buffers serve (R331, R341); a
fenced one refuses (R332). -/
def actJobFinish (p : Nat) (fault : Bool) (s : State) : Host.Outcome State Fault Refusal :=
  match (s.pipeJobs p).find? (fun e => e.2.at_ == .onPipe p false) with
  | none => .next s
  | some (x, j) =>
    if s.banksWait (s.jobBanks x j) then .next ((s.jobBanks x j).foldl State.wakeBank s)
    else if s.areaFenced j.inBuf j.len (x.recsOf j) then .next (s.areaRefuse x.id 1)
    else if s.areaFenced j.outBuf j.len (j.units * recLen x.chain) then .next (s.areaRefuse x.id 2)
    else
    let bad := s.areaBad (s.bufAt j.inBuf) j.len ++ s.areaBad (s.sideAt j.inBuf) (x.recsOf j)
    let s := s.meetBad bad repShuttle
    if !fault && bad.isEmpty then
      let q := s.pipe p
      let s := s.setPipe p { q with jobs := q.jobs.filter (fun e => e != (x.id, j.no)) }
      let s := s.count .stcPipeState_jobs p
      .next (s.jobDone x j).shuttleRun
    else
      let s := (s.countSat .stcPipeState_jobFaults p).bucketEvent (0x100 + p) 1
      if !j.reran then .next ((s.requeue x j p true).count .shtStat_rerun).shuttleRun
      else
        let s := (s.latch (0x100 + p) 1).report (0x100 + p) 0x03 3 1 (repStitch p)
        .next (s.endStrm x.id stRetryExhausted (resultOf 0xFF 1 (0x100 + p))).shuttleRun

/-- The records of a side area, with the position of each in dst1. -/
def cutRecs : List (Nat × Nat) → List Byte → List (Nat × List Byte)
  | [], _ => []
  | (k, n) :: es, bs => (k, bs.take n) :: cutRecs es (bs.drop n)

/-- Bytes of the records in a job's side area. -/
def Job.sideLen (j : Job) : Nat := (j.side.map (·.2)).foldl (· + ·) 0

/-- The outputs a draining job's buffer and side area hold. -/
def State.drainBytes (s : State) (j : Job) : List Byte × List (Nat × List Byte) :=
  (s.boltBytes (s.bufAt j.outBuf) j.outLen, cutRecs j.side (s.boltBytes (s.sideAt j.outBuf) j.sideLen))

/-- An uncorrectable word in an output buffer is a job fault (R184, R186). The job's input buffer went back to the pool when it
finished, so it cannot run again and its stream ends as after a second fault: DESIGN CHOICE (log 112). -/
def State.drainFault (s : State) (id : Nat) (j : Job) (bad : List Nat) : State :=
  let p := j.lastPipe.getD 0
  let s := ((s.meetBad bad repShuttle).countSat .stcPipeState_jobFaults p).bucketEvent (0x100 + p) 1
  (s.endStrm id stRetryExhausted (resultOf 0xFF 1 (0x100 + p))).shuttleRun

/-- The first byte of a run that a write covers only part of its ECC word, or of its cache line. -/
def ragged (unit a n : Nat) : Option Nat :=
  if n = 0 then none else if a % unit ≠ 0 then some a else if (a + n) % unit ≠ 0 then some (a + n - 1) else none

/-- Where a write of `n` bytes of a vector from position `k` reads before it merges: part of an ECC word of the Bolt, part of a
line of DDR5. -/
def Vec.merges (v : Vec) (k n : Nat) : Option Nat :=
  if v.space = 0 then Option.none
  else (v.spans k n).findSome? (fun e => ragged (if v.space = 1 then 16 else 128) e.1 e.2)

/-- What an ECC event at a drain leaves (R337, R338, R401): the word or line that the write merges into is met; a write that
covers whole words meets nothing. Answers whether the drain goes on. -/
def State.drainEcc (s : State) (x : Strm) (j : Job) : Bool × State :=
  match (x.dst0.merges j.outOff j.outLen).or (j.side.findSome? (fun e => x.dst1.merges e.1 e.2)) with
  | some a => s.eccAt .double a repShuttle
  | none => (true, s)

/-- OUTPUT_DRAIN_DONE (R172, R186): the oldest output buffer of the stream has drained; a Bolt or DDR5 destination that is
refused, aborted or uncorrectable ends the stream. -/
def actOutputDrainDone (id : Nat) (bolt : MemAnswer) (s : State) : Host.Outcome State Fault Refusal :=
  match s.strm id with
  | none => .next s
  | some x =>
    match (if s.bolt.writeBack && decide (2 ≤ x.dst0.space ∨ 2 ≤ x.dst1.space) then none
           else x.jobs.find? (fun j => j.at_ == .draining)) with
    | none => .next s
    | some j =>
      let inner := x.dst0.space != 0 || (x.dst1.space != 0 && recLen x.chain != 0)
      let failed := fun (s : State) => (s.endStrm id stDmaFault (resultOf 0xFF 2 0)).shuttleRun
      match (s.vecFenced x.dst0 j.outOff j.outLen).or (j.side.findSome? (fun e => s.vecFenced x.dst1 e.1 e.2)) with
      | some u => .next (s.strmFenced id u)
      | none =>
        let banks := s.vecBanks x.dst0 j.outOff j.outLen ++ (j.side.map (fun e => s.vecBanks x.dst1 e.1 e.2)).flatten
          ++ s.areaBanks j.outBuf j.outLen j.sideLen
        let bad := s.areaBad (s.bufAt j.outBuf) j.outLen ++ s.areaBad (s.sideAt j.outBuf) j.sideLen
        if s.banksWait banks then .next (banks.foldl State.wakeBank s)
        else if s.areaFenced j.outBuf j.outLen j.sideLen then .next (s.areaRefuse id 1)
        else if !bad.isEmpty then .next (s.drainFault id j bad)
        else if inner && bolt == .fault then .next (failed s)
        else
          let e := if inner && bolt == .ecc then s.drainEcc x j else (true, s)
          let s := e.2
          if !e.1 then .next (failed s)
          else
          let o := s.drainBytes j
          let m := s.drainTo x x.dst0 x.length j.outOff o.1
          let r := o.2.foldl (fun (r : Resp × State) e =>
            if r.1 != Resp.ok then r else r.2.drainTo x x.dst1 x.sideBytes e.1 e.2) m
          if r.1 != Resp.ok then .next (failed r.2)
          else
            let s := r.2.setSht { r.2.sht with free := r.2.sht.free + 1 }
            let s := s.mapStrm id (fun x => { x with jobs := x.jobs.filter (fun i => i.no != j.no) })
            .next ((s.noteDone id).shuttleRun)

/-! ## Admission (R179) -/

/-- Streams in flight and waiting of a ring; the registers follow. -/
def State.noteRing (s : State) (r : Nat) : State :=
  let s := s.wr .shtRrState_inFlight r (s.sht.flight.filter (fun x => x.ring == r)).length
  s.wr .shtRrState_waiting r (s.sht.waiting.filter (fun x => x.ring == r)).length

/-- The lowest free stream context (R172). -/
def State.freeContext (s : State) : Nat :=
  let used := s.sht.flight.map (fun x => x.id)
  ((List.range 513).find? (fun i => !used.contains i)).getD 512

/-- Bytes per chunk (R158). -/
def State.chunkBytes (s : State) : Nat :=
  if s.latency then 4096
  else
    let k := s.rd .shtCtrl_chunkKib
    (if k = 0 ∨ k > 16 then 16 else k) * 1024

/-- Has ring `r` room for one more stream in flight? -/
def State.ringRoom (s : State) (r : Nat) : Bool :=
  decide ((s.sht.flight.filter (fun x => x.ring == r)).length < 32)

/-- The banks of the context that the next admission takes, and whether one of them is fenced. -/
def State.ctxBanks (s : State) : List Nat := s.boltBanks (s.ctxAt s.freeContext) 256
def State.ctxFenced (s : State) : Bool :=
  (lineParts (s.ctxAt s.freeContext) 256).any (fun q =>
    (s.bolt.lay.place q.1).any (fun p => s.bolt.fenced.contains p.bank))

/-- A stream joins its ring: it takes a context and its chunk size, and its reads start (R172, R179). What the context's bytes
hold in the Bolt is not given: they are free values (log 112). -/
def State.admitStrm (s : State) (x : Strm) : State :=
  let id := s.freeContext
  let c := s.freshBytes 256
  let shut := s.ctxFenced
  let s := if shut then c.2.countSat .boltStat_refused else c.2.areaPut (c.2.ctxAt id) c.1
  let x := if shut && x.ended.isNone then { x with ended := some (stDmaFault, resultOf 0xFF 2 0) } else x
  let ks := match x.ks with | some (.blob _) => some (KsTag.blob id) | k => k
  let s := s.setSht { s.sht with flight := s.sht.flight ++ [{ x with id, ks, chunk := s.chunkBytes }] }
  (s.noteRing x.ring).shuttleRun

/-- A stream dispatched to the Shuttle waits in its ring's admission queue until it is admitted. -/
def State.enqueueStrm (s : State) (x : Strm) : State :=
  (s.setSht { s.sht with waiting := s.sht.waiting ++ [s.dispatched x] }).noteRing x.ring

/-- Has the admission queue of ring `r` room (R179)? -/
def State.queueRoom (s : State) (r : Nat) : Bool :=
  decide ((s.sht.waiting.filter (fun x => x.ring == r)).length < 64)

/-- Admits the oldest stream that waits in ring `r`, when the ring has room and the banks of its context serve (R331,
R341). -/
def State.admitRing (s : State) (r : Nat) : State :=
  match s.sht.waiting.find? (fun x => x.ring == r) with
  | some x =>
    if s.banksWait s.ctxBanks then s.ctxBanks.foldl State.wakeBank s
    else if s.ringRoom r then ((s.setSht { s.sht with waiting := s.sht.waiting.erase x }).admitStrm x).noteRing r else s
  | none => s

/-! ## Self-tests, gating and retirement (R185, R187, R188) -/

/-- A self-test of a pipeline starts: it takes no new job. -/
def State.startTest (s : State) (p gen : Nat) : State :=
  (s.setPipe p { s.pipe p with testGen := gen }).wr .stcPipeState_selfTest p 1

/-- May a self-test of pipeline `p` start: not under test, retired, gated, not ready (R359). -/
def State.testable (s : State) (p : Nat) : Bool :=
  decide (p < 16) && s.flag .stcPipeState_ready p && !s.flag .stcPipeState_retired p
    && !s.flag .stcPipeState_selfTest p && !s.flag .stcPipeState_gated p

/-- SELFTEST_INTERVAL (R187): the next pipeline in turn starts its periodic test, one at a time. -/
def actSelftestInterval (s : State) : Host.Outcome State Fault Refusal :=
  if s.rd .stcSelftest_intervalMs = 0 then .next s
  else
    let p := s.sht.testTurn % 16
    let s := s.setSht { s.sht with testTurn := (p + 1) % 16 }
    if s.testable p then .next (s.startTest p 0) else .next s

/-- The jobs of a pipeline go back to wait for another. -/
def State.unload (s : State) (p : Nat) (again : Bool) : State :=
  (s.pipeJobs p).foldl (fun s e =>
    let s := if again then s.count .shtStat_rerun else s
    s.requeue e.1 e.2 p again) s

/-- Is a pipeline still ready: one under its self-test, or draining for FRUGAL, is (R185, R187, R188)? -/
def State.pipeLeft (s : State) (p : Nat) : Bool :=
  s.flag .stcPipeState_ready p && !s.flag .stcPipeState_retired p && !s.flag .stcPipeState_gated p
    && !(decide (s.part = .b0m) && decide (12 ≤ p))

/-- A pipeline stops serving for good (R185): its jobs re-run elsewhere, its slots are cleared; with no pipeline left
every stream in flight ends. -/
def State.retirePipe (s : State) (p : Nat) : State :=
  let s := s.unload p true
  let s := s.setPipe p { s.pipe p with slots := [] }
  let s := ((s.wr .stcPipeState_retired p 1).wr .stcPipeState_ready p 0).noteQuad (p / 4)
  if (List.range 16).any s.pipeLeft then s.shuttleRun
  else
    let s := (s.sht.flight.map (fun x => x.id)).foldl
      (fun s id => s.endStrm id stResourceRetired (resultOf 0xFF 2 (0x100 + p))) s
    s.each 4 (fun q s => s.setReady (readyQuad q) false)

/-- Quads Q2 and Q3 are gated (R188): their pipelines take no jobs and their slots are empty. -/
def State.gateQuad (s : State) (q : Nat) : State :=
  let s := (List.range 4).foldl (fun s i =>
    let p := 4 * q + i
    ((s.setPipe p { s.pipe p with slots := [] }).wr .stcPipeState_gated p 1).wr .stcPipeState_ready p 0) s
  ((s.wr .clkIsland_running (64 + q) 0).wr .clkIsland_gated (64 + q) 1).setReady (readyQuad q) false

/-- Is an island gated by CLK_GATE or by fuse (R357)? -/
def State.gateOff (s : State) (i : Nat) : Bool :=
  if i < 64 then !bitOf (s.rd .clkGateNdl_needle) i
  else if i < 68 then !bitOf (s.rd .clkGate_stitchQ) (i - 64)
  else if i < 69 then false
  else if i < 77 then !bitOf (s.rd .clkGate_ddr) (i - 69)
  else if i < 78 then false
  else if i < 82 then !bitOf (s.rd .clkGate_sv) (i - 78)
  else false

/-- A quad leaves gating (R188): its pipelines start their start self-test (R383). -/
def State.ungateQuad (s : State) (q : Nat) : State :=
  let s := (List.range 4).foldl (fun s i =>
    let p := 4 * q + i
    let s := s.wr .stcPipeState_gated p 0
    if s.flag .stcPipeState_retired p then s else s.startTest p 0) s
  (s.wr .clkIsland_running (64 + q) 1).wr .clkIsland_gated (64 + q) 0

/-- STITCH_QUAD_DRAINED (R188): Q2 and Q3 have finished their jobs on a change to FRUGAL and are gated. -/
def actStitchQuadDrained (s : State) : Host.Outcome State Fault Refusal :=
  let busy := (List.range 8).any (fun i => !(s.pipe (8 + i)).jobs.isEmpty)
  if s.sht.draining && !busy then
    .next (((s.gateQuad 2).gateQuad 3).setSht { ((s.gateQuad 2).gateQuad 3).sht with draining := false })
  else .next s

end Sys2Proof.Machine
end

