-- ==== Sys2Proof/Machine/DdrOps.lean ====
section
/-! DEFINITION. The DDR5 channels (chapter 16): start and restore, calibration, ECC and retries, fencing, migration. -/

namespace Sys2Proof.Machine

open Sys2Proof

/-! ## Channels -/

/-- Is a channel retired or fenced? -/
def State.chanOut (s : State) (c : Nat) : Bool := s.flag .ddrcState_retired c || bitOf (s.rd .ddrStatus_fencedCh) c

/-- Does a channel serve: trained, not retired? -/
def State.chanUp (s : State) (c : Nat) : Bool :=
  decide (c < 8) && s.flag .ddrcState_trained c && !s.chanOut c && s.clocked

/-- DDR_CFG.rate as it acts. -/
def State.ddrRateAsked (s : State) : Nat := min 5 (s.rd .ddrCfg_rate)

/-- The rate a channel runs at: DDR5-8800 runs at 8000 in MARGIN (R400). -/
def State.ddrRateNow (s : State) : Nat := if s.rd .globalProfile_active = 2 ∧ s.ddr.rate = 5 then 4 else s.ddr.rate

/-- The channel bytes a cold start clears (R395). -/
def State.clearChannel (s : State) (c : Nat) : State :=
  s.setDdr { s.ddr with data := s.ddr.data.filter (fun e => (s.ddrPlace e.1).ch != c)
                        poison := s.ddr.poison.filter (fun l => (s.ddrPlace (l * 128)).ch != c) }

/-- Does a population differ from DDR0's, or is it none of R390's (R391)? An empty DDR0 has none that another channel could
carry; before DDR0's training has ended, the population in force is what is known of it. -/
def State.badPopulation (s : State) (c : Nat) (f : DdrFound) : Bool :=
  (ddrGeom f.x4 f.die f.ranks).isNone
    || (c != 0 && (match (s.chan 0).found with
        | some g => !g.present || (f.x4, f.die, f.ranks) != (g.x4, g.die, g.ranks)
        | none => (match s.ddr.pop with | some g => (f.x4, f.die, f.ranks) != g | none => false)))

/-- GEOM shows what training found (R390). -/
def State.showGeom (s : State) (c : Nat) (f : DdrFound) (bad : Bool) : State :=
  let s := (s.wr .ddrcGeom_present c (b2n f.present)).wr .ddrcGeom_x4 c (b2n f.x4)
  let s := (s.wr .ddrcGeom_die c (min 3 f.die)).wr .ddrcGeom_ranks c f.ranks
  let s := (s.wr .ddrcGeom_rdimm c (b2n f.rdimm)).wr .ddrcGeom_mismatch c (b2n (f.present && bad))
  s.wr .ddrcGeom_capacityGib c (match ddrGeom f.x4 f.die f.ranks with
    | some g => if f.present then g.2.2 else 0 | none => 0)

/-- The usable size (R393). -/
def State.showUsable (s : State) (f : DdrFound) : State :=
  match ddrGeom f.x4 f.die f.ranks with
  | some g => s.wr .ddrStatus_usableGib 0 (if s.ddr.spare then 7 * g.2.2 else 8 * g.2.2)
  | none => s

/-- What a training finds: a gated channel counts as empty (R391). -/
def State.foundAs (s : State) (c : Nat) (f : DdrFound) : DdrFound :=
  if bitOf (s.rd .clkGate_ddr) c then f else { f with present := false }

/-- A channel's population is in force: offsets resolve by it, and the usable size follows (R392, R393). -/
def State.takePop (s : State) (f : DdrFound) : State :=
  (s.setDdr { s.ddr with pop := some (f.x4, f.die, f.ranks) }).showUsable f

/-- Channels that ended their training before DDR0 are held against it. -/
def State.judgeOthers (s : State) : State :=
  s.each 8 (fun k s =>
    match (s.chan k).found with
    | some g => if k != 0 && s.badPopulation k g && s.flag .ddrcState_trained k then
        (s.showGeom k g true).latch (0x300 + k) 5 else s
    | none => s)

/-- A retired rank of a channel that turns out to have one is the channel's loss (R402). -/
def State.startFaults (s : State) (c : Nat) (f : DdrFound) : State :=
  if f.ranks = 1 ∧ (s.isRetired (0x310 + 2 * c) ∨ s.isRetired (0x311 + 2 * c)) then s.latch (0x300 + c) 0 else s

/-- Did a loss of contents cut short the migration of a retired channel (R407)? -/
def State.spentHere (s : State) (c : Nat) : Bool :=
  s.ddr.spentBy == some c || (s.flag .ddrMigrate_running && s.rd .ddrStatus_spareUsedBy == c)

/-- DDR_TRAINING_DONE (R391, R395): a channel that has started at the lock ends its cold training. An empty, unlike,
unlisted or untrained channel is a start fault; else its contents read zero, repairs are re-applied and DDRc sets. Of a retired
channel only the population is noted. -/
def actDdrTrainingDone (c : Nat) (f0 : DdrFound) (s : State) : Host.Outcome State Fault Refusal :=
  let x := s.chan c
  let f := s.foundAs c f0
  if c ≥ 8 || !s.locked || x.restoring || s.flag .ddrcState_trained c then .next s
  else if s.chanOut c then
    let s := s.setChan c { x with found := some f }
    .next (if c = 0 then s.judgeOthers else s)
  else if !x.started then .next s
  else
    let bad := s.badPopulation c f
    let s := (s.setChan c { x with found := some f }).showGeom c f bad
    let s := if c = 0 then s.judgeOthers else s
    if !f.present || bad || !f.trained then .next (s.latch (0x300 + c) 5)
    else
      let s := (s.takePop f).clearChannel c
      let fixes := s.fit.sppr.filter (fun r => r.ch == c)
      let s := (s.wr .ddrcState_trained c 1).wr .ddrcState_spprUsed c fixes.length
      let s := s.wr .ddrcState_selfRefresh c 0
      let s := s.setChan c { s.chan c with record := some (s.ddr.rate, s.ddr.spare), record8000 := s.ddr.rate == 5,
                                           rate := s.ddrRateNow, low := [], dqs := [], unsettled := [(0, 16), (1, 16)],
                                           scrubAt := 0 }
      .next ((s.setReady (readyDdr c) true).startFaults c f)

/-- The lane with the smallest value of `f`, and that value. -/
def worstLane (f : LaneMargin → Nat) : List LaneMargin → Nat → Nat × Nat → Nat × Nat
  | [], _, best => best
  | m :: ms, i, best => worstLane f ms (i + 1) (if f m < best.2 then (i, f m) else best)

/-- A sweep of a rank has measured its lanes (R399, R402): a lane below floor for the set number of consecutive settled sweeps
makes the rank permanent, of both ranks the channel. -/
def State.rankSwept (s : State) (c r : Nat) (lanes : List LaneMargin) : State :=
  let lanes := lanes.take 80
  let w := worstLane (fun m => m.width) lanes 0 (0, 64)
  let h := worstLane (fun m => m.height) lanes 0 (0, 256)
  let k := 2 * c + r
  let s := (s.wr .ddrcState_sweeping c 0).count .ddrcMargin_sweeps k
  let s := ((s.wr .ddrcMargin_width64ui k (min 63 w.2)).wr .ddrcMargin_heightMv k (min 255 h.2)).wr .ddrcMargin_worstLane k w.1
  let below := fun (m : LaneMargin) =>
    decide (m.width < s.rd .ddrMarginFloor_width64ui) || decide (m.height < s.rd .ddrMarginFloor_heightMv)
  let x := s.chan c
  let left := Store.get (fun _ => 0) x.unsettled r
  if left > 0 then s.setChan c { x with unsettled := Store.put (fun _ => 0) x.unsettled r (left - 1) }
  else
    let any := lanes.any below
    let s := s.wr .ddrcMargin_lowSweeps k (if any then min 15 (s.rd .ddrcMargin_lowSweeps k + 1) else 0)
    let low := (lanes.zip (List.range lanes.length)).foldl (fun l e =>
      Store.modify (fun _ => 0) l (r * 128 + e.2) (fun v => if below e.1 then v + 1 else 0)) x.low
    let s := s.setChan c { x with low }
    let n := max 1 (s.rd .ddrMarginFloor_sweeps)
    let hot := (List.range 80).filter (fun i => decide (n ≤ Store.get (fun _ => 0) low (r * 128 + i)))
    let both := hot.any (fun i => decide (n ≤ Store.get (fun _ => 0) low ((1 - r) * 128 + i)))
    if hot.isEmpty then s
    else if both then s.latch (0x300 + c) 4
    else s.latch (0x310 + 2 * c + r) 4

/-- DDR_RESTORE_DONE (R396): a channel in self-refresh whose training record fits the settings sampled leaves it, contents
kept, and sweeps each rank once: `sweeps` are their margins. Its history starts from this result (R385). -/
def actDdrRestoreDone (c : Nat) (sweeps : List (List LaneMargin)) (s : State) : Host.Outcome State Fault Refusal :=
  let x := s.chan c
  if c < 8 && s.locked && x.started && x.restoring && !s.chanOut c && bitOf (s.rd .clkGate_ddr) c then
    let s := (s.wr .ddrcState_selfRefresh c 0).wr .ddrcState_trained c 1
    let s := s.setChan c { x with restoring := false, rate := s.ddrRateNow, low := [], dqs := [],
                                  unsettled := [(0, 16), (1, 16)] }
    let s := match x.found with | some f => (s.showGeom c f false).takePop f | none => s
    let s := s.wr .ddrcState_spprUsed c (s.fit.sppr.filter (fun r => r.ch == c)).length
    let s := sweeps.zipIdx.foldl (fun s e =>
      if e.1.isEmpty || decide (s.rd .ddrcGeom_ranks c ≤ e.2) || bitOf (s.rd .ddrStatus_fencedRank) (2 * c + e.2) then s
      else s.rankSwept c e.2 e.1) s
    .next (s.setReady (readyDdr c) true)
  else .next s

/-- The migration: as the registers show it, or as the controllers hold it until the channels start (R407). -/
def State.migration (s : State) : DdrMigr :=
  s.ddr.migr.getD
    { running := s.rd .ddrMigrate_running, next := s.rd .ddrMigrate_next, map7 := s.rd .ddrStatus_map7,
      spareBy := s.rd .ddrStatus_spareUsedBy }

/-- The registers show a migration that came through a reset. -/
def State.showMigration (s : State) : State :=
  let m := s.migration
  let s := s.setDdr { s.ddr with migr := none }
  (((s.wr .ddrMigrate_running 0 m.running).wr .ddrMigrate_next 0 m.next).wr .ddrStatus_map7 0 m.map7).wr
    .ddrStatus_spareUsedBy 0 m.spareBy

/-- The channel whose migration a loss of contents cuts short now, or cut short before (R407). -/
def State.spentNext (s : State) : Option Nat :=
  if s.migration.running = 1 then some s.migration.spareBy else s.ddr.spentBy

/-- A channel starts at the lock (R395, R396): from its record while that fits, else cold. A retired one is fenced, unless
the spare takes its place (R405, R407); one whose clock is gated is treated as empty (R391). -/
def State.startChannel (s : State) (c : Nat) : State :=
  if s.isRetired (0x300 + c) then
    if (s.ddr.spare && s.ddrMoved && s.rd .ddrStatus_spareUsedBy == c) || s.spentHere c then s.wr .ddrcState_retired c 1
    else ((s.wr .ddrcState_retired c 1).wr .ddrcState_fenced c 1).wr .ddrStatus_fencedCh 0
      (withBit (s.rd .ddrStatus_fencedCh) c true)
  else if !bitOf (s.rd .clkGate_ddr) c then
    let f : DdrFound := { present := false, x4 := false, die := 0, ranks := 1, rdimm := false, trained := false }
    let s := s.setChan c { chanDefault c with found := some f, started := true }
    (if c = 0 then (s.showGeom c f false).judgeOthers else s.showGeom c f false).latch (0x300 + c) 5
  else
    let x := s.chan c
    let keep := s.flag .ddrcState_selfRefresh c && x.record == some (s.ddr.rate, s.ddr.spare)
    let s := s.setChan c { x with started := true, restoring := keep, found := if keep then x.found else none }
    s.each 2 (fun r s =>
      if s.isRetired (0x310 + 2 * c + r) then
        let s := s.wr .ddrStatus_fencedRank 0 (withBit (s.rd .ddrStatus_fencedRank) (2 * c + r) true)
        s.wr .ddrcState_rankFenced c (withBit (s.rd .ddrcState_rankFenced c) r true)
      else s)

/-! ## Errors (R401, R402) -/

/-- Kept writes are performed under the map that follows a retirement, or dropped with the fenced capacity (R401). -/
def State.flushKept (s : State) : State :=
  let w := s.ddr.kept
  let s := s.setDdr { s.ddr with kept := [] }
  w.foldl (fun s e => if s.ddrRefused e.1 e.2.length then s else s.ddrStore e.1 e.2) s

/-- DDR_ACCESS (R401): an access at its channel. Retries are counted; a write that exhausts them is kept for the map that
follows the retirement, and its rank (write CRC) or channel (CA parity) is permanent at once. -/
def actDdrAccess (r : DdrReq) (s : State) : Host.Outcome State Fault Refusal :=
  let n := match r.data with | some d => d.length | none => r.len
  let a := r.offset
  let answer := fun (s : State) (x : Resp) (d : List Byte) => s.setDdr { s.ddr with ans := some (x, d) }
  let hit := fun (s : State) (d : Nat) =>
    match r.stream with | some id => (s.endStrm id stDmaFault (resultOf 0xFF d 0)).shuttleRun | none => s
  if s.ddrUsable < a + n then .next (answer s .decerr [])
  else if s.ddrRefused a n then
    -- a Shuttle vector on a fenced channel or rank (R166, R404)
    let s := answer s .refused []
    match r.stream, s.fencedUnit a n with
    | some id, some u => .next (s.strmFenced id u)
    | _, _ => .next s
  else
    let p := s.ddrPlace a
    let rep := repDdr p.ch
    let s := if r.crcRetries > 0 then
        (s.countSat .ddrcRetryStat_crcRetries p.ch r.crcRetries).ddrEvent a 1 true false else s
    let s := if r.parityRetries > 0 then
        (s.countSat .ddrcRetryStat_parityRetries p.ch r.parityRetries).ddrEvent a 1 false true else s
    match r.data with
    | some d =>
      if r.exhausted then
        let crc := decide (8 ≤ r.crcRetries)
        let u := if crc then p.rankUnit else 0x300 + p.ch
        let s := s.report u 0x03 3 (if crc then r.crcRetries else r.parityRetries) rep
        let s := s.setDdr { s.ddr with kept := s.ddr.kept ++ [(a, d)] }
        -- with the unit retired already no retirement follows: the write goes where the map now has it
        .next (answer (if s.unitGone u then s.flushKept else s.latch u 1) .ok [])
      else .next (answer (s.ddrStore a d) .ok [])
    | none =>
      if r.exhausted then
        let u := 0x300 + p.ch
        let s := (s.report u 0x03 3 r.parityRetries rep).latch u 1
        .next (hit (answer s .abort []) 1)
      else
        let poisoned := r.ecc != .double && s.ddrPoisoned a n
        let s := s.ddrEcc r.ecc a rep
        let s := if poisoned then s.ddrMet a rep else s
        if r.ecc == .double || s.ddrPoisoned a n then .next (hit (answer s .ecc []) 1)
        else .next (answer s .ok (s.ddrBytes a n))

/-! ## Calibration under traffic (R388, R397-R399) -/

/-- Does a rank calibrate: its channel serves, the rank is populated and not fenced? -/
def State.rankUp (s : State) (c r : Nat) : Bool :=
  s.chanUp c && decide (r < s.rd .ddrcGeom_ranks c) && !bitOf (s.rd .ddrStatus_fencedRank) (2 * c + r)

/-- DQS_OSC_INTERVAL: the write DQS delay follows a drift of more than 1/64 UI. -/
def actDqsOscInterval (c r : Nat) (drift : Int) (s : State) : Host.Outcome State Fault Refusal :=
  if s.rankUp c r && decide (1 < drift.natAbs) then
    let x := s.chan c
    .next (s.setChan c { x with dqs := Store.modify (fun _ => (0 : Int)) x.dqs r (fun d => d + drift) })
  else .next s

/-- ZQ_CAL_INTERVAL: one ZQ window of a rank. -/
def actZqCalInterval (c r : Nat) (s : State) : Host.Outcome State Fault Refusal :=
  if s.rankUp c r then .next (s.setChan c { s.chan c with zq := (s.chan c).zq + 1 }) else .next s

/-- DDR_REFRESH: one all-bank refresh; above 85 °C the interval is half. -/
def actDdrRefresh (c : Nat) (hot : Bool) (s : State) : Host.Outcome State Fault Refusal :=
  if s.chanUp c then
    .next (s.setChan c { s.chan c with refreshes := (s.chan c).refreshes + 1, hotRefresh := hot })
  else .next s

/-- RANK_SWEEP_BURST: a sweep of the rank is in progress. -/
def actRankSweepBurst (c r : Nat) (s : State) : Host.Outcome State Fault Refusal :=
  if s.rankUp c r then .next (s.wr .ddrcState_sweeping c 1) else .next s

/-- RANK_SWEEP_END (R399, R402): the margins of a rank's lanes. -/
def actRankSweepEnd (c r : Nat) (lanes : List LaneMargin) (s : State) : Host.Outcome State Fault Refusal :=
  if !s.rankUp c r || lanes.isEmpty then .next s else .next (s.rankSwept c r lanes)

/-- The first granule of channel `c` from granule `k` on, under the map in force there (R169, R406): no 16 granules in a row
miss a channel. -/
def State.scrubGranule (s : State) (c k : Nat) : Nat :=
  ((List.range' k 16).find? (fun g => (s.ddrPlace (g * 256)).ch == c)).getD (k + 16)

/-- PATROL_SCRUB_STEP (R397): reads the channel's next granule of the usable size; a corrected write-back, and the poison
marking of an uncorrectable one, is dropped when a client has written it meanwhile (R398), so data never changes here. -/
def actPatrolScrubStep (c : Nat) (ecc : EccEvent) (clientWrote : Bool) (s : State) :
    Host.Outcome State Fault Refusal :=
  let x := s.chan c
  let total := s.ddrUsable / 256
  let g := s.scrubGranule c x.scrubAt
  if !s.chanUp c || s.rd .ddrCfg_scrubH == 0 || total == 0 then .next s
  else
    let s := if total ≤ g then s
      else if ecc == .double && clientWrote then s.ddrUeMet (g * 256) (repDdr c)
      else s.ddrEcc ecc (g * 256) (repDdr c)
    if total ≤ s.scrubGranule c (g + 1) then .next ((s.setChan c { x with scrubAt := 0 }).count .ddrcEccStat_scrubPasses c)
    else .next (s.setChan c { x with scrubAt := g + 1 })

/-! ## Repair, fencing and migration (R403-R407) -/

/-- Fences a channel: every access to its granules is refused (R405). -/
def State.fenceChannel (s : State) (c : Nat) : State :=
  let s := s.wr .ddrStatus_fencedCh 0 (withBit (s.rd .ddrStatus_fencedCh) c true)
  (s.wr .ddrcState_fenced c 1).cacheFence

/-- The usable size (R393) by the population in force, which channels being restored still have. -/
def State.ddrSize (s : State) : Nat :=
  match s.ddr.pop with
  | some (x4, die, ranks) =>
    (match ddrGeom x4 die ranks with | some g => (if s.ddr.spare then 7 else 8) * g.2.2 * 2 ^ 30 | none => 0)
  | none => s.ddrUsable

/-- A channel retire (R405): the channel's bit clears; with an unspent spare its data migrates, or the seven-channel map
stands at once when it held none. -/
def State.retireChannel (s : State) (c : Nat) (startFault : Bool) : State :=
  let empty := startFault || !(s.flag .ddrcState_trained c || (s.chan c).restoring) || s.ddrSize = 0
  let others := (List.range 8).any (fun k => k != c && s.flag .ddrcState_retired k)
  let s := (s.wr .ddrcState_retired c 1).setReady (readyDdr c) false
  let s := if s.ddr.spare && !others then
      let s := s.wr .ddrStatus_spareUsedBy 0 c
      if empty then s.wr .ddrStatus_map7 0 1
      else
        let s := (s.wr .ddrMigrate_running 0 1).wr .ddrMigrate_next 0 (s.ddrSize / 256)
        s.report (0x300 + c) 0x0C 2 (2 * c) (repDdr c)
    else s.fenceChannel c
  s.flushKept

/-- A rank retire (R404): the rank is fenced. -/
def State.retireRank (s : State) (c r : Nat) : State :=
  let s := s.wr .ddrStatus_fencedRank 0 (withBit (s.rd .ddrStatus_fencedRank) (2 * c + r) true)
  let s := s.wr .ddrcState_rankFenced c (withBit (s.rd .ddrcState_rankFenced c) r true)
  s.cacheFence.flushKept

/-- The granule numbers that lie at a column of a repaired row, under the map in force there (R169, R392). -/
def State.rowGranules (s : State) (r : Sppr) (col : Nat) : List Nat :=
  let rank := r.subr % 2
  let r1 := (col + s.ddrC * (r.row + s.ddrN * rank)) * 64 + r.bank % 4 * 16 + r.bank / 4 * 2 + r.subr / 2
  let out := s.rd .ddrStatus_spareUsedBy
  let at_ : DdrPlace := s.ddrRest r.ch r1
  ([r1 * 8 + r.ch, r1 * 7 + (if r.ch < out then r.ch else r.ch - 1)].filter (fun g => s.ddrPlace (g * 256) == at_)).eraseDups

/-- DDR_SPPR_DONE (R403): the channel's oldest repair is in force; the row keeps its data, and what the code could not correct of
it is written back with poison marking: `lost` are its columns, in granules. On a retired channel repairs stop (R407). -/
def actDdrSpprDone (c : Nat) (lost : List Nat) (s : State) : Host.Outcome State Fault Refusal :=
  match s.ddr.repairs.find? (fun r => r.ch == c) with
  | none => .next s
  | some r =>
    let s := s.setDdr { s.ddr with repairs := s.ddr.repairs.erase r }
    if s.chanOut c then .next s else
    let gs := ((lost.filter (fun k => decide (k < s.ddrC))).map (s.rowGranules r)).flatten
    let s := gs.foldl (fun s g => (s.poisonLine (2 * g)).poisonLine (2 * g + 1)) s
    let s := { s with fit := { s.fit with sppr := s.fit.sppr ++ [r] } }
    .next (s.wr .ddrcState_spprUsed c (s.rd .ddrcState_spprUsed c + 1))

/-- Does the migration go on: is every surviving channel ready, or are all of them being restored after a reset (R407)? -/
def State.migrates (s : State) : Bool :=
  let all := fun (p : Nat → Bool) => (List.range 8).all (fun c => s.chanOut c || p c)
  all (fun c => s.isReady (readyDdr c))
    || all (fun c => (s.chan c).started && (s.chan c).restoring && !s.isReady (readyDdr c))

/-- MIGRATION_GRANULE_COPY (R406, R407): the granule below the boundary moves; one that could not be read is poisoned, on a
surviving channel with the error of any read (R401); one whose new place is fenced is not written. -/
def actMigrationGranuleCopy (uncorrectable : Bool) (s : State) : Host.Outcome State Fault Refusal :=
  let n := s.rd .ddrMigrate_next
  if !s.flag .ddrMigrate_running || n == 0 || !s.migrates then .next s
  else
    let g := n - 1
    let out := s.rd .ddrStatus_spareUsedBy
    let gone := s.ddrFenced (s.ddrPlace7 g)
    let c := (s.ddrPlace8 g).ch
    let s := if uncorrectable && c != out then s.ddrUe (g * 256) (repDdr c) else s
    let s := if uncorrectable then (s.poisonLine (2 * g)).poisonLine (2 * g + 1) else s
    let s := if gone then
        s.setDdr { s.ddr with data := s.ddr.data.filter (fun e => e.1 / 256 != g) } else s
    let s := s.wr .ddrMigrate_next 0 g
    if g = 0 then
      let s := (s.wr .ddrStatus_map7 0 1).wr .ddrMigrate_running 0 0
      .next (s.report (0x300 + out) 0x0C 2 (1 + 2 * out) (repDdr out))
    else .next s

end Sys2Proof.Machine
end

