-- ==== Sys2Proof/Machine/Fitter.lean ====
section
/-! DEFINITION. The Fitter's policies (chapter 18) but for retirement: liveness, Tape, buckets, the retirement log, windows,
tenant weights, profiles, thermal and power steps. -/

namespace Sys2Proof.Machine

open Sys2Proof

def State.setFit (s : State) (f : FitState) : State := { s with fit := f }

/-! ## Liveness and Tape (R428-R430) -/

/-- HB_OUT_TOGGLE: HB_OUT changes level while the Fitter is alive and the clocks run. -/
def actHbOutToggle (s : State) : Host.Outcome State Fault Refusal :=
  if s.fitterAlive then
    .next { s with pins := { s.pins with hbOut := !s.pins.hbOut } }
  else .next s

/-- Effective weights return to the weights (R448). -/
def State.weightsBack (s : State) : State :=
  s.each 256 (fun f s =>
    if s.rd .fitTenant_effective f = s.rd .fitTenant_weight f then s
    else s.wr .fitTenant_effective f (s.rd .fitTenant_weight f))

/-- LIVENESS_DEADLINE_MISS (R429, steps 1 and 2): the Fitter stops being alive, by its deadline or a lockup. -/
def actLivenessDeadlineMiss (lockup : Bool) (s : State) : Host.Outcome State Fault Refusal :=
  if !s.fitterAlive then .next s
  else
    let s := (s.wr .fitStatus_alive 0 0).setReady readyFitter false
    .next (s.setFit { s.fit with downCause := if lockup then 2 else 1, lockup, restarting := false })

/-- Tape samples of an island since it started, up to 16 (R385, R430). -/
def State.tapeCount (s : State) (i : Nat) : Nat := Store.get (fun _ => 0) s.fit.samples i

/-- FIT_STATUS.settled: every running island's averages have 16 samples. -/
def State.noteSettled (s : State) : State :=
  s.wr .fitStatus_settled 0 (b2n ((List.range 85).all (fun i =>
    !s.flag .clkIsland_running i || decide (16 ≤ s.tapeCount i))))

/-- One input's average after a sample: the first sample starts it, each later one enters with weight 1/16. The average is
exact: (n, k) stands for n / 16^k (R430). -/
def tapeAverage (old : Option (Nat × Nat)) (v : Nat) : Nat × Nat :=
  match old with
  | none => (v, 0)
  | some (n, k) => (15 * n + v * 16 ^ k, k + 1)

/-- The averages of an island after one sample of each of its inputs. -/
def tapeAverages (old : List (Nat × Nat)) (vs : List Nat) : List (Nat × Nat) :=
  (List.range vs.length).map (fun j => tapeAverage old[j]? (vs.getD j 0))

/-- TAPE_SAMPLE (R430): one sample of an island's inputs enters the averages. -/
def actTapeSample (i : Nat) (values : List Nat) (s : State) : Host.Outcome State Fault Refusal :=
  if !s.fitterAlive || i ≥ 85 || !s.flag .clkIsland_running i then .next s
  else
    .next (s.setFit { s.fit with
      samples := Store.modify (fun _ => 0) s.fit.samples i (fun n => min 16 (n + 1)),
      averages := Store.put (fun _ => []) s.fit.averages i (tapeAverages (Store.get (fun _ => []) s.fit.averages i) values)
      }).noteSettled

/-! ## Buckets, windows, the log (R432, R434, R437, R438, R442) -/

/-- BUCKET_SLICE_ADVANCE (R432): a new slice opens, the oldest leaves. -/
def actBucketSliceAdvance (u : Nat) (s : State) : Host.Outcome State Fault Refusal :=
  let l := 0 :: (s.bucket u).take 15
  let s := s.setBucket u (if l.all (fun x => x == 0) then [] else l)
  let ev := (s.fit.rowEv.map (fun e => if e.1 = u then (e.1, e.2.1 + 1, e.2.2) else e)).filter (fun e => decide (e.2.1 < 16))
  let s := s.setFit { s.fit with rowEv := ev }
  if 0x200 ≤ u ∧ u ≤ 0x22F then .next (s.noteAvoid (u - 0x200)) else .next s

/-- COAL_WINDOW_CLOSE (R442): the pair's window closes and its record is written; locations of the unit count anew
(R434). -/
def actCoalWindowClose (origin cls : Nat) (s : State) : Host.Outcome State Fault Refusal :=
  match s.err.windows.find? (fun w => w.origin == origin && w.cls == cls) with
  | none => .next s
  | some w =>
    let s := s.closeWindow w
    .next (s.forgetPlaces origin cls)

/-- The two halves of the log, active first. -/
def RetLog.halves (l : RetLog) : List LogRec × List LogRec := if l.active then (l.half1, l.half0) else (l.half0, l.half1)

/-- The log with these halves, active first. -/
def RetLog.withHalves (l : RetLog) (a b : List LogRec) : RetLog :=
  if l.active then { l with half1 := a, half0 := b } else { l with half0 := a, half1 := b }

/-- FIT_LOG shows the active half (R437). -/
def State.showLog (s : State) : State :=
  let s := (s.wr .fitLog_lastSeq 0 (s.log.nextSeq - 1)).wr .fitLog_used 0 s.log.halves.1.length
  s.wr .fitLog_half 0 (b2n s.log.active)

/-- Appends a record to the active half, signed, with the next seq. -/
def RetLog.append (l : RetLog) (r : LogRec) : RetLog :=
  let h := l.halves
  { (l.withHalves (h.1 ++ [{ r with seq := l.nextSeq, good := true }]) h.2) with nextSeq := l.nextSeq + 1 }

/-- When the active half holds 1,792 records, a snapshot of what stands goes to the other half, which becomes active, and
the full half is erased (R438). A repair in force keeps its action code there, which tells it from a retired rank. -/
def State.swapLog (s : State) : State :=
  if s.log.halves.1.length < 1792 then s
  else
    let l := { s.log with active := !s.log.active }
    let blank := fun (u action reason detail : Nat) =>
      ({ seq := 0, unit := u, action, reason, time := s.time, detail, boot := s.thm.coldCount, good := true } : LogRec)
    let l := (s.fit.retired.filter (fun r => !s.fit.clearing.contains r.1)).foldl
      (fun l r => l.append (blank r.1 5 r.2 0)) l
    let l := s.fit.sppr.foldl (fun l r =>
      l.append (blank (0x310 + 2 * r.ch + r.subr % 2) 3 0 (r.subr + r.bank * 16 + r.row * 2 ^ 32))) l
    { s with log := l.withHalves l.halves.1 [] }

/-- RETIREMENT_LOG_WRITE (R437, R438): the Thimble writes the oldest record asked for. -/
def actRetirementLogWrite (s : State) : Host.Outcome State Fault Refusal :=
  match s.fit.logQueue with
  | [] => .next s
  | r :: more =>
    let s := s.setFit { s.fit with logQueue := more }
    .next ({ s with log := s.log.append r }.swapLog).showLog

/-- Asks for a log record (R438). -/
def State.logRecord (s : State) (unit action reason detail : Nat) : State :=
  s.setFit { s.fit with logQueue := s.fit.logQueue ++
    [{ seq := 0, unit, action, reason, time := s.time, detail, boot := s.thm.coldCount, good := true }] }

/-- POLICY_INTERVAL (R445): one record covers an interval with an action. -/
def actPolicyInterval (s : State) : Host.Outcome State Fault Refusal :=
  let f := s.fit
  if !s.fitterAlive || (f.promotions + f.demotions + f.weightChanges + f.avoidances) == 0 then .next s
  else
    let d := f.promotions % 65536 + f.demotions % 65536 * 2 ^ 16 + f.weightChanges % 65536 * 2 ^ 32
      + f.avoidances % 65536 * 2 ^ 48
    let s := s.setFit { f with promotions := 0, demotions := 0, weightChanges := 0, avoidances := 0 }
    .next (s.report 0x0606 0x10 0 d repFitter)

/-! ## Tenant weights (R447, R448) -/

/-- One step of ⌈w/4⌉ towards the weight, not past it. -/
def stepTowards (w target : Nat) : Nat :=
  if w < target then min target (w + ceilDiv w 4) else max target (w - ceilDiv w 4)

/-- The new effective weight of a function (R448). -/
def newWeight (w weight lo hi : Nat) (u : QueueUse) (otherIdle : Bool) : Nat :=
  match u with
  | .empty => max lo (w - ceilDiv w 4)
  | .waited => if otherIdle then min hi (w + ceilDiv w 4) else stepTowards w weight
  | .otherwise => stepTowards w weight

/-- ADAPT_PERIOD (R430, R448): effective weights move while adaptation is on and the averages have settled; with
adaptation off they return to the weights, each change counted (R445). -/
def actAdaptPeriod (use : List QueueUse) (s : State) : Host.Outcome State Fault Refusal :=
  if !s.fitterAlive then .next s
  else if !s.flag .fitCtrl_adapt then
    let moved := (List.range 256).filter (fun f => s.rd .fitTenant_effective f != s.rd .fitTenant_weight f)
    .next (s.weightsBack.setFit { s.fit with weightChanges := s.fit.weightChanges + moved.length })
  else if !s.flag .fitStatus_settled then .next s
  else
    let use := use.take 256
    let idle := fun (f : Nat) => (use.zip (List.range use.length)).any (fun e => e.2 != f && e.1 == .empty)
    .next ((use.zip (List.range use.length)).foldl (fun s e =>
      let f := e.2
      let w := s.rd .fitTenant_effective f
      let w' := newWeight w (s.rd .fitTenant_weight f) (max 1 (s.rd .fitTenant_minimum f)) (s.rd .fitTenant_maximum f)
        e.1 (idle f)
      if w' = w then s
      else (s.wr .fitTenant_effective f w').setFit { s.fit with weightChanges := s.fit.weightChanges + 1 }) s)

/-! ## Divisors, thermal and power (R371, R451, R452) -/

/-- The Needle divisor of a throttle step. -/
def stepDivisor (n : Nat) : Nat := match n with | 0 => 4 | 1 => 5 | 2 => 6 | _ => 8

/-- The divisor an island is to run at (R371, R452): the largest of the profile's, the thermal step's and the power
step's for Needles, fixed for the others. -/
def State.wantedDivisor (s : State) (i : Nat) : Nat :=
  if i < 64 then
    let prof := if s.flag .globalProfile_switching then s.rd .globalProfile_requested else s.rd .globalProfile_active
    let base := match prof with | 2 => 5 | 3 => 8 | _ => 4
    if prof = 3 then 8
    else max base (max (stepDivisor (s.rd .fitStatus_thermalStep)) (stepDivisor (s.rd .fitStatus_powerStep)))
  else if i ≥ 83 then 32 else 8

/-- A divisor in force (R372): counted when it changes. -/
def State.switchDivisor (s : State) (i d : Nat) : State :=
  if s.rd .clkIsland_divisor i = d then s else (s.wr .clkIsland_divisor i d).count .clkIsland_switches i

/-- DIVISOR_SWITCH (R371, R372): an island's divisor becomes the one R371 gives it; another divisor is never asked for. -/
def actDivisorSwitch (i d : Nat) (s : State) : Host.Outcome State Fault Refusal :=
  if i < 85 ∧ s.power.rootLock ∧ d = s.wantedDivisor i then .next (s.switchDivisor i d) else .next s

/-- DROOP_STRETCH (R373): omitted root edges of a running island are counted. -/
def actDroopStretch (i edges : Nat) (s : State) : Host.Outcome State Fault Refusal :=
  if i < 85 ∧ s.flag .clkIsland_running i then .next (s.count .clkIsland_stretched i edges) else .next s

/-- A THERMAL record of a change of step (R451). -/
def State.thermalStep (s : State) (n c : Nat) : State :=
  (s.wr .fitStatus_thermalStep 0 n).report 0x0608 0x0E 1 (n + min c 255 * 256) repFitter

/-- THERMAL_SAMPLE (R430, R451): the hottest sensor, every 100 µs: the step rises after each 1 ms at or above throttle_c
and falls after each 10 ms below release_c. -/
def actThermalSample (c : Nat) (s : State) : Host.Outcome State Fault Refusal :=
  let s := s.wr .fitStatus_hottestC 0 (min c 255)
  if !s.fitterAlive then .next s
  else
    let hi := min 100 (s.rd .fitThermal_throttleC)
    let lo := if s.rd .fitThermal_releaseC ≥ hi then hi - 1 else s.rd .fitThermal_releaseC
    let step := s.rd .fitStatus_thermalStep
    if c ≥ hi then
      let n := s.fit.hotMs + 1
      if n < 10 then .next (s.setFit { s.fit with hotMs := n, coolMs := 0 })
      else
        let s := s.setFit { s.fit with hotMs := 0, coolMs := 0 }
        if step < 3 then .next (s.thermalStep (step + 1) c) else .next s
    else if c < lo then
      let n := s.fit.coolMs + 1
      if n < 100 then .next (s.setFit { s.fit with coolMs := n, hotMs := 0 })
      else
        let s := s.setFit { s.fit with hotMs := 0, coolMs := 0 }
        if step > 0 then .next (s.thermalStep (step - 1) c) else .next s
    else .next (s.setFit { s.fit with hotMs := 0, coolMs := 0 })

/-- The power cap in force (R452). -/
def State.powerCap (s : State) : Nat :=
  let cap := max 60 (min 240 (s.rd .fitPower_capW))
  if s.rd .globalProfile_active = 3 then min 120 cap else cap

/-- POWER_WINDOW (R452): each 10 ms window moves the power step by one. -/
def actPowerWindow (w : Nat) (s : State) : Host.Outcome State Fault Refusal :=
  let s := s.wr .fitStatus_powerW 0 (min w 4095)
  let step := s.rd .fitStatus_powerStep
  let go := fun (n : Nat) => (s.wr .fitStatus_powerStep 0 n).report 0x0606 0x0F 1 (n + w % 65536 * 65536) repFitter
  if !s.fitterAlive then .next s
  else if w > s.powerCap ∧ step < 3 then .next (go (step + 1))
  else if w * 100 < s.powerCap * 95 ∧ step > 0 then .next (go (step - 1))
  else .next s

/-! ## Profiles (R446, R449, R450) -/

/-- A profile change begins (R449, steps 1 to 4). -/
def State.startProfile (s : State) (p : Nat) : State :=
  let old := s.rd .globalProfile_active
  let s := (s.wr .globalProfile_requested 0 p).wr .globalProfile_switching 0 1
  let s := s.setFit { s.fit with profPrev := old }
  if p = 3 then s.setSht { s.sht with draining := true }
  else if old = 3 then
    -- a quad that CLK_GATE or a fuse gates stays gated (R2, R188, R387)
    ([2, 3] : List Nat).foldl (fun s q => if s.gateOff (64 + q) then s else s.ungateQuad q) s
  else s

/-- Demotes the unpinned SQs of class `c` with the longest run of empty polls until at most `cap` are left (R446). -/
def State.demoteTo (c cap : Nat) : Nat → State → State
  | 0, s => s
  | fuel + 1, s =>
    if s.classCount c ≤ cap then s
    else
      let cand := s.startedSqs.filter (fun n => s.rd .ringSqState_class n == c && s.rd .ringSqCfg_classPin n == 0)
      match cand with
      | [] => s
      | n :: ns =>
        let pick := ns.foldl (fun b x => if (s.sq b).emptyRun < (s.sq x).emptyRun then x else b) n
        State.demoteTo c cap fuel (s.setClass pick (c - 1) false)

/-- The next profile change that waits: one to the active profile completes at once, another begins (R450). -/
def State.profNext : Nat → State → State
  | 0, s => s
  | fuel + 1, s =>
    match s.fit.profQueue with
    | [] => s
    | (sq, cid, p) :: more =>
      if p = s.rd .globalProfile_active then
        let s := s.finish sq cid stOk p
        State.profNext fuel (s.setFit { s.fit with profQueue := more })
      else s.startProfile p

/-- PROFILE_SWITCH_DONE (R449, step 7; R450): every island stands in its new setting; the change completes with the
previous profile and the next one that waits begins. -/
def actProfileSwitchDone (s : State) : Host.Outcome State Fault Refusal :=
  let p := s.rd .globalProfile_requested
  let old := s.fit.profPrev
  if !s.flag .globalProfile_switching || !s.fitterAlive || s.sht.draining
      || (s.flag .ddrMigrate_running && (p == 2 || old == 2)) then .next s
  else
    let s := (s.wr .globalProfile_active 0 p).wr .globalProfile_switching 0 0
    let s := s.each 64 (fun n s => if s.flag .clkIsland_running n then s.switchDivisor n (s.wantedDivisor n) else s)
    let s := s.each 8 (fun c s =>
      let x := s.chan c
      if x.started && x.record8000 && x.rate != s.ddrRateNow then
        s.setChan c { x with rate := s.ddrRateNow, unsettled := [(0, max 1 (Store.get (fun _ => 0) x.unsettled 0)),
                                                                 (1, max 1 (Store.get (fun _ => 0) x.unsettled 1))] }
      else s)
    let s := if old = 1 then
        (s.demoteTo 2 (s.rd .ringPoll_hotMax) 4096).demoteTo 1 (s.rd .ringPoll_warmMax) 4096 else s
    let s := s.report 0x0606 0x0D 0 (p + 4 * old) repFitter
    match s.fit.profQueue with
    | [] => .next s
    | (sq, cid, _) :: more =>
      let s := s.finish sq cid stOk old
      .next (State.profNext (more.length + 1) (s.setFit { s.fit with profQueue := more }))

end Sys2Proof.Machine
end

