-- ==== Sys2Proof/Machine/NdlDecode.lean ====
section
/-! DEFINITION. Sockets, move encodings and the decode checks of a Needle bundle (chapter 07). -/

namespace Sys2Proof.Machine

open Sys2Proof

/-! ## Tags, values, units -/

/-- Tag numbers (R271). -/
def Tag.num : Tag → Nat
  | .raw => 0 | .int => 1 | .ptr => 2 | .handle => 3 | .key => 4 | .ctx => 5 | .fp => 6 | .code => 7 | .poison => 15

/-- The tag a number names; none for 8 to 14. -/
def tagOf : Nat → Option Tag
  | 0 => some .raw | 1 => some .int | 2 => some .ptr | 3 => some .handle | 4 => some .key | 5 => some .ctx
  | 6 => some .fp | 7 => some .code | 15 => some .poison | _ => none

/-- A value of a register or port nothing has written (R272, R198). -/
def poisonVal : Val := ⟨0, .poison⟩

/-- An INT value. -/
def intVal (n : Nat) : Val := ⟨BitVec.ofNat 128 n, .int⟩

/-- Bits [63:0] of a value. -/
def Val.lo (x : Val) : W64 := x.v.setWidth 64

/-- The same value cut to 64 bits (R196). -/
def Val.narrow (x : Val) : Val := ⟨(x.v.setWidth 64).setWidth 128, x.tag⟩

/-- Unit numbers, in the order of R222. -/
def NUnit.num : NUnit → Nat
  | .alu0 => 0 | .alu1 => 1 | .shf => 2 | .mul => 3 | .div => 4 | .lsu => 5 | .fpu => 6 | .vec => 7 | .bigm => 8
  | .aesr => 9 | .shar => 10 | .ntt => 11 | .tag => 12 | .br => 13 | .loop => 14 | .strm => 15 | .evt => 16
  | .time => 17 | .sys => 18

/-- The unit a number names. -/
def unitOf : Nat → Option NUnit
  | 0 => some .alu0 | 1 => some .alu1 | 2 => some .shf | 3 => some .mul | 4 => some .div | 5 => some .lsu
  | 6 => some .fpu | 7 => some .vec | 8 => some .bigm | 9 => some .aesr | 10 => some .shar | 11 => some .ntt
  | 12 => some .tag | 13 => some .br | 14 => some .loop | 15 => some .strm | 16 => some .evt | 17 => some .time
  | 18 => some .sys | _ => none

/-- Architectural queue depths (R222); 0 for a unit without a result port. -/
def NUnit.depth : NUnit → Nat
  | .alu0 | .alu1 | .shf => 2 | .mul => 4 | .div => 1 | .lsu => 8 | .fpu => 4 | .vec => 4 | .bigm => 2 | .aesr => 4
  | .shar => 2 | .ntt => 4 | .tag => 1 | .strm => 4 | .evt => 2 | .time => 1 | .br | .loop | .sys => 0

/-- First socket of a unit's block (R197). -/
def NUnit.block : NUnit → Nat
  | .alu0 => 0x100 | .alu1 => 0x140 | .shf => 0x180 | .mul => 0x1C0 | .div => 0x1E0 | .lsu => 0x200 | .fpu => 0x260
  | .vec => 0x280 | .bigm => 0x300 | .aesr => 0x320 | .shar => 0x330 | .ntt => 0x340 | .tag => 0x360 | .br => 0x370
  | .loop => 0x390 | .strm => 0x3A0 | .evt => 0x3B0 | .time => 0x3C0 | .sys => 0x3D0

/-- The unit whose block holds a socket of 0x100-0x3EF (R197). -/
def unitAt (id : Nat) : NUnit :=
  if id < 0x140 then .alu0 else if id < 0x180 then .alu1 else if id < 0x1C0 then .shf else if id < 0x1E0 then .mul
  else if id < 0x200 then .div else if id < 0x260 then .lsu else if id < 0x280 then .fpu else if id < 0x300 then .vec
  else if id < 0x320 then .bigm else if id < 0x330 then .aesr else if id < 0x340 then .shar else if id < 0x360 then .ntt
  else if id < 0x370 then .tag else if id < 0x390 then .br else if id < 0x3A0 then .loop else if id < 0x3B0 then .strm
  else if id < 0x3C0 then .evt else if id < 0x3D0 then .time else .sys

/-- How many operand ports a unit has, at offsets 0 upward (R222). -/
def NUnit.operands : NUnit → Nat
  | .alu0 | .alu1 => 2 | .shf => 3 | .mul | .div => 2 | .lsu => 4 | .fpu => 3 | .vec => 6 | .bigm => 2 | .aesr => 3
  | .shar => 2 | .ntt => 4 | .tag => 2 | .br => 2 | .loop => 2 | .strm => 4 | .evt => 1 | .time | .sys => 0

/-- Does trigger offset `off` of a unit name an operation (R229-R255)? -/
def NUnit.hasTrig (u : NUnit) (off : Nat) : Bool :=
  match u with
  | .alu0 | .alu1 => decide (8 ≤ off ∧ off ≤ 0x25)
  | .shf => decide (8 ≤ off ∧ off ≤ 0x16)
  | .mul | .div | .ntt => decide (8 ≤ off ∧ off ≤ 0x0D)
  | .lsu => decide (8 ≤ off ∧ off ≤ 0x18)
  | .fpu => decide (8 ≤ off ∧ off ≤ 0x16)
  | .vec => decide (8 ≤ off ∧ off ≤ 0x3A ∧ off ≠ 0x2F)
  | .bigm => decide (8 ≤ off ∧ off ≤ 0x13)
  | .aesr => decide (8 ≤ off ∧ off ≤ 0x0E)
  | .shar => decide (8 ≤ off ∧ off ≤ 0x0C)
  | .tag => decide (8 ≤ off ∧ off ≤ 0x0A)
  | .br => decide (8 ≤ off ∧ off ≤ 0x10)
  | .loop | .strm => off == 8
  | .evt | .time => off == 8 || off == 9
  | .sys => decide (8 ≤ off ∧ off ≤ 0x0D)

/-- Is an operand port 128 bits wide (R222)? -/
def NUnit.wide (u : NUnit) (off : Nat) : Bool :=
  match u with
  | .lsu => off == 1
  | .vec => decide (off < 3)
  | .aesr => decide (off < 2)
  | .shar => off == 1
  | .ntt => decide (off < 3)
  | _ => false

/-- The operand port a trigger's value replaces (R198, R222): b but for the rows that name another; none where the unit has
no such port. -/
def NUnit.trigPort (u : NUnit) (off : Nat) : Option Nat :=
  match u with
  | .lsu => if off == 0x18 then some 2
            else if off == 9 || (decide (0x11 ≤ off) && decide (off ≤ 0x14)) then some 1 else some 0
  | .vec => if off == 0x30 || (decide (0x32 ≤ off) && decide (off ≤ 0x39)) then some 4 else some 1
  | .loop => some 0
  | .strm => some 3
  | .br | .evt | .time | .sys => none
  | _ => some 1

/-! ## Sockets (R193-R197) -/

/-- What a socket number names. -/
inductive Sock where
  | g (i : Nat)
  | v (i : Nat)
  | f (i : Nat)
  | sys (id : Nat)
  | opnd (u : NUnit) (off : Nat)
  | res (u : NUnit) (off : Nat)
  | trig (u : NUnit) (off : Nat)
  | unassigned
  deriving DecidableEq, Repr

/-- Reads the socket space. -/
def sockOf (id : Nat) : Sock :=
  if id < 0x40 then .g id
  else if id < 0x60 then .v (id - 0x40)
  else if id < 0x80 then .f (id - 0x60)
  else if id < 0x100 then
    if id ≤ 0x86 || (0x90 ≤ id && id ≤ 0x98) || (0xA0 ≤ id && id ≤ 0xB2) then .sys id else .unassigned
  else if id < 0x3F0 then
    let u := unitAt id
    let off := id - u.block
    if off < u.operands then .opnd u off
    else if off = 6 && u.depth != 0 then .res u 6
    else if off = 7 && u == .div then .res u 7
    else if u.hasTrig off then .trig u off
    else .unassigned
  else .unassigned

/-- The short-source table (R208); an unassigned index gives a reserved socket. -/
def shortSrc (i : Nat) : Nat :=
  if i < 0x60 then i
  else ([0x106, 0x146, 0x186, 0x1C6, 0x1E6, 0x1E7, 0x206, 0x266, 0x286, 0x306, 0x326, 0x336, 0x346, 0x366, 0x3A6, 0x3B6,
         0x3C6, 0x080, 0x081, 0x082, 0x084, 0x085] : List Nat).getD (i - 0x60) 0x3FF

/-- The short-destination table (R209). -/
def shortDst (i : Nat) : Nat :=
  if i < 0x50 then i
  else ([0x100, 0x101, 0x108, 0x109, 0x10A, 0x10B, 0x10C, 0x140, 0x141, 0x148, 0x149, 0x14A, 0x14B, 0x14C, 0x180, 0x181,
         0x188, 0x189, 0x18A, 0x18B, 0x1C0, 0x1C1, 0x1C8, 0x1C9, 0x1CA, 0x200, 0x201, 0x208, 0x209, 0x370, 0x371, 0x378,
         0x379, 0x37A, 0x37B, 0x37C, 0x37D, 0x380, 0x390, 0x391, 0x398, 0x288, 0x3D8, 0x3D9, 0x3A8, 0x3B8, 0x080]
        : List Nat).getD (i - 0x50) 0x3FF

/-! ## Moves (R203-R207) -/

/-- Where a move takes its value. -/
inductive Src where
  | sock (id : Nat)
  | imm (v : Int)
  | limm (v : Nat)
  deriving DecidableEq, Repr

/-- A decoded move: source, destination socket, must-be-zero bits set, bytes it occupies, stop bit. -/
structure Move where
  src  : Src
  dst  : Nat
  bad  : Bool
  size : Nat
  stop : Bool
  deriving DecidableEq, Repr

/-- Bits [hi : lo] of a word. -/
def fieldOf (w lo n : Nat) : Nat := w / 2 ^ lo % 2 ^ n

/-- The move at byte address `a`; `hw` gives the halfword at an address, none beyond the instruction store. -/
def parseMove (hw : Nat → Option Nat) (a : Nat) : Option Move := do
  let h ← hw a
  if h < 0x8000 then
    return { src := .sock (shortSrc (fieldOf h 8 7)), dst := shortDst (fieldOf h 1 7), bad := false, size := 2,
             stop := h % 2 == 1 }
  else
    let w := h * 65536 + (← hw (a + 2))
    let stop := fieldOf w 30 1 == 1
    if fieldOf w 29 1 = 1 then
      let i := fieldOf w 13 16
      return { src := .imm (if i < 0x8000 then (i : Int) else (i : Int) - 65536), dst := fieldOf w 3 10,
               bad := fieldOf w 0 3 != 0, size := 4, stop }
    else if fieldOf w 19 10 = 0x083 then
      let v := (← hw (a + 4)) + (← hw (a + 6)) * 2 ^ 16 + (← hw (a + 8)) * 2 ^ 32 + (← hw (a + 10)) * 2 ^ 48
      return { src := .limm v, dst := fieldOf w 9 10, bad := fieldOf w 0 9 != 0, size := 12, stop }
    else
      return { src := .sock (fieldOf w 19 10), dst := fieldOf w 9 10, bad := fieldOf w 0 9 != 0, size := 4, stop }

/-- The moves from offset `off` of a bundle at `a`, up to the stop bit, eight moves, or the one that crosses 64 bytes. -/
def parseMoves (hw : Nat → Option Nat) (a : Nat) : Nat → Nat → Option (List Move)
  | 0, _ => some []
  | k + 1, off => do
    let m ← parseMove hw (a + off)
    if m.stop || decide (off + m.size > 64) then return [m]
    else return m :: (← parseMoves hw a k (off + m.size))

/-- Bytes a list of moves occupies. -/
def movesSize (ms : List Move) : Nat := ms.foldl (fun n m => n + m.size) 0

/-- The size of the bundle at `a`; none where its bytes cannot be fetched. -/
def bundleSize (hw : Nat → Option Nat) (a : Nat) : Option Nat := (parseMoves hw a 8 0).map movesSize

/-! ## Bus connectivity (R211) -/

/-- Buses that reach a unit's operand and trigger ports. -/
def NUnit.dstBus (u : NUnit) (k : Nat) : Bool :=
  match u with
  | .alu0 | .alu1 | .shf => decide (k ≤ 5)
  | .mul | .div | .lsu | .fpu => decide (2 ≤ k)
  | .vec | .aesr | .shar | .ntt | .bigm => decide (1 ≤ k)
  | .tag | .time | .evt | .strm | .br | .loop | .sys => decide (k ≤ 3)

/-- Can bus `k` read a socket? -/
def srcReach (x : Sock) (k : Nat) : Bool :=
  match x with
  | .g _ => true
  | .v _ | .f _ => decide (1 ≤ k)
  | .sys id => if id = 0x84 then decide (k ≤ 3) else if id ≥ 0x90 then decide (k ≤ 1) else true
  | .res u _ => match u with
    | .vec | .aesr | .shar | .ntt | .bigm => decide (1 ≤ k)
    | _ => true
  | _ => true

/-- Can bus `k` write a socket? -/
def dstReach (x : Sock) (k : Nat) : Bool :=
  match x with
  | .g _ => true
  | .v _ | .f _ => decide (1 ≤ k)
  | .sys id => if id ≥ 0x90 then decide (k ≤ 1) else true
  | .opnd u _ | .trig u _ => u.dstBus k
  | _ => true

/-! ## Decode checks (R210) -/

/-- Cause codes (R295). -/
def cDecodeForm : Nat := 0x01
def cBusConnect : Nat := 0x02
def cReserved : Nat := 0x03
def cOverrun : Nat := 0x04
def cTag : Nat := 0x05
def cPriv : Nat := 0x06
def cForge : Nat := 0x07
def cOverflow : Nat := 0x08
def cDivZero : Nat := 0x09
def cLoad : Nat := 0x0A
def cStore : Nat := 0x0B
def cBounds : Nat := 0x0C
def cElement : Nat := 0x0D
def cFetch : Nat := 0x0E
def cEcc : Nat := 0x0F
def cWatchdog : Nat := 0x10
def cHazard : Nat := 0x12
def cService : Nat := 0x13
def cInterrupt : Nat := 0x14
def cDouble : Nat := 0x15

/-- The sockets R278 refuses as a source at a privilege (0 Tenant, 1 Keeper, 2 Warden). -/
def srcRefused (priv id : Nat) : Bool :=
  priv == 0 && (decide (0x90 ≤ id ∧ id ≤ 0x97) || decide (0xA0 ≤ id ∧ id ≤ 0xB2))

/-- The sockets and trigger ports R278 refuses as a destination, whatever the value. -/
def dstRefused (priv id : Nat) : Bool :=
  (priv == 0 && (id == 0x90 || id == 0x91 || id == 0x94 || id == 0x95 || id == 0x96 || id == 0x98
    || id == 0x369 || id == 0x218 || id == 0x3D9))
  || (decide (priv < 2) && (id == 0x92 || id == 0x93 || id == 0x97 || decide (0xA0 ≤ id ∧ id ≤ 0xB2)))

/-- Destination identity for R202: F*n* and V*n* are one. -/
def dstKey (id : Nat) : Nat := if 0x60 ≤ id && id < 0x80 then id - 0x20 else id

/-- The socket a move reads, if it reads one. -/
def Move.srcSock (m : Move) : Option Nat := match m.src with | .sock i => some i | _ => none

/-- The unit a move triggers. -/
def Move.trigUnit (m : Move) : Option NUnit := match sockOf m.dst with | .trig u _ => some u | _ => none

/-- Register sockets of a list, in the range [lo, hi), without repeats. -/
def distinctIn (ids : List Nat) (lo hi : Nat) : Nat := ((ids.filter (fun i => lo ≤ i && i < hi)).dedup).length

/-- More registers read or written by `ms` than R202 allows? -/
def overPorts (ms : List Move) : Bool :=
  let rd := (ms.filterMap Move.srcSock).map dstKey
  let wr := ms.map (fun m => dstKey m.dst)
  decide (4 < distinctIn rd 0 0x40) || decide (4 < distinctIn wr 0 0x40)
    || decide (2 < distinctIn rd 0x40 0x60) || decide (2 < distinctIn wr 0x40 0x60)

/-- The checks of R210 on move `k`, its rows in order: `pre` are the moves before it, `off` its byte offset, `last` says
that no later move was decoded; `ctl` says which triggers R214, R218, R220 and R292 forbid here. -/
def moveCheck (priv : Nat) (ctl : Nat → Bool) (pre : List Move) (k off : Nat) (m : Move) : Option Nat :=
  let src := m.srcSock.map sockOf
  let dst := sockOf m.dst
  let isRes (x : Sock) : Bool := match x with | .res _ _ => true | _ => false
  if k = 7 && !m.stop then some cDecodeForm
  else if off + m.size > 64 then some cDecodeForm
  else if m.bad then some cDecodeForm
  else if m.dst = 0x083 then some cDecodeForm
  else if isRes dst || (0x81 ≤ m.dst && m.dst ≤ 0x86) then some cDecodeForm
  else if (match src with | some (.opnd _ _) | some (.trig _ _) => true | _ => false) then some cDecodeForm
  else if m.dst ≠ 0x080 && pre.any (fun p => dstKey p.dst == dstKey m.dst) then some cDecodeForm
  else if (match src with | some (.res _ _) => pre.any (fun p => p.srcSock == m.srcSock) | _ => false) then
    some cDecodeForm
  else if (match m.trigUnit with | some u => pre.any (fun p => p.trigUnit == some u) | none => false) then
    some cDecodeForm
  else if overPorts (pre ++ [m]) then some cDecodeForm
  else if ctl m.dst then some cDecodeForm
  else if !((src.map (fun x => srcReach x k)).getD true) || !dstReach dst k then some cBusConnect
  else if src == some .unassigned || dst == .unassigned then some cReserved
  else if (match m.srcSock with | some i => srcRefused priv i | none => false) || dstRefused priv m.dst then some cPriv
  else none

/-- The first failing check over the moves of a bundle: its move index and cause. -/
def firstBad (priv : Nat) (ctl : Nat → Bool) : List Move → List Move → Nat → Nat → Option (Nat × Nat)
  | _, [], _, _ => none
  | pre, m :: ms, k, off =>
    match moveCheck priv ctl pre k off m with
    | some c => some (k, c)
    | none => firstBad priv ctl (pre ++ [m]) ms (k + 1) (off + m.size)

/-- What the decoder makes of the bytes at an address. -/
inductive Decoded where
  | fetchFault
  | fault (move cause : Nat)
  | bundle (ms : List Move)
  deriving DecidableEq, Repr

/-- Decodes the bundle at `a` (R199, R203-R211). -/
def decodeBundle (hw : Nat → Option Nat) (priv : Nat) (ctl : Nat → Bool) (a : Nat) : Decoded :=
  match parseMoves hw a 8 0 with
  | none => .fetchFault
  | some ms =>
    match firstBad priv ctl [] ms 0 0 with
    | some (k, c) => .fault k c
    | none => .bundle ms

end Sys2Proof.Machine
end

