-- ==== Sys2Proof/Machine/NdlFloat.lean ====
section
/-! DEFINITION. IEEE 754 binary64 as the FPU computes it (R243, R244): exact integers, rounded once. Flags are bits of the
FP state word: 1 invalid, 2 overflow, 4 underflow after rounding, 8 inexact. -/

namespace Sys2Proof.Machine.Fp

open Sys2Proof

/-- A binary64 value: m * 2^e with a sign when finite. -/
inductive Num where
  | nan (signalling : Bool)
  | inf (neg : Bool)
  | fin (neg : Bool) (m : Nat) (e : Int)
  deriving DecidableEq, Repr

/-- The one NaN results have (R244). -/
def nanBits : Nat := 0x7FF8000000000000

def signBit (neg : Bool) : Nat := if neg then 2 ^ 63 else 0
def infBits (neg : Bool) : Nat := signBit neg + 0x7FF0000000000000
def maxBits (neg : Bool) : Nat := signBit neg + 0x7FEFFFFFFFFFFFFF

/-- Reads 64 bits. -/
def unpack (x : Nat) : Num :=
  let neg := x.testBit 63
  let ex : Nat := x / 2 ^ 52 % 2048
  let fr : Nat := x % 2 ^ 52
  if ex = 2047 then (if fr = 0 then .inf neg else .nan (decide (fr < 2 ^ 51)))
  else if ex = 0 then .fin neg fr (-1074)
  else .fin neg (fr + 2 ^ 52) ((ex : Int) - 1075)

/-- ⌊m / 2^d⌋ rounded by mode rm (0 nearest even, 1 toward zero, 2 down, 3 up) for a value of sign neg, and whether bits
were lost. -/
def roundShift (rm : Nat) (neg : Bool) (m d : Nat) : Nat × Bool :=
  let hi := m / 2 ^ d
  let rem := m % 2 ^ d
  let half := 2 ^ d
  let up :=
    if rem = 0 then false
    else match rm with
      | 0 => decide (2 * rem > half) || (2 * rem == half && hi % 2 == 1)
      | 1 => false
      | 2 => neg
      | _ => !neg
  (if up then hi + 1 else hi, rem != 0)

/-- m * 2^e, m positive, rounded to binary64: bits and flags. -/
def pack (rm : Nat) (neg : Bool) (m : Nat) (e : Int) : Nat × Nat :=
  let top : Int := (m.log2 : Int) + e
  let q := max (top - 52) (-1074)
  let (r, lost) :=
    if q ≤ e then (m * 2 ^ (e - q).toNat, false) else roundShift rm neg m (q - e).toNat
  -- the value rounded with an unbounded exponent range, for underflow after rounding
  let q' := top - 52
  let r' := if q' ≤ e then m * 2 ^ (e - q').toNat else (roundShift rm neg m (q' - e).toNat).1
  let tiny := decide ((r'.log2 : Int) + q' < -1022)
  if r = 0 then (signBit neg, (if lost then 8 else 0) + (if lost && tiny then 4 else 0))
  else
    let rt : Int := (r.log2 : Int) + q
    if rt > 1023 then
      let toInf := match rm with | 0 => true | 1 => false | 2 => neg | _ => !neg
      (if toInf then infBits neg else maxBits neg, 10)
    else
      let flags := (if lost then 8 else 0) + (if lost && tiny then 4 else 0)
      if rt < -1022 then (signBit neg + r, flags)
      else
        -- a carry out of the 53 bits leaves a power of two
        let (r2, q2) := if r ≥ 2 ^ 53 then (r / 2, q + 1) else (r, q)
        (signBit neg + ((q2 + 1075).toNat) * 2 ^ 52 + (r2 - 2 ^ 52), flags)

/-- A signed integer times 2^e, rounded; zero takes the sign `zneg`. -/
def packInt (rm : Nat) (v : Int) (e : Int) (zneg : Bool) : Nat × Nat :=
  if v = 0 then (signBit zneg, 0) else pack rm (decide (v < 0)) v.natAbs e

def isSnan : Num → Bool
  | .nan true => true
  | _ => false

def isNan : Num → Bool
  | .nan _ => true
  | _ => false

/-- The signed integer of a finite value. -/
def sm (neg : Bool) (m : Nat) : Int := if neg then -(m : Int) else (m : Int)

def nv (b : Bool) : Nat := if b then 1 else 0

/-- x + y for non-NaN operands: exact sum of finite values, one rounding. -/
def addNum (rm : Nat) (x y : Num) : Nat × Nat :=
  match x, y with
  | .inf a, .inf b => if a = b then (infBits a, 0) else (nanBits, 1)
  | .inf a, _ => (infBits a, 0)
  | _, .inf b => (infBits b, 0)
  | .fin a m e, .fin b n f =>
    let g := min e f
    let s := sm a m * (2 ^ (e - g).toNat : Nat) + sm b n * (2 ^ (f - g).toNat : Nat)
    let zneg := if m = 0 && n = 0 && a == b then a else rm == 2
    packInt rm s g zneg
  | _, _ => (nanBits, 0)

def neg : Num → Num
  | .inf a => .inf (!a)
  | .fin a m e => .fin (!a) m e
  | x => x

/-- The exact product of two values; none for 0 × ∞. -/
def mulNum (x y : Num) : Option Num :=
  match x, y with
  | .inf a, .inf b => some (.inf (a != b))
  | .inf a, .fin b n _ => if n = 0 then none else some (.inf (a != b))
  | .fin a m _, .inf b => if m = 0 then none else some (.inf (a != b))
  | .fin a m e, .fin b n f => some (.fin (a != b) (m * n) (e + f))
  | _, _ => some (.nan false)

def add (rm x y : Nat) : Nat × Nat :=
  let a := unpack x
  let b := unpack y
  if isNan a || isNan b then (nanBits, nv (isSnan a || isSnan b)) else addNum rm a b

def sub (rm x y : Nat) : Nat × Nat :=
  let a := unpack x
  let b := unpack y
  if isNan a || isNan b then (nanBits, nv (isSnan a || isSnan b)) else addNum rm a (neg b)

def mul (rm x y : Nat) : Nat × Nat :=
  let a := unpack x
  let b := unpack y
  if isNan a || isNan b then (nanBits, nv (isSnan a || isSnan b))
  else match mulNum a b with
    | none => (nanBits, 1)
    | some (.inf s) => (infBits s, 0)
    | some (.fin s m e) => if m = 0 then (signBit s, 0) else pack rm s m e
    | some _ => (nanBits, 0)

def fma (rm x y z : Nat) : Nat × Nat :=
  let a := unpack x
  let b := unpack y
  let c := unpack z
  let sig := isSnan a || isSnan b || isSnan c
  if isNan a || isNan b then (nanBits, nv sig)
  else match mulNum a b with
    | none => (nanBits, 1)
    | some p => if isNan c then (nanBits, nv sig) else addNum rm p c

/-- A 64-bit integer, signed or not, to binary64. -/
def ofInt (rm : Nat) (v : Int) : Nat × Nat := packInt rm v 0 false

/-- Truncation toward zero into [lo, hi]; NaN gives 0. -/
def toInt (lo hi : Int) (x : Nat) : Int × Nat :=
  match unpack x with
  | .nan _ => (0, 1)
  | .inf s => (if s then lo else hi, 1)
  | .fin s m e =>
    let (t, exact) := if e ≥ 0 then (m * 2 ^ e.toNat, true)
                      else (m / 2 ^ (-e).toNat, m % 2 ^ (-e).toNat == 0)
    let v := sm s t
    if v < lo then (lo, 1) else if v > hi then (hi, 1) else (v, if exact then 0 else 8)

/-- Order of two non-NaN values: negative, zero or positive. -/
def cmp (x y : Num) : Int :=
  match x, y with
  | .inf a, .inf b => if a = b then 0 else if a then -1 else 1
  | .inf a, _ => if a then -1 else 1
  | _, .inf b => if b then 1 else -1
  | .fin a m e, .fin b n f =>
    let g := min e f
    sm a m * (2 ^ (e - g).toNat : Nat) - sm b n * (2 ^ (f - g).toNat : Nat)
  | _, _ => 0

/-- min (lesser = true) and max. -/
def minMax (lesser : Bool) (x y : Nat) : Nat × Nat :=
  let a := unpack x
  let b := unpack y
  let sig := nv (isSnan a || isSnan b)
  if isNan a && isNan b then (nanBits, sig)
  else if isNan a then (y, sig)
  else if isNan b then (x, sig)
  else
    let c := cmp a b
    let xFirst := if c = 0 then x.testBit 63 == lesser else decide (c < 0) == lesser
    (if xFirst then x else y, 0)

/-- ceq (0), clt (1), cle (2). -/
def compare (op x y : Nat) : Nat × Nat :=
  let a := unpack x
  let b := unpack y
  if isNan a || isNan b then (0, if op = 0 then nv (isSnan a || isSnan b) else 1)
  else
    let c := cmp a b
    ((if (match op with | 0 => decide (c = 0) | 1 => decide (c < 0) | _ => decide (c ≤ 0)) then 1 else 0), 0)

end Sys2Proof.Machine.Fp
end

