-- ==== Sys2Proof/Machine/NdlUnits.lean ====
section
/-! DEFINITION. The results of the Needle function units but for memory, vectors, control and events (chapter 08). Every
function answers a cause code or values; a port is read by its offset. -/

namespace Sys2Proof.Machine

open Sys2Proof

/-! ## Operand tags (R226) -/

/-- The consumer classes of R226 whose verdict depends on the tag alone. -/
inductive TagClass where
  | other | compare | fpu | crypto
  deriving DecidableEq, Repr

/-- Is a tag accepted? -/
def TagClass.accepts (c : TagClass) (t : Tag) : Bool :=
  match c, t with
  | _, .raw => true
  | _, .int => true
  | _, .fp => true
  | .compare, .ptr => true
  | .compare, .code => true
  | .crypto, .key => true
  | _, _ => false

/-- Is a tag RAW or INT? -/
def Tag.isInt (t : Tag) : Bool := t == .raw || t == .int

/-- Refuses a value's tag with TAG_VIOLATION. -/
def needTag (ok : Bool) : Except Nat Unit := if ok then .ok () else .error cTag

/-- Checks the operands an operation consumes. -/
def needAll (c : TagClass) (xs : List Val) : Except Nat Unit := needTag (xs.all (fun x => c.accepts x.tag))

/-- The tag of a crypto or vector result: KEY when anything it was computed from is (R227). -/
def taint (xs : List Val) : Tag := if xs.any (fun x => x.tag == .key) then .key else .int

/-- A 64-bit result. -/
def val64 (w : W64) (t : Tag) : Val := ⟨w.setWidth 128, t⟩

/-- A 64-bit INT result. -/
def int64 (w : W64) : Val := val64 w .int

/-- A 32-bit result sign-extended (.w forms). -/
def sext32 (w : W32) : W64 := w.signExtend 64

/-! ## ALU (R229-R231) -/

/-- Signed range of `n` bits. -/
def inSigned (n : Nat) (v : Int) : Bool := decide (-(2 ^ (n - 1) : Int) ≤ v) && decide (v < (2 ^ (n - 1) : Int))

/-- `v` clamped to the signed 64-bit range. -/
def satSigned (v : Int) : W64 := BitVec.ofInt 64 (max (-(2 ^ 63 : Int)) (min v (2 ^ 63 - 1)))

/-- `v` clamped to the unsigned 64-bit range. -/
def satUnsigned (v : Int) : W64 := BitVec.ofInt 64 (max 0 (min v (2 ^ 64 - 1)))

/-- A trapping form of width `n`. -/
def trapping (n : Nat) (v : Int) (r : W64) : Except Nat Val := if inSigned n v then .ok (int64 r) else .error cOverflow

/-- A PTR with its address field replaced, modulo 2^48 (R230); bits [63:54] of every PTR the device makes are zero (R237). -/
def ptrAt (p : W64) (addr : W64) : Val := val64 ((p &&& 0x003F000000000000) ||| (addr &&& 0xFFFFFFFFFFFF)) .ptr

/-- The slot of a PTR (R237). -/
def ptrSlot (p : W64) : Nat := (p.toNat / 2 ^ 48) % 64

/-- The address field of a PTR. -/
def ptrAddr (p : W64) : Nat := p.toNat % 2 ^ 48

/-- add and its tag pairs (R230). -/
def aluAdd (a b : Val) : Except Nat Val :=
  match a.tag, b.tag with
  | .ptr, t => if t.isInt then .ok (ptrAt a.lo (a.lo + b.lo)) else .error cTag
  | t, .ptr => if t.isInt then .ok (ptrAt b.lo (a.lo + b.lo)) else .error cTag
  | .code, t => if t.isInt then .ok (val64 (a.lo + b.lo) .code) else .error cTag
  | t, .code => if t.isInt then .ok (val64 (a.lo + b.lo) .code) else .error cTag
  | _, _ => do needAll .other [a, b]; return int64 (a.lo + b.lo)

/-- sub and its tag pairs (R230). -/
def aluSub (a b : Val) : Except Nat Val :=
  match a.tag, b.tag with
  | .ptr, .ptr =>
    if ptrSlot a.lo = ptrSlot b.lo then .ok (int64 (((a.lo - b.lo).setWidth 48).signExtend 64)) else .error cTag
  | .ptr, t => if t.isInt then .ok (ptrAt a.lo (a.lo - b.lo)) else .error cTag
  | _, .ptr => .error cTag
  | .code, .code => .ok (int64 (a.lo - b.lo))
  | .code, t => if t.isInt then .ok (val64 (a.lo - b.lo) .code) else .error cTag
  | _, .code => .error cTag
  | _, _ => do needAll .other [a, b]; return int64 (a.lo - b.lo)

/-- A compare: 0 or 1, under the Compare column. -/
def aluCmp (a b : Val) (p : W64 → W64 → Bool) : Except Nat Val := do
  needAll .compare [a, b]
  return intVal (if p a.lo b.lo then 1 else 0)

/-- The ALU operations by trigger offset (R229). -/
def aluOp (off : Nat) (a b : Val) : Except Nat Val :=
  let x := a.lo
  let y := b.lo
  let sx := x.toInt
  let sy := y.toInt
  let ux : Int := x.toNat
  let uy : Int := y.toNat
  let x32 : W32 := x.setWidth 32
  let y32 : W32 := y.setWidth 32
  let two (r : W64) : Except Nat Val := do needAll .other [a, b]; return int64 r
  let twoX (r : Except Nat Val) : Except Nat Val := do needAll .other [a, b]; r
  let one (r : Except Nat Val) : Except Nat Val := do needAll .other [b]; r
  match off with
  | 0x08 => aluAdd a b
  | 0x09 => aluSub a b
  | 0x0A => two (x &&& y)
  | 0x0B => two (x ||| y)
  | 0x0C => two (x ^^^ y)
  | 0x0D => two (x &&& ~~~y)
  | 0x0E => two (satSigned (sx + sy))
  | 0x0F => two (satSigned (sx - sy))
  | 0x10 => two (satUnsigned (ux + uy))
  | 0x11 => two (satUnsigned (ux - uy))
  | 0x12 => twoX (trapping 64 (sx + sy) (x + y))
  | 0x13 => twoX (trapping 64 (sx - sy) (x - y))
  | 0x14 => two (sext32 (x32 + y32))
  | 0x15 => two (sext32 (x32 - y32))
  | 0x16 => twoX (trapping 32 (x32.toInt + y32.toInt) (sext32 (x32 + y32)))
  | 0x17 => twoX (trapping 32 (x32.toInt - y32.toInt) (sext32 (x32 - y32)))
  | 0x18 => one (.ok (int64 (-y)))
  | 0x19 => one (.ok (int64 (satSigned (-sy))))
  | 0x1A => one (trapping 64 (-sy) (-y))
  | 0x1B => two (if sx ≤ sy then x else y)
  | 0x1C => two (if sx ≤ sy then y else x)
  | 0x1D => two (if x.toNat ≤ y.toNat then x else y)
  | 0x1E => two (if x.toNat ≤ y.toNat then y else x)
  | 0x1F => aluCmp a b (fun p q => p == q)
  | 0x20 => aluCmp a b (fun p q => p != q)
  | 0x21 => aluCmp a b BitVec.slt
  | 0x22 => aluCmp a b BitVec.ult
  | 0x23 => aluCmp a b BitVec.sle
  | 0x24 => aluCmp a b BitVec.ule
  | _ => if b.tag = .key || b.tag = .poison then .error cTag else .ok b.narrow

/-! ## SHF, MUL, DIV (R232-R236) -/

/-- Shifts and rotates of an `n`-bit value by the whole unsigned amount (R233). -/
def shiftBy (op n : Nat) (x : BitVec n) (amt : Nat) : BitVec n :=
  match op with
  | 0 => if amt ≥ n then 0 else x <<< amt
  | 1 => if amt ≥ n then 0 else x >>> amt
  | 2 => x.sshiftRight (min amt n)
  | 3 => x.rotateRight (amt % n)
  | _ => x.rotateLeft (amt % n)

/-- Bytes of a value reversed. -/
def swapBytes (n v : Nat) : Nat := (List.range n).foldl (fun acc i => acc * 256 + v / 256 ^ i % 256) 0

/-- SHF by trigger offset (R232). -/
def shfOp (off : Nat) (a b c : Val) : Except Nat Val :=
  let x := a.lo
  let y := b.lo
  let amt := y.toNat
  let lsb := amt % 64
  let w := amt / 256 % 128
  let e := min w (64 - lsb)
  let ext := x.toNat / 2 ^ lsb % 2 ^ e
  let two (r : W64) : Except Nat Val := do needAll .other [a, b]; return int64 r
  let x32 : W32 := x.setWidth 32
  match off with
  | 0x08 => two (shiftBy 0 64 x amt)
  | 0x09 => two (shiftBy 1 64 x amt)
  | 0x0A => two (shiftBy 2 64 x amt)
  | 0x0B => two (shiftBy 3 64 x amt)
  | 0x0C => two (shiftBy 4 64 x amt)
  | 0x0D => two (sext32 (shiftBy 0 32 x32 amt))
  | 0x0E => two (sext32 (shiftBy 1 32 x32 amt))
  | 0x0F => two (sext32 (shiftBy 2 32 x32 amt))
  | 0x10 => two (sext32 (shiftBy 4 32 x32 amt))
  | 0x11 => two (sext32 (shiftBy 3 32 x32 amt))
  | 0x12 => do needAll .other [b]; return int64 (BitVec.ofNat 64 (swapBytes 8 amt))
  | 0x13 => do needAll .other [b]; return int64 (sext32 (BitVec.ofNat 32 (swapBytes 4 (amt % 2 ^ 32))))
  | 0x14 => two (BitVec.ofNat 64 ext)
  | 0x15 => two (if e = 0 then 0
                 else BitVec.ofInt 64 (if ext.testBit (e - 1) then (ext : Int) - 2 ^ e else ext))
  | _ => do
    needAll .other [a, b, c]
    let keep := x.toNat % 2 ^ lsb + x.toNat / 2 ^ (lsb + e) * 2 ^ (lsb + e)
    return int64 (BitVec.ofNat 64 (keep + c.lo.toNat % 2 ^ e * 2 ^ lsb))

/-- MUL by trigger offset (R234). -/
def mulOp (off : Nat) (a b : Val) : Except Nat Val := do
  needAll .other [a, b]
  let x := a.lo
  let y := b.lo
  let x32 : W32 := x.setWidth 32
  let y32 : W32 := y.setWidth 32
  return int64 (match off with
    | 0x08 => x * y
    | 0x09 => BitVec.ofInt 64 (x.toInt * y.toInt / 2 ^ 64)
    | 0x0A => BitVec.ofNat 64 (2 * x32.toNat * y32.toNat)
    | 0x0B => BitVec.ofNat 64 (x.toNat * y.toNat / 2 ^ 64)
    | 0x0C => BitVec.ofInt 64 (x32.toInt * y32.toInt)
    | _ => BitVec.ofNat 64 (x32.toNat * y32.toNat))

/-- Signed and unsigned division with the edge rows of R236: quotient and remainder. -/
def divide (signed : Bool) (n : Nat) (x y : BitVec n) : BitVec n × BitVec n :=
  if y = 0 then (BitVec.allOnes n, x)
  else if signed then (BitVec.ofInt n (x.toInt.tdiv y.toInt), BitVec.ofInt n (x.toInt.tmod y.toInt))
  else (x / y, x % y)

/-- DIV by trigger offset (R235): quotient and remainder. -/
def divOp (off : Nat) (a b : Val) : Except Nat (Val × Val) := do
  needAll .other [a, b]
  let x := a.lo
  let y := b.lo
  let pair (p : W64 × W64) : Val × Val := (int64 p.1, int64 p.2)
  let pair32 (p : W32 × W32) : Val × Val := (int64 (sext32 p.1), int64 (sext32 p.2))
  match off with
  | 0x08 => return pair (divide true 64 x y)
  | 0x09 => return pair (divide false 64 x y)
  | 0x0A =>
    if y = 0 then .error cDivZero
    else if x.toInt = -(2 ^ 63) && y.toInt == -1 then .error cOverflow
    else return pair (divide true 64 x y)
  | 0x0B => if y = 0 then .error cDivZero else return pair (divide false 64 x y)
  | 0x0C => return pair32 (divide true 32 (x.setWidth 32) (y.setWidth 32))
  | _ => return pair32 (divide false 32 (x.setWidth 32) (y.setWidth 32))

/-! ## FPU (R243, R244) -/

/-- An FPU operation of two or three latched operands: the value, and the FP state word after it. -/
def fpuOp (off st : Nat) (a b c : Val) : Except Nat (Val × Nat) :=
  let x := a.lo.toNat
  let y := b.lo.toNat
  let z := c.lo.toNat
  let rm := st / 32 % 4
  let done (t : Tag) (r : Nat × Nat) : Val × Nat := (val64 (BitVec.ofNat 64 r.1) t, st ||| r.2)
  let doneI (r : Int × Nat) : Val × Nat := (int64 (BitVec.ofInt 64 r.1), st ||| r.2)
  let two (r : Val × Nat) : Except Nat (Val × Nat) := do needAll .fpu [a, b]; return r
  let one (r : Val × Nat) : Except Nat (Val × Nat) := do needAll .fpu [b]; return r
  match off with
  | 0x08 => two (done .fp (Fp.add rm x y))
  | 0x09 => two (done .fp (Fp.sub rm x y))
  | 0x0A => two (done .fp (Fp.mul rm x y))
  | 0x0B => do needAll .fpu [a, b, c]; return done .fp (Fp.fma rm x y z)
  | 0x0C => one (done .fp (Fp.ofInt rm b.lo.toInt))
  | 0x0D => one (done .fp (Fp.ofInt rm (y : Int)))
  | 0x0E => one (doneI (Fp.toInt (-(2 ^ 63)) (2 ^ 63 - 1) y))
  | 0x0F => one (doneI (Fp.toInt 0 (2 ^ 64 - 1) y))
  | 0x10 => two (done .fp (Fp.minMax true x y))
  | 0x11 => two (done .fp (Fp.minMax false x y))
  | 0x12 => two (done .int (Fp.compare 0 x y))
  | 0x13 => two (done .int (Fp.compare 1 x y))
  | 0x14 => two (done .int (Fp.compare 2 x y))
  | 0x15 => .ok (intVal st, st)
  | _ => do needAll .fpu [b]; return (intVal 0, y % 128 &&& 0b1101111)

/-! ## AESR (R247) -/

/-- The 16 bytes of a 128-bit value, byte 0 at bits [7:0]. -/
def stateBytes (v : W128) : Bs := toLe 16 v.toNat

/-- A 128-bit value of 16 bytes. -/
def ofStateBytes (bs : Bs) : W128 := BitVec.ofNat 128 (valLe bs)

/-- The 32-bit word `i` of a value. -/
def word32 (v : W128) (i : Nat) : Nat := v.toNat / 2 ^ (32 * i) % 2 ^ 32

/-- SubWord on a 32-bit word. -/
def subWord (x : Nat) : Nat := valLe (Aes.subBytes (toLe 4 x))

/-- One key-expansion step: w0 = a.w0 ^ t, w(i) = a.w(i) ^ w(i-1). -/
def kexp (a : W128) (t : Nat) : W128 :=
  let w0 := word32 a 0 ^^^ t
  let w1 := word32 a 1 ^^^ w0
  let w2 := word32 a 2 ^^^ w1
  let w3 := word32 a 3 ^^^ w2
  BitVec.ofNat 128 (w0 + w1 * 2 ^ 32 + w2 * 2 ^ 64 + w3 * 2 ^ 96)

/-- AESR by trigger offset. -/
def aesOp (off : Nat) (a b c : Val) : Except Nat Val :=
  let st := stateBytes a.v
  let two (r : W128) : Except Nat Val := do needAll .crypto [a, b]; return ⟨r, taint [a, b]⟩
  match off with
  | 0x08 => two (ofStateBytes (Aes.mixColumns (Aes.shiftRows (Aes.subBytes st))) ^^^ b.v)
  | 0x09 => two (ofStateBytes (Aes.shiftRows (Aes.subBytes st)) ^^^ b.v)
  | 0x0A => two (ofStateBytes (Aes.invMixColumns (Aes.invShiftRows (Aes.invSubBytes st))) ^^^ b.v)
  | 0x0B => two (ofStateBytes (Aes.invShiftRows (Aes.invSubBytes st)) ^^^ b.v)
  | 0x0C => do needAll .crypto [b]; return ⟨ofStateBytes (Aes.invMixColumns (stateBytes b.v)), taint [b]⟩
  | 0x0D => do
    needAll .crypto [a, b, c]
    -- RotWord of a little-endian word turns its bytes one place down
    let x := word32 b.v 3
    let t := subWord (x / 256 + x % 256 * 2 ^ 24) ^^^ (c.lo.toNat % 256)
    return ⟨kexp a.v t, taint [a, b, c]⟩
  | _ => two (kexp a.v (subWord (word32 b.v 3)))

/-! ## NTT (R249) -/

/-- Lane `i` of `w` bits. -/
def laneOf (w : Nat) (v : W128) (i : Nat) : Nat := v.toNat / 2 ^ (w * i) % 2 ^ w

/-- A 128-bit value of `n` lanes of `w` bits. -/
def ofLanes (w n : Nat) (f : Nat → Nat) : W128 :=
  BitVec.ofNat 128 ((List.range n).foldl (fun acc i => acc + f i % 2 ^ w * 2 ^ (w * i)) 0)

/-- NTT by trigger offset: the pushed entries. -/
def nttOp (off : Nat) (a b c w : Val) : Except Nat (List Val) := do
  needAll .crypto [w]
  let q := if w.lo = 0 then 3329 else 8380417
  let lw := if w.lo = 0 then 16 else 32
  if !(w.lo = 0 || w.lo = 1) then .error cTag
  else
    let n := 128 / lw
    let l (x : Val) (i : Nat) : Nat := laneOf lw x.v i
    -- the modulus reduces before every subtraction, so no term is negative
    let mk (xs : List Val) (f : Nat → Nat) : Val := ⟨ofLanes lw n f, taint (w :: xs)⟩
    match off with
    | 0x08 => do
      needAll .crypto [a, b, c]
      return [mk [a, b, c] (fun i => (l a i + l c i * l b i) % q),
              mk [a, b, c] (fun i => (l a i + (q - l c i * l b i % q)) % q)]
    | 0x09 => do
      needAll .crypto [a, b, c]
      return [mk [a, b] (fun i => (l a i + l b i) % q),
              mk [a, b, c] (fun i => (l a i + (q - l b i % q)) % q * l c i % q)]
    | 0x0A => do needAll .crypto [a, b]; return [mk [a, b] (fun i => l a i * l b i % q)]
    | 0x0B => do needAll .crypto [a, b]; return [mk [a, b] (fun i => (l a i + l b i) % q)]
    | 0x0C => do needAll .crypto [a, b]; return [mk [a, b] (fun i => (l a i + (q - l b i % q)) % q)]
    | _ => do needAll .crypto [b]; return [mk [b] (fun i => l b i % q)]

/-! ## TAG (R251) -/

/-- TAG by trigger offset; `set` refuses at Tenant already in decode. A target tag of 15 is refused like 8 to 14: only poison
makes POISON (R228, R271). -/
def tagOp (off : Nat) (a b : Val) : Except Nat Val :=
  match off with
  | 0x08 => .ok (intVal b.tag.num)
  | 0x09 =>
    if !b.tag.isInt || a.tag == .poison then .error cTag
    else match tagOf (b.lo.toNat % 16) with
      | some .poison => .error cTag
      | some .ptr => .ok (ptrAt a.lo a.lo)
      | some t => .ok ⟨a.narrow.v, t⟩
      | none => .error cTag
  | _ => .ok poisonVal

/-! ## BIGM (R245, R246) -/

/-- Register `i` of BX and its KEY state. -/
def NUnits.bxAt (u : NUnits) (i : Nat) : Nat × Bool := Store.get (fun _ => (0, false)) u.bx i

/-- Writes BX register `i`. -/
def NUnits.setBx (u : NUnits) (i v : Nat) (k : Bool) : NUnits :=
  { u with bx := Store.put (fun _ => (0, false)) u.bx i (v % 2 ^ 576, k) }

/-- Extended Euclid: the inverse of the pair's first number, tracked as (r, s) pairs. -/
def egcd : Nat → Nat → Nat → Int → Int → Nat × Int
  | 0, r0, _, s0, _ => (r0, s0)
  | k + 1, r0, r1, s0, s1 => if r1 = 0 then (r0, s0) else egcd k r1 (r0 % r1) s1 (s0 - (r0 / r1 : Nat) * s1)

/-- x^-1 mod m, 0 when none exists. -/
def invModGen (x m : Nat) : Nat :=
  let (g, s) := egcd 1200 x m 1 0
  if g = 1 then (s % (m : Int)).toNat else 0

/-- BIGM by trigger offset: what it pushes, and the unit state after it; `free` is a free 576-bit value for the results the
spec leaves undefined. -/
def bigmOp (off free : Nat) (sel b : Val) (u : NUnits) : Except Nat (Option Val × NUnits) := do
  needAll .crypto [sel]
  let sv := sel.lo.toNat
  let dst := sv % 8
  let s1 := sv / 16 % 8
  let s2 := sv / 256 % 8
  let limb := sv / 2 ^ 16 % 16
  let sk := sel.tag == .key
  let (x, kx) := u.bxAt s1
  let (y, ky) := u.bxAt s2
  let (d, kd) := u.bxAt dst
  let (m, km) := u.m
  -- a result the rules leave undefined is an INT with no key material in it (R13), whatever its sources carry (log 131)
  let modular (ok : Bool) (r : Nat) (k : Bool) : Except Nat (Option Val × NUnits) :=
    .ok (none, if ok then u.setBx dst r (k || sk) else u.setBx dst free false)
  let odd := m % 2 == 1
  let tg (k : Bool) : Tag := if k then .key else .int
  match off with
  | 0x08 => do
    needAll .crypto [b]
    if limb > 8 then return (none, u)
    else
      let old := d / 2 ^ (64 * limb) % 2 ^ 64
      return (none, u.setBx dst (d - old * 2 ^ (64 * limb) + b.lo.toNat * 2 ^ (64 * limb)) (kd || b.tag == .key || sk))
  | 0x09 =>
    if limb > 8 then .ok (some (val64 (BitVec.ofNat 64 free) .int), u)
    else .ok (some (val64 (BitVec.ofNat 64 (x / 2 ^ (64 * limb))) (tg (kx || sk))), u)
  | 0x0A => .ok (none, { u with m := (x, kx || sk) })
  | 0x0B => modular (odd && decide (x < m) && decide (y < m)) (x * y * invModGen (2 ^ 576 % m) m % m) (kx || ky || km)
  | 0x0C => modular (odd && decide (x < m) && decide (y < m)) ((x + y) % m) (kx || ky || km)
  | 0x0D => modular (odd && decide (x < m) && decide (y < m)) ((x + (m - y)) % m) (kx || ky || km)
  | 0x0E =>
    let p := 2 ^ 521 - 1
    modular (decide (x < p) && decide (y < p)) (x * y % p) (kx || ky)
  | 0x0F => modular (odd && decide (x < m)) (invModGen x m) (kx || km)
  | 0x10 =>
    let r : Nat := if x = y then 0 else if x > y then 1 else 2 ^ 64 - 1
    .ok (some (val64 (BitVec.ofNat 64 r) (tg (kx || ky || sk))), u)
  | 0x11 => .ok (none, u.setBx dst 0 false)
  | 0x12 => .ok (none, u.setBx dst x (kx || sk))
  | _ => do
    needAll .crypto [b]
    let s := d + x * b.lo.toNat
    let k := kd || kx || b.tag == .key || sk
    return (some (val64 (BitVec.ofNat 64 (s / 2 ^ 576)) (tg k)), u.setBx dst s k)

/-- Does a BIGM operation push a result? -/
def bigmPushes (off : Nat) : Bool := off == 0x09 || off == 0x10 || off == 0x13

/-! ## SHAR (R248) -/

/-- SHAR after reset. -/
def sharReset : Shar :=
  { h := List.replicate 8 0, vars := List.replicate 8 0, win := List.replicate 16 0, ctr := 0, mode := 0, key := false }

/-- The hash family of a mode, its word width and its rounds. -/
def sharPar (mode : Nat) : Hash.Sha2 := if mode = 0 then Hash.sha2w32 else Hash.sha2w64
def sharW (mode : Nat) : Nat := if mode = 0 then 32 else 64
def sharRounds (mode : Nat) : Nat := if mode = 0 then 64 else 80

/-- One round with the message word it uses; the window is held newest first. -/
def sharRound (s : Shar) (word : Option Nat) : Shar :=
  let p := sharPar s.mode
  let x := match word with
    | some x => x % 2 ^ p.w
    | none => p.scheduled s.win.reverse
  let vars := if s.ctr = 0 then s.h else s.vars
  { s with vars := p.round vars (p.consts.getD s.ctr 0 + x),
           win := (x :: s.win).take 16, ctr := s.ctr + 1 }

/-- SHAR by trigger offset; `free` is a free 512-bit value for an undefined H. -/
def sharOp (off free : Nat) (a b : Val) (s : Shar) : Except Nat (Option Val × Shar) :=
  let w := sharW s.mode
  let n := 128 / w
  let pair := a.lo.toNat % 4
  let bk := b.tag == .key
  match off with
  | 0x08 => do
    needAll .crypto [b]
    let sel := b.lo.toNat % 4
    if sel = 3 then return (none, { s with ctr := 0, key := s.key || bk })
    else
      let h := match sel with | 0 => Hash.init256 | 1 => Hash.init384 | _ => Hash.init512
      return (none, { s with h, mode := sel, ctr := 0, key := bk })
  | 0x09 =>
    if s.ctr ≥ sharRounds s.mode then .ok (none, s)
    else if s.ctr < 16 then do
      needAll .crypto [b]
      let s := { s with key := s.key || bk }
      return (none, sharRound (sharRound s (some (laneOf w b.v 0))) (some (laneOf w b.v 1)))
    else .ok (none, sharRound (sharRound s none) none)
  | 0x0A =>
    if s.ctr < sharRounds s.mode then
      .ok (none, { s with h := (List.range 8).map (fun i => free / 2 ^ (64 * i) % 2 ^ w), ctr := 0, key := false })
    else .ok (none, { s with h := List.zipWith (fun x y => (x + y) % 2 ^ w) s.h s.vars, ctr := 0 })
  | 0x0B => do
    needAll .crypto [a, b]
    let h := (List.range 8).map (fun i => if i / n = pair then laneOf w b.v (i % n) else s.h.getD i 0)
    return (none, { s with h, key := s.key || bk || a.tag == .key })
  | _ => do
    needAll .crypto [a]
    let k := s.key || a.tag == .key
    if pair * n ≥ 8 then return (some ⟨BitVec.ofNat 128 free, .int⟩, s)
    else return (some ⟨ofLanes w n (fun i => s.h.getD (pair * n + i) 0), if k then .key else .int⟩, s)

end Sys2Proof.Machine
end

