-- ==== Sys2Proof/Machine/NdlVec.lean ====
section
/-! DEFINITION. VEC's lane operations and the geometry of its memory forms (chapter 09). -/

namespace Sys2Proof.Machine

open Sys2Proof

/-- Element width of ew[1:0] (R257). -/
def vecW (ew : Val) : Nat := 8 * 2 ^ (ew.lo.toNat % 4)

/-- VLMAX(w). -/
def vlMax (w : Nat) : Nat := 128 / w

/-- A lane read as signed. -/
def sLane (w x : Nat) : Int := if x.testBit (w - 1) then (x : Int) - 2 ^ w else x

/-- An integer cut to `w` bits. -/
def wrapLane (w : Nat) (v : Int) : Nat := (v % (2 ^ w : Int)).toNat

/-- Builds a result: lanes 0 to n - 1 from `f`, the rest from the tail operand (R259). -/
def vecBuild (w n : Nat) (tail : W128) (f : Nat → Nat) : W128 :=
  ofLanes w (vlMax w) (fun i => if i < n then f i else laneOf w tail i)

/-- The lane operations that take a and b lane by lane (R260), offsets 0x09 to 0x1E and mul.lo. -/
def vecLane (off w x y : Nat) : Nat :=
  let sx := sLane w x
  let sy := sLane w y
  let hi : Int := 2 ^ (w - 1) - 1
  let lo : Int := -(2 ^ (w - 1))
  let ones := 2 ^ w - 1
  match off with
  | 0x09 => (x + y) % 2 ^ w
  | 0x0A => wrapLane w ((x : Int) - y)
  | 0x0B => wrapLane w (max lo (min hi (sx + sy)))
  | 0x0C => wrapLane w (max lo (min hi (sx - sy)))
  | 0x0D => min (x + y) ones
  | 0x0E => x - y
  | 0x0F => x &&& y
  | 0x10 => x ||| y
  | 0x11 => x ^^^ y
  | 0x12 => x &&& (ones - y)
  | 0x13 => if sx ≤ sy then x else y
  | 0x14 => if sx ≤ sy then y else x
  | 0x15 => min x y
  | 0x16 => max x y
  | 0x17 => if x = y then ones else 0
  | 0x18 => if sx < sy then ones else 0
  | 0x19 => if x < y then ones else 0
  | 0x1A => (shiftBy 0 w (BitVec.ofNat w x) y).toNat
  | 0x1B => (shiftBy 1 w (BitVec.ofNat w x) y).toNat
  | 0x1C => (shiftBy 2 w (BitVec.ofNat w x) y).toNat
  | 0x1D => (shiftBy 4 w (BitVec.ofNat w x) y).toNat
  | 0x1E => (shiftBy 3 w (BitVec.ofNat w x) y).toNat
  | _ => x * y % 2 ^ w

/-- Is an offset one of the operations with a late-latched port c (R307)? -/
def vecLate (off : Nat) : Bool := decide (0x20 ≤ off ∧ off ≤ 0x26)

/-- A widening multiply or dot product (R260): its result, tail and accumulator c. -/
def vecWide (off vl : Nat) (a b c ew : Val) : W128 :=
  let w := vecW ew
  if off ≤ 0x23 then
    let odd := if off = 0x21 || off = 0x23 then 1 else 0
    let f (i : Nat) : Nat :=
      let x := laneOf w a.v (2 * i + odd)
      let y := laneOf w b.v (2 * i + odd)
      if off ≤ 0x21 then wrapLane (2 * w) (sLane w x * sLane w y) else x * y
    vecBuild (2 * w) (min vl (vlMax (2 * w))) c.v f
  else
    let uns := ew.lo.getLsbD 2
    let (sw, rw, k) := if off = 0x24 then (8, 32, 4) else if off = 0x25 then (16, 32, 2) else (32, 64, 2)
    let term (i t : Nat) : Int :=
      let x := laneOf sw a.v (k * i + t)
      let y := laneOf sw b.v (k * i + t)
      if uns then (x * y : Nat) else sLane sw x * sLane sw y
    vecBuild rw (min vl (vlMax rw)) c.v (fun i =>
      wrapLane rw (((List.range k).foldl (fun s t => s + term i t) (laneOf rw c.v i : Int))))

/-- Carry-less product of two 64-bit numbers. -/
def clmul64 (x y : Nat) : Nat := (List.range 64).foldl (fun acc i => if y.testBit i then acc ^^^ (x * 2 ^ i) else acc) 0

/-- VEC lane operations by trigger offset (R260, R261), with the current VL. -/
def vecOp (off vl : Nat) (a b c ew : Val) : Except Nat Val := do
  let w := vecW ew
  let m := vlMax w
  let ok (xs : List Val) : Except Nat Unit := needAll .crypto xs
  let ewOk : Except Nat Unit := needTag ew.tag.isInt
  if off ≤ 0x1F then do
    ewOk; ok [a, b]
    return ⟨vecBuild w (min vl m) a.v (fun i => vecLane off w (laneOf w a.v i) (laneOf w b.v i)), taint [a, b]⟩
  else if off ≤ 0x26 then do
    ewOk; ok [a, b, c]
    needTag (decide (off > 0x23) || w != 64)
    return ⟨vecWide off vl a b c ew, taint [a, b, c]⟩
  else if off = 0x27 then do
    ok [a, b]
    return ⟨BitVec.ofNat 128 (clmul64 (laneOf 64 a.v 0) (laneOf 64 b.v 0)), taint [a, b]⟩
  else if off = 0x28 then do
    ok [a, b]
    return ⟨BitVec.ofNat 128 (clmul64 (laneOf 64 a.v 1) (laneOf 64 b.v 1)), taint [a, b]⟩
  else if off ≤ 0x2B then do
    ewOk; ok [a, b]
    needTag (w == 16 || w == 32)
    let q := if w = 16 then 3329 else 8380417
    let f (i : Nat) : Nat :=
      let x := laneOf w a.v i
      let y := laneOf w b.v i
      if off = 0x29 then (x + y) % q else if off = 0x2A then (x + (q - y % q)) % q else x * y % q
    return ⟨vecBuild w (min vl m) a.v f, taint [a, b]⟩
  else if off = 0x2C then do
    ewOk; ok [a, b]
    return ⟨ofLanes w m (fun i => let j := laneOf w b.v i; if j < m then laneOf w a.v j else 0), taint [a, b]⟩
  else if off = 0x2D then do
    ewOk; ok [a, b]
    let s := b.lo.toNat % m
    return ⟨ofLanes w m (fun i => laneOf w a.v ((i + m - s) % m)), taint [a, b]⟩
  else do
    ewOk; ok [b]
    return ⟨ofLanes w m (fun _ => laneOf w b.v 0), taint [b]⟩

/-! ## Memory forms (R262-R264) -/

/-- Fields of a structure form: 1 for vld, vst and the gathers. -/
def vecFields (off : Nat) : Nat :=
  match off with
  | 0x32 | 0x35 => 2 | 0x33 | 0x36 => 3 | 0x34 | 0x37 => 4 | _ => 1

/-- Does a memory form store? -/
def vecStores (off : Nat) : Bool := off == 0x31 || off == 0x35 || off == 0x36 || off == 0x37 || off == 0x3A

/-- Is it a gather or scatter? -/
def vecIndexed (off : Nat) : Bool := off == 0x38 || off == 0x39 || off == 0x3A

/-- Does an offset name a memory form? -/
def vecMem (off : Nat) : Bool := decide (0x30 ≤ off)

/-- Bits [0, n) set. -/
def lowMask (n : Nat) : W128 := BitVec.ofNat 128 (2 ^ n - 1)

/-- The bytes element `i` of field `f` takes from a structure access (R263). -/
def vecPick (data : List Byte) (esize fields i f : Nat) : List Byte := (data.drop ((i * fields + f) * esize)).take esize

/-- The little-endian number of a byte list, for lanes. -/
def laneBytes (bs : List Byte) : Nat := bs.reverse.foldl (fun a b => a * 256 + b.toNat) 0

/-- The V register value field `f` of a loaded block gives (elements 0 to n - 1). -/
def vecField (data : List Byte) (w n fields f : Nat) : W128 :=
  ofLanes w (vlMax w) (fun i => if i < n then laneBytes (vecPick data (w / 8) fields i f) else 0)

/-- The bytes a structure store writes (R263), from the register values. -/
def vecStoreBytes (regs : List W128) (w n : Nat) : List Byte :=
  ((List.range n).map (fun i => (regs.map (fun v => (List.range (w / 8)).map (fun k =>
    BitVec.ofNat 8 (laneOf w v i / 256 ^ k)))).flatten)).flatten

/-- Address of element `i` of a gather or scatter (R264): the address field moves modulo 2^48. -/
def vecElemAddr (p a : Val) (w i : Nat) : Nat :=
  let base := p.lo.toNat
  base / 2 ^ 48 * 2 ^ 48 + (base % 2 ^ 48 + laneOf w a.v i * (w / 8)) % 2 ^ 48

end Sys2Proof.Machine
end

