-- ==== Sys2Proof/Machine/NdlCore.lean ====
section
/-! DEFINITION. A Needle's registers, ports, queues and system sockets; entering and leaving handlers, faults, engine reset,
vault wipe (chapter 10, R318). -/

namespace Sys2Proof.Machine

open Sys2Proof

/-! ## The engine after reset (R318) -/

def nexcReset : NExc :=
  { sys := [], epcTag := .code, handler := false, heldPriv := 2, firstCause := 0, dlevel := false, shadow := none,
    crit := none, irqs := [], owed := false, entering := none, deferred := none, resuming := false, storeFlt := none }

def nunitsReset : NUnits :=
  { bx := [], m := (0, false), bigmOps := [], shar := sharReset, fp := 0, evtGen := 0, longOp := [], fence := false,
    late := [], vl := 16, vsElem := 0, vsCause := 0, restart := none }

def nmemReset : NMem :=
  { directs := [], regFlts := [], sbuf := [], slots := [], dstore := [], istore := [], stale := [] }

/-- An engine that nothing has touched since its reset. -/
def needleReset : Needle :=
  { pc := 0, priv := 2, regs := [], ports := [], queues := [], loops := [], branch := none, skip := none, remap := false,
    debug := false, modeReq := false, held := false, done := 0, seq := 0, cycles := 0, tenant := 0, inv := none, x := nexcReset,
    m := nmemReset, u := nunitsReset }

def ndlDefault (_ : Nat) : Needle := needleReset
def State.nd (s : State) (n : Nat) : Needle := Store.get ndlDefault s.ndl n
def State.setNd (s : State) (n : Nat) (x : Needle) : State := { s with ndl := Store.put ndlDefault s.ndl n x }

/-- The island of an engine (R386). -/
def ndlIsland (n : Nat) : Nat := if n < 64 then n else 82

/-- Is the engine in reset or held (NDL_STATUS.in_reset)? The Fitter's runs while the Fitter does. -/
def State.ndInReset (s : State) (n : Nat) : Bool :=
  if n < 64 then s.flag .ndlCtrl_hold n || s.flag .clkIsland_inReset n else !s.fitterAlive

/-- Is the engine locked up (R301)? -/
def State.ndLocked (s : State) (n : Nat) : Bool := if n < 64 then s.flag .ndlStatus_lockup n else s.fit.lockup

/-- May the engine issue bundles? -/
def State.ndRuns (s : State) (n : Nat) : Bool :=
  decide (n < s.part.needleCount ∨ n = 64) && !s.ndInReset n && !s.ndLocked n && !s.isRetired n && s.clocked

/-- May the engine run what its instruction store holds: has the Thimble verified the images it may belong to, the Fitter's, or
the Warden and Needle service images (R24)? -/
def State.imagesOk (s : State) (n : Nat) : Bool :=
  if n = 64 then s.thm.judged.contains 3 else s.thm.judged.contains 2 && s.thm.judged.contains 4

/-- NDL_READY bit of a Needle (R322). -/
def State.ndReady (s : State) (n : Nat) : Bool :=
  s.ndRuns n && s.flag .ndlCtrl_inService n

/-- NEEDLE_Cc follows its Needles (R41, R383). -/
def State.noteCluster (s : State) (n : Nat) : State :=
  if n < 64 then
    s.setReady (readyCluster (n / 8)) (s.imagesOk n && (List.range 8).any (fun i => s.ndReady (n / 8 * 8 + i)))
  else s

/-! ## Registers, ports and queues -/

def valDefault (_ : Nat) : Val := poisonVal
def slotDefault (_ : Nat) : Slot := { base := 0, limit := 0, kind := 0, ro := false, window := 0, minPriv := 0 }
def qDefault (_ : Nat) : List QEnt := []

/-- Register `r`: 0-63 G, 64-95 V. -/
def Needle.reg (x : Needle) (r : Nat) : Val := Store.get valDefault x.regs r
def Needle.setReg (x : Needle) (r : Nat) (v : Val) : Needle := { x with regs := Store.put valDefault x.regs r v }

/-- The operand bank in use (R288). -/
def Needle.bank (x : Needle) : Nat := if x.x.handler then 1 else 0

def Needle.port (x : Needle) (bank sock : Nat) : Val := Store.get valDefault x.ports (bank * 1024 + sock)
def Needle.setPort (x : Needle) (bank sock : Nat) (v : Val) : Needle :=
  { x with ports := Store.put valDefault x.ports (bank * 1024 + sock) v }

def Needle.q (x : Needle) (bank : Nat) (u : NUnit) : List QEnt := Store.get qDefault x.queues (bank * 32 + u.num)
def Needle.setQ (x : Needle) (bank : Nat) (u : NUnit) (l : List QEnt) : Needle :=
  { x with queues := Store.put qDefault x.queues (bank * 32 + u.num) l }

def Needle.slot (x : Needle) (i : Nat) : Slot := Store.get slotDefault x.m.slots i

/-- An entry that an operation in flight will push. -/
def qFlight (v : Val) : QEnt :=
  { val := v, rem := v, halves := 0, ready := false, flt := none, fp := 0, late := false, mark := 0, addrs := [] }

/-- Appends entries to a unit's queue; QUEUE_OVERRUN when the depth would be exceeded (R223). -/
def Needle.push (x : Needle) (u : NUnit) (es : List QEnt) : Except Nat Needle :=
  let l := x.q x.bank u
  if l.length + es.length > u.depth then .error cOverrun else .ok (x.setQ x.bank u (l ++ es))

/-! ## System sockets (R194, R268, R279-R285) -/

def sysDefault (_ : Nat) : W128 := 0
def Needle.sysv (x : Needle) (id : Nat) : W128 := Store.get sysDefault x.x.sys id
def Needle.sysn (x : Needle) (id : Nat) : Nat := (x.sysv id).toNat
def Needle.setSys (x : Needle) (id v : Nat) : Needle :=
  { x with x := { x.x with sys := Store.put sysDefault x.x.sys id (BitVec.ofNat 128 v) } }

/-- VSTART as a number (R268). -/
def Needle.vstart (x : Needle) : Nat :=
  x.u.vsElem % 32 + 32 * b2n x.u.restart.isSome + 256 * x.u.vsCause + 2 ^ 16 * x.u.vl

/-- Reads a system socket of engine `n`. -/
def Needle.sysRead (x : Needle) (n id : Nat) : Val :=
  match id with
  | 0x80 => intVal 0
  | 0x81 => intVal 1
  | 0x82 => intVal (2 ^ 64 - 1)
  | 0x84 => ⟨BitVec.ofNat 128 x.pc, .code⟩
  | 0x85 => intVal n
  | 0x86 => intVal x.priv
  | 0x90 => ⟨x.sysv 0x90, .code⟩
  | 0x98 => intVal x.vstart
  | _ => ⟨x.sysv id, .int⟩

/-- The bits a system socket holds. -/
def sysMask (id : Nat) : Nat :=
  match id with
  | 0x90 => 0xFFFFFFFE
  | 0x91 => 0x3FF
  | 0x92 => 0xFFFFFF
  | 0x93 => 2 ^ 37 - 1
  | 0x94 => 2 ^ 34 - 1
  | 0x95 => 2 ^ 128 - 1
  | 0x96 => 3
  | 0x97 => 2 ^ 48 - 1
  | _ => if id < 0xB0 then 0x3FFFF + 3 * 2 ^ 20 + 3 * 2 ^ 22 + 2 ^ 24 else 0x3FFFF

/-- Writes VSTART (R268): pending is kept only while a record is held. -/
def Needle.writeVstart (x : Needle) (v : Nat) : Needle :=
  { x with u := { x.u with vsElem := v % 32, vsCause := v / 256 % 256, vl := min (v / 2 ^ 16 % 32) 16,
                           restart := if v.testBit 5 then x.u.restart else none } }

/-- Writes a system socket (R278, R279, R281). -/
def Needle.sysWrite (x : Needle) (id : Nat) (v : Val) : Except Nat Needle :=
  if id = 0x80 then .ok x
  else if !(v.tag.isInt || (v.tag == .code && (id == 0x90 || id == 0x94 || decide (id ≥ 0xA0)))) then .error cTag
  else if id = 0x98 then .ok (x.writeVstart v.v.toNat)
  else
    let w := v.v.toNat &&& sysMask id
    if id = 0x96 && x.priv == 1 && decide (w > x.sysn 0x96) then .error cPriv
    else if id = 0x91 && decide (x.priv < 2) then .ok (x.setSys id (w % 256 + x.sysn 0x91 / 256 * 256))
    else if id = 0x90 then
      let y := x.setSys id w
      .ok { y with x := { y.x with epcTag := v.tag } }
    else .ok (x.setSys id w)

/-! ## Loops (R217, R219, R285) -/

/-- One loop as ELOOP holds it. -/
def Loop.pack (l : Loop) : Nat :=
  l.count % 2 ^ 32 + (l.start / 2 % 2 ^ 17) * 2 ^ 32 + ((l.last - l.start) / 2 % 2 ^ 15) * 2 ^ 49

/-- The loop stack as ELOOP: the inner loop in [63:0]. -/
def packLoops : List Loop → Nat
  | [] => 0
  | [a] => a.pack
  | a :: b :: _ => a.pack + 2 ^ 64 * b.pack

def unpackLoop (v : Nat) : List Loop :=
  let c := v % 2 ^ 32
  let st := v / 2 ^ 32 % 2 ^ 17 * 2
  if c = 0 then [] else [{ count := c, start := st, last := st + v / 2 ^ 49 % 2 ^ 15 * 2 }]

/-- The loop stack an ELOOP value restores. -/
def unpackLoops (v : Nat) : List Loop := unpackLoop (v % 2 ^ 64) ++ unpackLoop (v / 2 ^ 64)

/-- A taken branch to `t` ends the loops whose body does not hold it (R219). -/
def exitLoops (t : Nat) : List Loop → List Loop
  | [] => []
  | l :: ls => if l.start ≤ t ∧ t ≤ l.last then l :: ls else exitLoops t ls

/-- After the bundle at `a` with `next` after it: where execution goes and the loops left (R217, R218). -/
def loopBack (a next : Nat) : List Loop → Nat × List Loop
  | [] => (next, [])
  | l :: ls =>
    if l.last ≠ a then (next, l :: ls)
    else if l.count > 1 then (l.start, { l with count := l.count - 1 } :: ls)
    else loopBack a next ls

/-! ## Late-latched ports (R307) -/

/-- Computes an operation with its late operand. -/
def Needle.lateResult (x : Needle) (l : Late) (c : Val) : Val × Nat :=
  match l.unit with
  | .fpu => match fpuOp l.off x.u.fp l.a l.b c with
    | .ok r => r
    | .error _ => (intVal 0, x.u.fp)
  | _ => match vecOp l.off l.vl l.a l.b c l.ew with
    | .ok r => (r, x.u.fp)
    | .error _ => (intVal 0, x.u.fp)

/-- Gives the first late entry of a queue its value. -/
def setLate (r : Val × Nat) : List QEnt → List QEnt
  | [] => []
  | e :: es => if e.late then { e with val := r.1, rem := r.1, fp := r.2, late := false } :: es else e :: setLate r es

/-- Latches every waiting late port from the operand ports as they stand. -/
def Needle.latch (x : Needle) : Needle :=
  let x' := x.u.late.foldl (fun y l =>
    let r := y.lateResult l (y.port l.bank (l.unit.block + 2))
    let y := y.setQ l.bank l.unit (setLate r (y.q l.bank l.unit))
    { y with u := { y.u with fp := r.2 } }) x
  { x' with u := { x'.u with late := [] } }

/-! ## Critical windows (R299) -/

/-- C as it acts. -/
def State.critCap (s : State) (n : Nat) : Nat := min (s.rd .ndlCritMax_cap n) 4096

/-- Closes a window; an interrupt it held is due at the next boundary (R299). -/
def Needle.closeCrit (x : Needle) : Needle :=
  { x with x := { x.x with crit := none, owed := x.x.owed || (x.x.crit.isSome && !x.x.irqs.isEmpty) } }

/-- Opens a window of `k` cycles or moves the end of an open one; a cap of 0 opens none. -/
def State.critOpen (s : State) (n k : Nat) (x : Needle) : Needle :=
  if k = 0 || s.critCap n = 0 then x.closeCrit
  else
    let opened := match x.x.crit with | some c => c.opened | none => s.time
    { x with x := { x.x with crit := some { asked := k, since := s.time, opened } } }

/-- Needle cycles in a time: 8.8 GHz divided by the island's divisor (R371). -/
def State.cyclesIn (s : State) (n ns : Nat) : Nat := ns * 88 / (10 * max 1 (s.rd .clkIsland_divisor (ndlIsland n)))

/-! ## Entry (R287-R289, R300-R302) -/

/-- Empties bank 1 (R288). -/
def Needle.clearBank1 (x : Needle) : Needle :=
  { x with ports := x.ports.filter (fun e => decide (e.1 < 1024)),
           queues := x.queues.filter (fun e => decide (e.1 < 32)) }

/-- ELOC of a fault at bundle `b` (R283). -/
def elocOf (f : Flt) (b : Nat) : Nat :=
  (f.bundle.getD b) % 2 ^ 32
    + (match f.move with | some m => m % 8 * 2 ^ 32 + 2 ^ 35 | none => 0) + b2n f.imprecise * 2 ^ 36

/-- Does a cause write EADDR (R280; HAZARD of kind 3, R315)? -/
def hasAddr (c : Nat) : Bool := c == cLoad || c == cStore || c == cBounds || c == cFetch || c == cEcc || c == cElement
    || c == cHazard

/-- A fault with nothing but its cause. -/
def mkFlt (cause : Nat) (move : Option Nat := none) (addr : Option Nat := none) (sub : Nat := 0) : Flt :=
  { cause, sub, move, bundle := none, imprecise := false, addr, pop := false, load := none }

/-- VSTART and the restart record as an element fault writes them when it is taken (R269). -/
def Needle.freeze (x : Needle) (ef : Option ElemFlt) : Needle :=
  match ef with
  | some e => { x with u := { x.u with vsElem := e.element, vsCause := e.cause, restart := some e.rec_ } }
  | none => x

/-- Steps 3 to 5 of R289: the exception state is written and the handler is entered. -/
def Needle.enter (x : Needle) (f : Flt) (ef : Option ElemFlt) (ctlRemap ctlDebug : Bool) : Needle :=
  let x := x.latch.freeze ef
  let pend := match x.x.shadow with
    | some (.enter k) => 4 + 8 + 16 * k
    | some .mode => 4
    | _ => 0
  let x := x.setSys 0x90 (min x.pc 0xFFFFFFFE &&& 0xFFFFFFFE)
  let x := x.setSys 0x91 (x.priv + pend + 256 * b2n x.debug + 512 * b2n x.remap)
  let x := x.setSys 0x92 (f.cause + 256 * f.sub)
  let x := x.setSys 0x93 (elocOf f (if f.cause = cInterrupt then x.done else x.pc))
  let x := match f.addr with
    | some a => if hasAddr f.cause then x.setSys 0x97 (a % 2 ^ 48) else x
    | none => x
  let x := x.setSys 0x96 x.priv
  let x := x.setSys 0x94 (match x.branch with
    | some ⟨r, some t⟩ => (if t < 2 ^ 32 then t else 0xFFFFFFFE) + r * 2 ^ 32
    | _ => 0)
  let x := x.setSys 0x95 (packLoops x.loops)
  let dest := if f.cause = cInterrupt then 0xB2 else 0xB0
  { x.clearBank1 with
      pc := x.sysn dest / 2 * 2, priv := 2, held := false, loops := [], branch := none, remap := ctlRemap, debug := ctlDebug,
      x := { x.x with epcTag := .code, handler := true, heldPriv := x.priv, firstCause := f.cause, dlevel := false,
                      shadow := none, crit := none, owed := false, entering := none, deferred := none,
                      resuming := false } }

/-- Entry to DFAULT_ENTRY (R302): the exception state of the first fault stays, ECAUSE names both causes; an element fault
replaces the restart record (R270). -/
def Needle.enterDouble (x : Needle) (f : Flt) (ef : Option ElemFlt) (first2 : Nat) : Needle :=
  let y := (x.latch.freeze ef).clearBank1.setSys 0x92 (cDouble + 256 * f.cause + 65536 * first2)
  { y with pc := y.sysn 0xB1 / 2 * 2, branch := none, loops := [], held := false,
           x := { y.x with dlevel := true, shadow := none, handler := true, owed := false, entering := none,
                           deferred := none, resuming := false } }

/-- Writes back an engine that entered a handler, and NDL_STATUS.last_cause. -/
def State.entered (s : State) (n : Nat) (x : Needle) : State :=
  let s := s.setNd n x
  if n < 64 then s.wr .ndlStatus_lastCause n (x.sysn 0x92 % 256) else s

/-- Completes the invocation a Needle holds; its output buffer holds undefined bytes (R124, R303). -/
def State.endInv (s : State) (n status result : Nat) : State :=
  match (s.nd n).inv with
  | some i =>
    let r := s.freshBytes i.out.2
    ((r.2.setNd n { r.2.nd n with inv := none }).sharedWrite i.tenant (i.sq, i.cid) i.out.1 r.1).finish i.sq i.cid status
      result
  | none => s

/-- The result content of R303: ELOC bundle and move. -/
def elocContent (e : Nat) : Nat := e % 2 ^ 32 + e / 2 ^ 32 % 8 * 2 ^ 32

/-- A fault that a handler has in hand ends the invocation (R303): TAG_DENIED or TENANT_FAULT, with the fault's ELOC. -/
def State.faultEndsInv (s : State) (n cause eloc : Nat) : State :=
  s.endInv n (if cause = cTag then stTagDenied else stTenantFault) (resultOf 0xFF cause eloc)

/-- A handler has a fault of the invocation in hand. Its firmware ends the invocation or corrects the fault and goes on
(R303); the spec gives no mark of either, so a free bit says whether it ends here (log 22). -/
def State.invFault (s : State) (n cause : Nat) : State :=
  match (s.nd n).inv with
  | none => s
  | some i =>
    let e := elocContent ((s.nd n).sysn 0x93)
    let r := s.fresh 1
    let s := r.2
    if r.1 = 1 then s.faultEndsInv n cause e
    else s.setNd n { s.nd n with inv := some { i with flt := some (cause, e) } }

/-- A handler that still has a fault of the invocation in hand leaves: the invocation ends by then, or goes on corrected. -/
def State.invLeave (s : State) (n : Nat) : State :=
  match (s.nd n).inv with
  | none => s
  | some i =>
    match i.flt with
    | none => s
    | some (c, e) =>
      let r := s.fresh 1
      let s := r.2
      if r.1 = 1 then s.faultEndsInv n c e else s.setNd n { s.nd n with inv := some { i with flt := none } }

/-- The ELOC content of the first fault of a double fault (R303). -/
def Needle.firstEloc (x : Needle) : Nat := ((x.inv.bind (·.flt)).map (·.2)).getD (elocContent (x.sysn 0x93))

/-- NDL_CTRL's mode bits. -/
def State.ctlRemap (s : State) (n : Nat) : Bool := s.flag .ndlCtrl_remap n
def State.ctlDebug (s : State) (n : Nat) : Bool := s.flag .ndlCtrl_debug n

/-- Is a fault now one at handler level or in a return window (R300)? -/
def Needle.faultedTwice (x : Needle) : Bool :=
  x.x.handler || (match x.x.shadow with | some (.leave _) => true | _ => false)

/-- The cause that entered handler level, for ECAUSE.first. -/
def Needle.firstOf (x : Needle) : Nat := if x.x.handler then x.x.firstCause else 0

/-- A pending entry goes ahead once no direct write is outstanding (R289 step 2). -/
def State.tryEnter (s : State) (n : Nat) : State :=
  let x := s.nd n
  match x.x.entering with
  | none => s
  | some (f, ef) =>
    if !x.m.directs.isEmpty then s
    else if x.faultedTwice then
      (s.entered n (x.enterDouble f ef x.firstOf)).endInv n stTenantFault (resultOf 0xFF cDouble x.firstEloc)
    else
      let s := s.entered n (x.enter f ef (s.ctlRemap n) (s.ctlDebug n))
      if f.cause = cInterrupt then
        if f.sub = 2 then s.endInv n stTimeout (resultOf 0xFF 0x01 0) else s
      else s.invFault n f.cause

/-- Engine reset of one engine (R318): its stores are kept, the work it held ends with ABORTED_BY_RESET kind 0x06. -/
def State.ndlEngineReset (s : State) (n : Nat) : State :=
  let s := s.endInv n stAbortedByReset (resultOf 0xFF 6 0)
  let x := s.nd n
  let s := s.setNd n { needleReset with m := { nmemReset with dstore := x.m.dstore, istore := x.m.istore },
                                        tenant := x.tenant }
  let s := s.setSht { s.sht with posts := s.sht.posts.filter (fun p => p.n != n) }
  if n < 64 then
    (((((s.wr .ndlCtrl_remap n 0).wr .ndlCtrl_debug n 0).wr .ndlCtrl_inService n 0).wr .ndlStatus_lockup n 0).wr
      .ndlFpstate_state n 0).noteCluster n
  else { s with fit := { s.fit with lockup := false } }

/-- Is a double fault of the vault class (R300)? `held` is the privilege that decides it. -/
def State.vaultClass (s : State) (n held : Nat) : Bool := s.flag .ndlCtrl_vaultAssign n || decide (held ≥ 1) || n == 64

/-- A vault-class double fault (R301): the engine stops, LOCKUP_N goes low, the Fitter reports it and counts an event. -/
def State.lockUp (s : State) (n first2 second : Nat) : State :=
  let s := if n < 64 then (s.wr .ndlStatus_lockup n 1).noteCluster n else { s with fit := { s.fit with lockup := true } }
  let s := s.report (if n < 64 then n else 0x0040) 0x0A 4 (first2 + 256 * second) (min n 64)
  if n < 64 then s.bucketEvent n 1 else s

/-- The privilege that decides the class of a double fault (R300): held on entering handler level, or on triggering the
leave. -/
def Needle.heldOf (x : Needle) : Nat :=
  match x.x.shadow with
  | some (.leave p) => p
  | _ => x.x.heldPriv

/-- A fault of engine `n` at the bundle at its pc (R287, R290, R300-R302). -/
def State.ndFault (s : State) (n : Nat) (f : Flt) (ef : Option ElemFlt) : State :=
  let x := s.nd n
  if x.faultedTwice && s.vaultClass n x.heldOf then s.lockUp n x.firstOf f.cause
  else if x.faultedTwice && x.x.dlevel then
    -- a third fault: engine reset (R302)
    (s.endInv n stTenantFault (resultOf 0xFF cDouble x.firstEloc)).ndlEngineReset n
  else
    (s.setNd n { x with x := { x.x with entering := some (f, ef), deferred := none }, held := false }).tryEnter n

/-! ## Interrupts (R296, R297) -/

/-- A source becomes pending; a repeat merges. -/
def State.raiseIrq (s : State) (n code : Nat) : State :=
  let x := s.nd n
  if s.ndInReset n || s.ndLocked n || x.x.irqs.contains code then s
  else s.setNd n { x with x := { x.x with irqs := x.x.irqs ++ [code] } }

/-- May an interrupt be taken at this boundary (R297)? -/
def Needle.irqOpen (x : Needle) : Bool :=
  !x.x.handler && (x.x.crit.isNone || x.x.owed) && x.x.shadow.isNone && x.u.longOp.isEmpty

/-- The lowest pending source, if one may be taken. -/
def Needle.irqDue (x : Needle) : Option Nat :=
  if x.irqOpen then (x.x.irqs.foldl (fun a c => match a with | some b => some (min b c) | none => some c) none) else none

/-- Takes an interrupt. -/
def State.takeIrq (s : State) (n code : Nat) : State :=
  let x := s.nd n
  s.setNd n { x with x := { x.x with irqs := x.x.irqs.filter (fun c => c != code),
                                     entering := some (mkFlt cInterrupt (sub := code), none) } } |>.tryEnter n

/-! ## Vault wipe and change of tenant (R275, R276) -/

/-- KEY values turn to 0 tagged POISON. -/
def wipeVal (v : Val) : Val := if v.tag = .key then poisonVal else v

/-- R275 on one engine: KEY state is poisoned, kind-5 slots are invalid, WIPE becomes pending; running work ends with the
vault-wipe kind. Data on its way that carries KEY is poisoned with the rest. -/
def State.ndWipe (s : State) (n : Nat) : State :=
  let x := s.nd n
  let keep (k : Nat) (v : Val) (m : List (Nat × Val)) : List (Nat × Val) := Store.cell valDefault k v m
  let vals (m : List (Nat × Val)) : List (Nat × Val) := m.foldr (fun e acc => keep e.1 (wipeVal e.2) acc) []
  let ent (e : QEnt) : QEnt := { e with val := wipeVal e.val, rem := wipeVal e.rem }
  let u := { x.u with
    bx := x.u.bx.filter (fun e => !e.2.2),
    m := if x.u.m.2 then (0, false) else x.u.m,
    shar := if x.u.shar.key then sharReset else x.u.shar,
    late := x.u.late.map (fun l => { l with a := wipeVal l.a, b := wipeVal l.b }),
    restart := x.u.restart.map (fun r => { r with a := wipeVal r.a, b := wipeVal r.b }) }
  let m := { x.m with
    slots := x.m.slots.filter (fun e => e.2.kind != 5),
    directs := x.m.directs.map (fun d =>
      if d.tag = .key then { d with tag := .poison, dsts := d.dsts.map (fun t => (t.1, t.2.1, 0)) } else d),
    sbuf := x.m.sbuf.map (fun e => if e.kind = 5 then { e with data := e.data.map (fun _ => 0) } else e) }
  let s := s.setNd n { x with regs := vals x.regs, ports := vals x.ports,
                              queues := x.queues.map (fun q => (q.1, q.2.map ent)), u, m }
  (s.endInv n stAbortedByReset (resultOf 0xFF 8 0)).raiseIrq n 1

/-- R276: before work of another tenant, what the last one left returns to its reset state and its D-store is zeroed. Each
dispatch sets the event generation to 0 (R254). -/
def State.ndServe (s : State) (n tenant : Nat) : State :=
  let x := s.nd n
  let x := if x.tenant = tenant then x
    else { x with regs := [], ports := [], queues := [], loops := [], tenant,
                  u := { x.u with bx := [], m := (0, false), bigmOps := [], shar := sharReset, late := [], vl := 16,
                                  vsElem := 0, vsCause := 0, restart := none },
                  m := { x.m with slots := [], dstore := [], directs := [], regFlts := [] } }
  s.setNd n { x with u := { x.u with evtGen := 0 } }

/-- LOCKUP_CLEAR_DONE (R301 step 3): the Thimble has zeroed the locked engine's state. -/
def actLockupClearDone (n : Nat) (s : State) : Host.Outcome State Fault Refusal :=
  if s.ndLocked n then
    let x := s.nd n
    .next (s.setNd n { needleReset with m := { nmemReset with istore := x.m.istore }, inv := x.inv, pc := x.pc,
                                        priv := x.priv, tenant := x.tenant, remap := x.remap, debug := x.debug,
                                        done := x.done, seq := x.seq, cycles := x.cycles, x := { x.x with sys := x.x.sys } })
  else .next s

end Sys2Proof.Machine
end

