-- ==== Sys2Proof/Machine/Registers.lean ====
section
/-! DEFINITION. Register accesses (R10, R12, R34-R38, R54, R55, R321, R357, R387): which fields an access covers, what they
read as, what a write does to each. -/

namespace Sys2Proof.Machine

open Sys2Proof

/-! ## Which fields a 32-bit access covers -/

/-- One field's part in a 32-bit access: element, lowest bit of the field covered, how many bits, their place in the
access. -/
structure FldHit where
  fld  : Fld
  elem : Nat
  lo   : Nat
  n    : Nat
  at_  : Nat
  deriving DecidableEq, Repr

/-- A field element that begins at bit `b` of its array, against the access of bits [a, a + 32). -/
def hitOf (f : Fld) (elem b a : Nat) : List FldHit :=
  let lo := max b a
  let hi := min (b + f.spec.width) (a + 32)
  if lo < hi then [{ fld := f, elem, lo := lo - b, n := hi - lo, at_ := lo - a }] else []

/-- The part of field `f` in the access at `off` of function `fn`'s window. -/
def fldHits (sp : Space) (fn off : Nat) (f : Fld) : List FldHit :=
  let d := f.spec
  if d.space ≠ sp ∨ off < d.base then []
  else
    let rel := off - d.base
    let o := if sp = .vf then fn else if d.oStride = 0 then 0 else rel / d.oStride
    let rem := if sp = .vf ∨ d.oStride = 0 then rel else rel % d.oStride
    if o ≥ d.oCount then []
    else if d.iStride = 0 then hitOf f (o * d.iCount) d.lo (8 * rem)
    else
      (([rem / d.iStride, rem / d.iStride + 1].filter (fun i => decide (i < d.iCount))).map
        (fun i => hitOf f (o * d.iCount + i) (8 * i * d.iStride + d.lo) (8 * rem))).flatten

/-- All fields a 32-bit access covers. -/
def accessHits (sp : Space) (fn off : Nat) : List FldHit := (fldAll.map (fldHits sp fn off)).flatten

/-- Where an access of a window lands: the window and offset of the field map (R52, R55: a VF's ring entries are those of
its groups' rings). -/
def State.landing (s : State) (fn off : Nat) : Space × Nat :=
  if fn = 0 then (.bar0, off)
  else if 0x400 ≤ off ∧ off < 0x400 + 64 * 496 then
    let i := (off - 0x400) / 64
    match (s.groupsOf fn)[i / 16]? with
    | some g => (.bar0, 0x140000 + 64 * (16 * g + i % 16) + (off - 0x400) % 64)
    | none => (.vf, 0x10000)
  else (.vf, off)

/-! ## Gated blocks (R2, R357, R387) -/

/-- Is the BAR0 offset in a gated block? The global DDR_ and SV_ registers are not gated. -/
def State.gatedAt (s : State) (off : Nat) : Bool :=
  if 0x800000 ≤ off ∧ off < 0xC00000 then !bitOf (s.rd .clkGateNdl_needle) ((off - 0x800000) / 0x10000)
  else if 0x400000 ≤ off ∧ off < 0x480000 then
    !decide (0x40F000 ≤ off ∧ off < 0x410000) && !bitOf (s.rd .clkGate_ddr) ((off - 0x400000) / 0x10000)
  else if 0xC20000 ≤ off ∧ off < 0xC30000 then
    !decide (0xC23000 ≤ off ∧ off < 0xC24000) && !bitOf (s.rd .clkGate_sv) ((off - 0xC20000) / 0x4000)
  else if (0x600100 ≤ off ∧ off < 0x600180) ∨ (0x600200 ≤ off ∧ off < 0x600280) then
    !bitOf (s.rd .clkGate_stitchQ) (off % 256 / 32)
  else false

/-- Counts an access to a gated block. -/
def State.touchGated (s : State) : State := s.count .clkGatedTouch_count

/-! ## Reading -/

/-- Fields whose value is computed from other state; all others read as the store holds them. -/
def State.view (s : State) (f : Fld) (i : Nat) : Nat :=
  match f with
  | .ringVfInfo_groupsOwned => (s.groupsOf i).length % 256
  | .ringVfInfo_groupsVisible => min 31 (s.groupsOf i).length
  | .ringVfGroup_group0 => (((s.groupsOf (i / 8)).take 31)[4 * (i % 8)]?).getD 0
  | .ringVfGroup_group1 => (((s.groupsOf (i / 8)).take 31)[4 * (i % 8) + 1]?).getD 0
  | .ringVfGroup_group2 => (((s.groupsOf (i / 8)).take 31)[4 * (i % 8) + 2]?).getD 0
  | .ringVfGroup_group3 => (((s.groupsOf (i / 8)).take 31)[4 * (i % 8) + 3]?).getD 0
  | .ndlStatus_ready => b2n (s.ndReady i)
  | .ndlStatus_vaultClass => s.rd .ndlCtrl_vaultAssign i
  | .ndlStatus_inReset => b2n (s.ndInReset i)
  | .ndlStatus_handlerLevel => b2n (s.nd i).x.handler
  | .ndlStatus_priv => (s.nd i).priv
  | .ndlStatus_retired => b2n (s.isRetired i)
  | .ndlReady_ready => maskOf 64 s.ndReady
  | .clkStatus_xtalStable => b2n s.power.xtalStable
  | .clkStatus_rootLock => b2n s.power.rootLock
  | .clkStatus_thimbleRoot => b2n s.power.rootLock
  | .thmLc_state => s.lifeState
  | .thmLc_sealEpoch => s.sealEpoch
  | .thmLc_rollback => s.rollback
  | .thmLc_tamperUsed => s.tamperUsed
  | .thmOwnerHash_hash =>
    if s.lifeState ≥ lcDeployed then leAt s.fusedOwner (8 * i) 8 else s.rd .thmOwnerHash_hash i
  | .ndlCtrl_engineReset => 0
  | _ => s.rd f i

/-- The value of an aligned 32-bit read. -/
def State.regRead32 (s : State) (fn off : Nat) : Nat :=
  let l := s.landing fn off
  (accessHits l.1 fn l.2).foldl (fun v h => v + bitsOf (s.view h.fld h.elem) h.lo h.n * 2 ^ h.at_) 0

/-- Size and alignment that R35 accepts. -/
def accessOk (off size : Nat) : Bool := (size == 4 || size == 8) && off % size == 0

/-- A read of 4 or 8 bytes (R36, R357): a gated block reads zeros and counts the access. -/
def State.regRead (s : State) (fn off size : Nat) : Nat × State :=
  if fn = 0 ∧ s.gatedAt off then (0, s.touchGated)
  else
    (s.regRead32 fn off + (if size = 8 then s.regRead32 fn (off + 4) * 2 ^ 32 else 0), s)

/-! ## Writing -/

/-- Is this field one of a ring's entry, which locks with its owner (R54)? -/
def ringField (f : Fld) : Bool :=
  f == .ringSqBase_addr || f == .ringCqBase_addr || f == .ringSqCfg_enable || f == .ringSqCfg_sizeLog2
    || f == .ringSqCfg_classPin || f == .ringSqCfg_cq || f == .ringCqCfg_enable || f == .ringCqCfg_sizeLog2
    || f == .ringCqCfg_irqEnable || f == .ringCqCfg_vector || f == .ringCqCoal_countM1 || f == .ringCqCoal_timerUs

/-- Is a write of an RWL field by this writer shut out by its lock (R10, R34, R54)? -/
def State.rwlShut (s : State) (a : RegAccess) (f : Fld) (elem : Nat) : Bool :=
  if ringField f then
    let owner := s.tenantOf elem
    if a.fn = 0 then owner != 0 || s.locked else s.flag .ringVfLock_lock a.fn
  else if f = .ringVfLock_lock then s.flag .ringVfLock_lock elem
  else if f = .globalProfile_requested && a.writer == .fitter then false
  else s.locked

/-- Fields a request is made by, which hold no written value. -/
def isRequest (f : Fld) : Bool := f == .globalSetupLock_lock || f == .ringVfLock_lock

/-- Writes the bits `v` of one hit into its field by the access type (R10). -/
def State.hitWrite (s : State) (a : RegAccess) (h : FldHit) (v : Nat) : State :=
  let old := s.rd h.fld h.elem
  let new := withBits old h.lo h.n v
  match h.fld.spec.acc with
  | .ro =>
    -- BOLT_MODE.maint is written by Warden firmware and the Thimble only (R346)
    if h.fld = .boltMode_maint && (a.writer == .warden || a.writer == .thimble) then s.wr h.fld h.elem new else s
  | .rw | .rws => s.wr h.fld h.elem new
  | .rw1c => s.wr h.fld h.elem (withBits old h.lo h.n (bitsOf old h.lo h.n - (bitsOf old h.lo h.n &&& v)))
  | .wo => s
  | .rwl =>
    if s.checking then s.duringCheck
    else if isRequest h.fld || s.rwlShut a h.fld h.elem then s
    else s.wr h.fld h.elem new

/-! ## What some fields do beside holding their value -/

/-- What a write asks of other chapters' operations. -/
inductive RegAsk where
  /-- the lock of R44 -/
  | lock
  /-- the lock of a VF's ring set-up (R55) -/
  | vfLock (fn : Nat)
  /-- the DEPLOYED transition (R456) -/
  | deploy
  deriving DecidableEq, Repr

/-- An island comes out of reset with its clock running, once the root is locked (R15, R371). -/
def State.islandUp (s : State) (i : Nat) : State :=
  if s.power.rootLock then
    (((s.wr .clkIsland_inReset i 0).wr .clkIsland_running i 1).wr .clkIsland_gated i 0).wr .clkIsland_divisor i
      (s.wantedDivisor i)
  else s.wr .clkIsland_gated i 0

/-- The Thimble's island runs outside a cold reset: on its oscillator, from root lock on the root divided by 32 (R15, R368,
R370). -/
def State.thimbleRuns (s : State) : State :=
  if s.power.porActive || s.power.sysRst || s.power.inReset == some 1 then s
  else ((s.wr .clkIsland_inReset 83 0).wr .clkIsland_running 83 1).wr .clkIsland_divisor 83 (if s.power.rootLock then 32 else 0)

/-- A DDR controller whose clock is gated serves no more; its channel is left in self-refresh and starts again, if it is let to,
at the lock (R387). -/
def State.gateDdr (s : State) (c : Nat) : State :=
  let up := s.flag .ddrcState_trained c
  let s := ((s.wr .ddrcState_trained c 0).wr .ddrcState_selfRefresh c (b2n up)).setReady (readyDdr c) false
  s.setChan c { s.chan c with started := false, restoring := false }

/-- An island is held in reset with its clock stopped (R387). -/
def State.islandHeld (s : State) (i : Nat) : State :=
  ((s.wr .clkIsland_inReset i 1).wr .clkIsland_running i 0).wr .clkIsland_gated i 1

/-- A quad whose clock starts begins its pipelines' start self-tests (R187, R383). -/
def State.quadUp (s : State) (q : Nat) : State := (s.islandUp (64 + q)).ungateQuad q

/-- The gateable islands follow CLK_GATE (R387); a bit forced to 0 by fuse cannot be set. -/
def State.syncGates (s : State) : State :=
  let s := if s.part = .b0m then
      (s.wr .clkGateNdl_needle 0 (s.rd .clkGateNdl_needle % 2 ^ 48)).wr .clkGate_stitchQ 0 (s.rd .clkGate_stitchQ % 8)
    else s
  let s := s.each 64 (fun n s =>
    if s.gateOff n then
      if s.flag .clkIsland_gated n then s else ((s.ndlEngineReset n).islandHeld n).noteCluster n
    else if s.flag .clkIsland_gated n then s.islandUp n else s)
  let s := s.each 4 (fun q s =>
    if s.gateOff (64 + q) then
      if s.flag .clkIsland_gated (64 + q) then s else (s.gateQuad q).islandHeld (64 + q)
    else if s.flag .clkIsland_gated (64 + q) && s.flag .clkIsland_inReset (64 + q) then
      if s.power.rootLock then s.quadUp q else s.wr .clkIsland_gated (64 + q) 0
    else s)
  ([69, 70, 71, 72, 73, 74, 75, 76, 78, 79, 80, 81] : List Nat).foldl (fun s i =>
    if s.gateOff i then
      if s.flag .clkIsland_gated i then s
      else if i < 77 then (s.gateDdr (i - 69)).islandHeld i
      else s.islandHeld i
    else if s.flag .clkIsland_gated i then s.islandUp i else s) s

/-- NDL_CTRL of engine `n` has been written (R318, R320, R321): an engine reset by its bit or by a rising hold; the mode
bits wait for the engine's next boundary; readiness follows. -/
def State.ndlCtrlWritten (s : State) (n : Nat) (reset heldBefore modeHit : Bool) : State :=
  let s := if reset || (s.flag .ndlCtrl_hold n && !heldBefore) then (s.dropSessions 6).ndlEngineReset n
    else if modeHit then s.setNd n { s.nd n with modeReq := true } else s
  s.noteCluster n

/-- In DEPLOYED, an enable bit of THM_TAMPER_CFG once set cannot be cleared (R468). -/
def State.tamperKeep (s old : State) : State :=
  if s.lifeState = lcDeployed then
    ([.thmTamperCfg_inEn, .thmTamperCfg_meshEn, .thmTamperCfg_voltEn, .thmTamperCfg_tempEn, .thmTamperCfg_clkEn]
      : List Fld).foldl (fun s f => s.wr f 0 (s.rd f ||| old.rd f)) s
  else s

/-- A 32-bit write. -/
def State.regWrite32 (s : State) (a : RegAccess) (off v : Nat) : State × List RegAsk :=
  let l := s.landing a.fn off
  let hits := accessHits l.1 a.fn l.2
  let val := fun (h : FldHit) => bitsOf v h.at_ h.n
  let has := fun (f : Fld) => hits.any (fun h => h.fld == f)
  let one := fun (f : Fld) => hits.any (fun h => h.fld == f && val h != 0)
  let num := fun (f : Fld) => match hits.find? (fun h => h.fld == f) with | some h => val h | none => 0
  let open_ := !s.checking && !s.locked
  let asks := (if one .globalSetupLock_lock && open_ then [RegAsk.lock] else [])
    ++ (if one .ringVfLock_lock && !s.checking && !s.flag .ringVfLock_lock a.fn then [RegAsk.vfLock a.fn] else [])
    ++ (if num .thmLcReq_target == 2 && num .thmLcReq_confirm == 0x4C43 && open_ then [RegAsk.deploy] else [])
  let old := s
  let s := hits.foldl (fun s h => s.hitWrite a h (val h)) s
  let s := if has .clkGateNdl_needle || has .clkGate_stitchQ then s.syncGates else s
  let s := if has .clkOut_out0Depth || has .clkOut_out1Rate then s.noteSpread old else s
  let s := if has .thmTamperCfg_inEn then s.tamperKeep old else s
  let s := match hits.find? (fun h => h.fld == .ndlCtrl_hold) with
    | some h => s.ndlCtrlWritten h.elem (one .ndlCtrl_engineReset) (old.flag .ndlCtrl_hold h.elem)
        (s.rd .ndlCtrl_remap h.elem != old.rd .ndlCtrl_remap h.elem
          || s.rd .ndlCtrl_debug h.elem != old.rd .ndlCtrl_debug h.elem)
    | none => s
  -- a mask bit written as 0 sends the message that waits (R81)
  let s := hits.foldl (fun s h =>
    if h.fld = .msix_mask then s.sendUnmasked 0 h.elem
    else if h.fld = .vfMsix_mask then s.sendUnmasked (h.elem / 64) (h.elem % 64)
    else s) s
  (s, asks)

/-- An access R35 does not accept: AER logs a Completer Abort, and a read is answered with one. -/
def State.badAccess (s : State) (write : Bool) : State :=
  let s := s.emit .aerCompleterAbort
  if write then s else s.emit .completerAbort

/-- A register write through a window (R35, R357): what it changes at once, and what it asks for. -/
def State.regWrite (s : State) (a : RegAccess) : State × List RegAsk :=
  if !accessOk a.offset a.size then (s.badAccess true, [])
  else if a.fn = 0 ∧ s.gatedAt a.offset then (s.touchGated, [])
  else
    let r := s.regWrite32 a a.offset (a.value % 2 ^ 32)
    if a.size = 8 then
      let q := r.1.regWrite32 a (a.offset + 4) (a.value / 2 ^ 32 % 2 ^ 32)
      (q.1, r.2 ++ q.2)
    else r

end Sys2Proof.Machine
end

