-- ==== Sys2Proof/Machine/Wipe.lean ====
section
/-! DEFINITION. The vault wipe, key destruction, placing keys, and the rewrap sweep (R149-R156, R275, R343, R344, R458,
R459). -/

namespace Sys2Proof.Machine

open Sys2Proof

/-! ## The wipe (R147, R176, R275, R343, R344) -/

/-- Every Stitch key-schedule slot clears, and with it every stream with a cipher stage that has not retired ends: one that
waits or runs, and one that has finished too, whose destinations become undefined (R176, R177). -/
def State.wipeSlots (s : State) : State :=
  let s := s.each 16 (fun p s => s.setPipe p { s.pipe p with slots := [] })
  let wiped := fun (x : Strm) => { x with key := [], ended := some (stAbortedByReset, abortedBy 8) }
  let hit := s.sht.waiting.filter (fun x => x.ks.isSome)
  let s := hit.foldl State.spoilStrm s
  let s := s.setSht { s.sht with waiting := s.sht.waiting.map (fun x => if x.ks.isSome then wiped x else x) }
  (s.sht.flight.filter (fun x => x.ks.isSome)).foldl (fun s x =>
    let s := if x.ended.isNone then s.endStrm x.id stAbortedByReset (abortedBy 8) else s.spoilStrm x
    s.mapStrm x.id wiped) s

/-- A vault wipe (R344, steps 1 and 2): the vault cells, the slots, the sessions, the plaintext keys and every Needle's KEY
state. -/
def State.vaultWipe (s : State) : State :=
  let s := ((s.flashClear).wipeSlots).dropSessions 8
  let s := s.setVault { s.vault with keyHeld := false, cache := [] }
  (s.each 65 (fun n s => s.ndWipe n)).setReady readyVault false

/-! ## When the table serves (R22, R155, R156, R455, R470) -/

/-- The table and the extension store, where not empty, lie within the usable DDR5 (R394). -/
def State.regionsFit (s : State) : Bool :=
  (s.ddrRegions.take 2).all (fun r => r.2 == 0 || decide (r.1 + r.2 ≤ s.ddrUsable))

/-- Every channel that is not retired serves. -/
def State.ddrReady (s : State) : Bool :=
  (List.range 8).all (fun c => s.flag .ddrcState_retired c || s.isReady (readyDdr c))

/-- VAULT_TABLE may set: the write-back of a warm reset, which holds every request through the cache region, has ended too
(R346). -/
def State.tableCond (s : State) : Bool :=
  s.locked && s.lifeServes && s.isReady readyTrng && s.isReady readyBoltVault && s.vault.keyHeld && s.regionsFit
    && s.ddrReady && !s.bolt.writeBack && !s.bolt.lay.vaultB.isEmpty && !s.debugOpen

/-- Keys may be placed in the vault region. -/
def State.mayPlace (s : State) : Bool :=
  s.vault.sealedCur && s.isReady readyBoot && s.isReady readyTrng && s.isReady readyBoltVault && !s.debugOpen && s.lifeServes

/-- The Thimble unseals the table keys and places them in the vault region (R149, R462 step 6); VAULT_TABLE sets again
when nothing has to be rebuilt. The previous key is placed while a sweep needs it. -/
def State.placeKeys (s : State) : State :=
  if !s.mayPlace then s
  else
    let s := s.setVault { s.vault with keyHeld := true, prev := if s.vault.sweeping then s.vault.sealedPrev else none }
    if s.tableCond && !s.vault.rebuilding then s.setReady readyVault true else s

/-- VAULT_READBACK_DONE (R344, steps 3 and 4). -/
def actVaultReadbackDone (nonZero : List (Nat × Nat)) (s : State) : Host.Outcome State Fault Refusal :=
  if !s.bolt.wiping || !s.isReady (readyTier 0) then .next s
  else
    let s := s.vaultReadback nonZero
    -- while debug is open BOLT_VAULT stays clear (R470)
    let s := if s.debugOpen then s.setReady readyBoltVault false else s
    .next s.placeKeys

/-! ## The sweep (R149-R152) -/

/-- The bytes of a checkpoint record (R151): the tag under the target key covers bytes 0 to 47; the spec names no IV. -/
def ckptBytes (key : Bs) (r : Ckpt) : List Byte :=
  let body := toLe 4 r.seq ++ toLe 4 r.keyId ++ toLe 4 r.next_ ++ zeros 4 ++ toLe 8 r.time ++ zeros 24
  bytesOf (body ++ Aes.gcmTag key (Config.ckptIv r.keyId r.seq) body [])

/-- The line of the checkpoint area that holds the two slots (R129). -/
def State.ckptLine (s : State) : Nat := s.vault.base / 128 + s.tableSize

/-- Writes a checkpoint record; it alternates between the two slots (R151). -/
def State.checkpoint (s : State) (next_ : Nat) : State :=
  let v := s.vault
  let n := v.ckptSeq + 1
  let r : Ckpt := { seq := n, keyId := v.keyId, next_, time := s.tableTime, good := true }
  let s := s.setVault (if n % 2 = 1 then { v with ckptSeq := n, ckptA := some r }
    else { v with ckptSeq := n, ckptB := some r })
  s.vaultWrite s.ckptLine (if n % 2 = 1 then 0 else 64) (ckptBytes (natsOf v.key) r)

/-- A slot's record: valid while its tag verifies, for the current key. -/
def State.ckptValid (s : State) (c : Option Ckpt) (off : Nat) : Option Ckpt :=
  c.filter (fun r => r.good && r.keyId == s.vault.keyId && s.lineGood s.ckptLine off 64)

/-- The newer valid slot. -/
def State.ruling (s : State) : Option Ckpt :=
  match s.ckptValid s.vault.ckptA 0, s.ckptValid s.vault.ckptB 64 with
  | some a, some b => if a.seq < b.seq then some b else some a
  | some a, none => some a
  | none, b => b

/-- The record written last. -/
def State.lastCkpt (s : State) : Option Ckpt := if s.vault.ckptSeq % 2 = 1 then s.vault.ckptA else s.vault.ckptB

/-- The record is mirrored to SPI NOR. -/
def State.mirrorNow (s : State) : State :=
  match s.lastCkpt with
  | some r => (s.setVault { s.vault with mirror := some r }).logRecord 0x0603 4 0 (valLe (natsOf (ckptBytes (natsOf s.vault.key) r)))
  | none => s

/-- VT_STATUS shows the sweep. -/
def State.showSweep (s : State) (next_ : Nat) : State :=
  ((s.wr .vtStatus_sweepRunning 0 (b2n s.vault.sweeping)).wr .vtStatus_sweepNext 0 next_).wr .vtStatus_epoch 0
    (b2n s.epochNow)

/-- The sweep ends (R152): a final record, the previous key's plaintext dropped, one error record. -/
def State.sweepEnd (s : State) : State :=
  let n := s.tableSize
  let s := s.checkpoint n
  let s := s.setVault { s.vault with sweeping := false, prev := none }
  (s.showSweep n).report 0x0603 0x12 0 (s.vault.keyId % 2 ^ 32) repVault

/-- Re-encrypts entry `i` where its epoch differs from the target (R150); one that fails its tag is reported and left as it
is (R133). -/
def State.rewrap (s : State) (i : Nat) : State :=
  if !(s.entry i).live then s
  else
    let s := s.vaultRead (s.entryLines i (s.entry i))
    match s.entryRead i with
    | none => s.report 0x0603 0x11 3 (i % 2 ^ 24) repVault
    | some e =>
      if e.live && e.epoch != s.epochNow then
        s.storeEntry i { e with epoch := s.epochNow, writeCount := e.writeCount + 1 }
      else s

/-- REWRAP_SWEEP_STEP (R150-R152): the next index is visited; the engine's requests are held during maintenance (R331). -/
def actRewrapSweepStep (s : State) : Host.Outcome State Fault Refusal :=
  let i := s.rd .vtStatus_sweepNext
  if !s.vault.sweeping || !s.isReady readyVault || s.flag .boltMode_maint then .next s
  else if i ≥ s.tableSize then .next s.sweepEnd
  else
    let s := (s.rewrap i).showSweep (i + 1)
    let s := if (i + 1) % 4096 = 0 then s.checkpoint (i + 1) else s
    let s := if (i + 1) % 1048576 = 0 then s.mirrorNow else s
    if i + 1 ≥ s.tableSize then .next s.sweepEnd else .next s

/-- A checkpoint requested at Tack input 276 (R359). -/
def State.ckptRequest (s : State) (gen : Nat) : State :=
  let s := (s.checkpoint (s.rd .vtStatus_sweepNext)).setVault
    { (s.checkpoint (s.rd .vtStatus_sweepNext)).vault with mirroring := true }
  s.setTack { s.tack with ckptGen := some gen }

/-- CHECKPOINT_MIRROR_DONE (R358, R360): the mirror is written and source 186 rises. -/
def actCheckpointMirrorDone (s : State) : Host.Outcome State Fault Refusal :=
  if !s.vault.mirroring then .next s
  else
    let s := (s.mirrorNow).setVault { s.mirrorNow.vault with mirroring := false }
    match s.tack.ckptGen with
    | some g => .next ((s.setTack { s.tack with ckptGen := none }).raiseTack 186 (g + 1))
    | none => .next s

/-- Where an interrupted sweep goes on (R155): the newer valid DDR5 record, the SPI NOR mirror, index 0; a clear leaves no
DDR5 record, and after a cold reset, or over a changed table, it starts from 0. -/
def State.resumeAt (s : State) : Nat :=
  match s.ruling with
  | some r => r.next_
  | none =>
    match (if s.vault.fromZero then none else s.vault.mirror) with
    | some r => if r.keyId = s.vault.keyId then r.next_ else 0
    | none => 0

/-- Does the SPI NOR mirror show a sweep running towards the current key (R155)? -/
def State.mirrorRuns (s : State) : Bool :=
  match s.vault.mirror with
  | some r => r.keyId == s.vault.keyId && decide (r.next_ < s.tableSize)
  | none => false

/-- FREE_LIST_REBUILD_DONE (R155, R156): the free lists stand, VAULT_TABLE sets, an interrupted sweep goes on; one that starts
again from 0 writes the record of its start (R151). -/
def actFreeListRebuildDone (s : State) : Host.Outcome State Fault Refusal :=
  if !s.vault.rebuilding || !s.tableCond then .next s
  else
    let s := s.setVault { s.vault with rebuilding := false }
    let s := (s.setReady readyVault true).noteLive
    let from_ := if s.vault.sweeping then s.resumeAt else s.rd .vtStatus_sweepNext
    let s := if s.vault.sweeping && from_ == 0 then s.checkpoint 0 else s
    let s := s.showSweep from_
    .next (s.setVault { s.vault with fromZero := false })

/-! ## Key destruction (R155, R459) -/

/-- The table, its checkpoint area and the extension store are cleared and zeroed (R155, R156); allocation pointers start over
(R135). -/
def State.clearTable (s : State) : State :=
  let lo := s.vault.base / 128
  let ex := s.vault.ext / 128
  let keep := fun (l : Nat) => !decide (lo ≤ l ∧ l < lo + s.tableSize + 32 ∨ ex ≤ l ∧ l < ex + s.vault.extBlocks)
  let s := s.zeroLines keep
  (s.setVault { s.vault with entries := [], ptrs := [], ckptA := none, ckptB := none, cache := [], image := [] }).noteLive

/-- The table of a device whose DDR5 was lost, or whose table moved: empty, and a sweep that the mirror shows running
starts from 0 (R155). -/
def State.coldTable (s : State) : State :=
  let s := s.clearTable
  s.setVault { s.vault with fromZero := true, sweeping := s.mirrorRuns }

/-- Every MACsec key is cleared, so every SELVAGE bit clears. -/
def State.clearSaks (s : State) : State :=
  let s := s.setMesh { s.mesh with sak := [], txPn := [], rxPn := [] }
  (s.each 4 (fun p s => (s.wr .svPortState_keyed p 0).setReady (readySv p) false)).notePaths

/-- A new table key under the next key ID (R459 step 4): sealed and, when the vault allows, placed. It waits for the DRBG. -/
def State.newTableKey (s : State) : State :=
  if !s.thm.drbg then s
  else
    let r := s.freshBytes 32
    let s := r.2
    let id := (s.vault.keyId + 1) % 2 ^ 32
    (((s.setVault { s.vault with keyId := id, key := r.1, sealedCur := true, prev := none, sealedPrev := none }).sealRecord 1
      id r.1).showSweep 0)

/-- The next seal-epoch word is programmed; the 64th makes the device RETIRED (R456, R459 step 2). -/
def State.nextSealEpoch (s : State) : State :=
  let s := match s.nextFuse fuSeal 64 with | some i => s.programFuse i 1 | none => s
  if s.sealEpoch == 64 && s.lifeState != lcRetired then
    match s.nextFuse fuLife 6 with
    | some i => (s.programFuse i lcRetired).report 0x0604 0x34 1 lcRetired repThimble
    | none => s.report 0x0604 0x34 1 (s.lifeState + 4) repThimble
  else s

/-- The sealed records are erased, and the table that rested on them. -/
def State.eraseSealed (s : State) : State :=
  let s := s.setVault { s.vault with sealedCur := false, prev := none, sealedPrev := none, sweeping := false,
                                     mirror := none, mirroring := false, rebuilding := s.locked }
  (((s.setThm { s.thm with sealed := none }).setMesh { s.mesh with key := none }).eraseRecords).clearTable

/-- A RETIRED device has no table key, and its table and sessions are never ready (R455). -/
def State.endService (s : State) : State := ((s.showSweep 0).setReady readyVault false).setReady readySessions false

/-- Key destruction (R459): the wipe, the MACsec keys, a fresh DRBG, the seal epoch, the sealed records, and but for a
RETIRED device a new table key. -/
def State.keyDestruction (s : State) : State :=
  let s := (s.vaultWipe).clearSaks
  let s := if s.thm.drbg then s.count .thmTrng_reseeds else s
  let s := s.nextSealEpoch.eraseSealed
  if s.lifeState = lcRetired then s.endService else s.newTableKey

end Sys2Proof.Machine
end

