-- ==== Sys2Proof/Machine/Setup.lean ====
section
/-! DEFINITION. The set-up lock and the VF ring lock: requests, checks, and what starts when they pass (R43-R45, R51, R55,
R326, R382, R394). -/

namespace Sys2Proof.Machine

open Sys2Proof

/-! ## The consistency check (R40, R44) -/

/-- The VFs that exist: NumVFs while VF Enable is set. -/
def State.numVfs (s : State) : Nat :=
  let c := (s.fnCfg 0).ctl
  if c.vfEnable then c.numVfs else 0

/-- An SQ of an assigned group names a CQ that its function does not own (R55). -/
def State.foreignCq (s : State) (n : Nat) : Bool :=
  (s.ringOwner n).isSome && s.ringOwner (s.rd .ringSqCfg_cq n) != s.ringOwner n

/-- An SQ of an assigned group names a CQ that another function owns (R40); one of a group that no function owns keeps the SQ from
starting only (R51). -/
def State.othersCq (s : State) (n : Nat) : Bool := s.foreignCq n && (s.ringOwner (s.rd .ringSqCfg_cq n)).isSome

/-- ring_assign: a group names a function above NumVFs, or an SQ a CQ of another function. -/
def State.errRing (s : State) : Bool :=
  (s.listed .ringGroup_valid).any (fun g => decide (s.numVfs < s.rd .ringGroup_function g))
    || (s.listed .ringSqCfg_enable).any s.othersCq

/-- host_area: a base is zero; the fields hold 4 KiB aligned addresses only. -/
def State.errHost (s : State) : Bool :=
  s.rd .ringDbBase_addr == 0 || s.rd .ringSumBase_addr == 0 || s.rd .ringStatusBase_addr == 0

/-- ddr_spare (R393): a spare is asked for while the log records a retired channel; a migration in progress, which the
controllers keep through a warm reset, goes on with the spare it has (R396, R407). -/
def State.errSpare (s : State) : Bool :=
  s.flag .ddrSpare_enable && s.anyRetired 0x300 0x307 && s.migration.running == 0

/-- ddr_regions: non-empty protected regions overlap or reach past 512 GiB (R394). -/
def State.errRegions (s : State) : Bool :=
  let l := (s.regionsAt (s.rd .thmProg_base)).filter (fun r => r.2 != 0)
  l.any (fun r => decide (ddrWindow < r.1 + r.2))
    || (List.range l.length).any (fun i => (l.drop (i + 1)).any (fun r =>
        let q := l.getD i (0, 0)
        meets q.1 q.2 r.1 r.2))

/-- SETUP_LOCK_REQUEST (R44, R45): accepted while cfg = 1 and no check runs; during one it is an RWL write that is dropped. -/
def actSetupLockRequest (s : State) : Host.Outcome State Fault Refusal :=
  if s.checking then .next s.duringCheck
  else if s.isReady readyCfg && !s.locked then .next (s.wr .globalSetupLock_checkBusy 0 1) else .next s

/-! ## What starts at the lock (R382, R383, R385) -/

/-- The Bolt layout of the set-up comes into force: scratch kept through a warm reset stays when layout and dedications are
the previous ones; a change of the vault region wipes it (R326, R346). -/
def State.lockBolt (s : State) : State :=
  let l := s.layoutAsked
  let kept := match s.bolt.kept with | some k => k.scratchB | none => []
  let keep := if s.bolt.kept = some l then kept else []
  let s := if keep.isEmpty then kept.foldl State.clearBank s else s
  let s := s.setBolt { s.bolt with kept := none }
  let vaultMoved := s.bolt.lay.vaultB != l.vaultB
  let s := s.applyLayout keep l
  -- scratch banks in retention wake at the lock
  let s := s.each 48 (fun b s => if s.rd .boltBankState_power b = 1 then s.wr .boltBankState_power b 0 else s)
  if vaultMoved then s.vaultWipe else s

/-- Is the DDR5 contents lost: does a channel that is not retired start cold (R396)? -/
def State.ddrLost (s : State) : Bool :=
  (List.range 8).any (fun c => !s.chanOut c && !s.flag .ddrcState_trained c && !(s.chan c).restoring)

/-- The channels start, each on the settings sampled now; those that a hot reset left running keep theirs (R378, R395). -/
def State.lockDdr (s : State) : State :=
  let fresh := (List.range 8).all (fun c => !(s.chan c).started)
  let s := if s.ddr.migr.isSome then s.showMigration else s
  let s := if fresh then s.setDdr { s.ddr with rate := s.ddrRateAsked, spare := s.flag .ddrSpare_enable } else s
  let s := s.each 8 (fun c s => if (s.chan c).started then s else s.startChannel c)
  -- contents that no channel keeps end a migration; after one the seven-channel map stands from the outset (R407)
  if fresh && s.ddrLost then
    let seven := (s.spentNext.filter (fun c => s.isRetired (0x300 + c)))
    let s := s.setDdr { s.ddr with spentBy := seven, pop := none }
    let s := (s.wr .ddrStatus_map7 0 (b2n seven.isSome)).wr .ddrMigrate_running 0 0
    (s.wr .ddrMigrate_next 0 0).wr .ddrStatus_spareUsedBy 0 (seven.getD 0)
  else s

/-- The Vault Table engine samples its fields: a table whose place or size changes, or whose DDR5 contents are lost, is
cleared (R129, R142, R155, R396). -/
def State.lockVault (s : State) : State :=
  let v := s.vault
  let base := s.rd .vtBase_addr * 2 ^ 31
  let ext := s.rd .vtExt_addr * 2 ^ 22
  let blocks := min 64 (s.rd .vtExt_size64mib) * 2 ^ 19
  let t := 20 + min 4 (s.rd .vtCtrl_sizeM20)
  let same := decide (v.base = base ∧ v.ext = ext ∧ v.extBlocks = blocks ∧ v.t = t)
  let s := s.setVault { v with base, ext, extBlocks := blocks, t, slotMib := s.rd .vtCtrl_keySlotMib, lockAt := s.time,
                               rebuilding := true, ptrs := [] }
  if same && !s.ddrLost then s else s.coldTable

/-- The profile asked for is in force from the lock (R371): divisors, and Q2 and Q3 gated in FRUGAL. -/
def State.lockProfile (s : State) : State :=
  let p := s.rd .globalProfile_requested
  let s := (s.wr .globalProfile_active 0 p).setFit { s.fit with profPrev := p }
  let s := s.each 64 (fun n s => if s.flag .clkIsland_running n then s.switchDivisor n (s.wantedDivisor n) else s)
  if p = 3 then (s.gateQuad 2).gateQuad 3 else s

/-- A measurement of the set-up: a digest whose input the spec leaves open. -/
def State.measure (s : State) (i : Nat) : State :=
  let r := s.freshBytes 64
  let s := r.2
  s.setThm { s.thm with meas := (s.thm.meas.filter (fun m => m.1 != i)) ++ [(i, r.1)] }

/-- The Thimble samples THM_PROG.base when its program store starts; no reset that leaves the Thimble running starts that
again (R377, R382). -/
def State.lockProg (s : State) : State := s.setThm { s.thm with progBase := some s.progBase }

/-- Everything that starts at the lock. -/
def State.lockStarts (s : State) : State :=
  let s := (((s.lockProfile).lockBolt).lockDdr).lockProg
  let s := (s.lockVault).measure 6
  let s := s.each 4 (fun p s => if s.portGated p then s else s.startPort p)
  let s := s.weightsBack.startEngine
  (s.startTimers.setReady readyTack true).setReady readyShuttle true

/-- LOCK_CHECK_DONE (R43 step 13): the lock sets, or lock_refused and the cause bits. -/
def actLockCheckDone (s : State) : Host.Outcome State Fault Refusal :=
  if !s.checking then .next s
  else
    let s := s.wr .globalSetupLock_checkBusy 0 0
    let mark := fun (s : State) (f : Fld) (b : Bool) => if b then s.wr f 0 1 else s
    let bolt := !s.boltSetupOk
    if s.errRing || s.errHost || bolt || s.errSpare || s.errRegions then
      let t := mark (mark (mark s .globalSetupErr_ringAssign s.errRing) .globalSetupErr_hostArea s.errHost)
        .globalSetupErr_boltPartition bolt
      let t := mark (mark t .globalSetupErr_ddrSpare s.errSpare) .globalSetupErr_ddrRegions s.errRegions
      .next (t.wr .globalSetupErr_lockRefused 0 1)
    else .next (s.wr .globalSetupLock_lock 0 1).lockStarts

/-! ## A VF's ring set-up (R55) -/

/-- RING_VF_LOCK_REQUEST (R45, R55): the VF's check starts; during the check of GLOBAL_SETUP_LOCK it is an RWL write that is
dropped. -/
def actRingVfLockRequest (fn : Nat) (s : State) : Host.Outcome State Fault Refusal :=
  if s.checking && decide (0 < fn ∧ fn < 256) then .next s.duringCheck
  else if fn = 0 ∨ fn ≥ 256 ∨ s.flag .ringVfLock_lock fn ∨ s.flag .ringVfLock_checkBusy fn then .next s
  else .next (s.wr .ringVfLock_checkBusy fn 1)

/-- Enabled SQs a VF sees. -/
def State.vfSqs (s : State) (fn : Nat) : List Nat := (s.listed .ringSqCfg_enable).filter (fun n => s.visible fn n)

/-- VF_LOCK_CHECK_DONE: refused when an enabled SQ names a CQ the VF does not own; else locked, and its rings start once
the set-up is locked too. -/
def actVfLockCheckDone (fn : Nat) (s : State) : Host.Outcome State Fault Refusal :=
  if !s.flag .ringVfLock_checkBusy fn then .next s
  else
    let s := s.wr .ringVfLock_checkBusy fn 0
    if (s.vfSqs fn).any s.foreignCq then .next (s.wr .ringVfLock_refused fn 1)
    else
      let s := s.wr .ringVfLock_lock fn 1
      if s.rings.running then .next (s.startRings fn) else .next s

end Sys2Proof.Machine
end

