-- ==== Sys2Proof/Machine/Retire.lean ====
section
/-! DEFINITION. Classification and retirement of units (R25, R402, R403, R429, R435, R438, R439), and what a start reads
from the retirement log. -/

namespace Sys2Proof.Machine

open Sys2Proof

/-! ## Effects of a retirement (R185, R345, R404, R405, R427) -/

/-- A Needle leaves service: what it ran ends, and it stays in reset. -/
def State.retireNeedle (s : State) (n : Nat) : State :=
  ((s.endInv n stResourceRetired (resultOf 0xFF 4 n)).ndlEngineReset n).noteCluster n

/-- A bank, and with a vault bank the vault (R345). -/
def State.retireBankWhole (s : State) (b : Nat) : State :=
  let inVault := s.bolt.lay.partOf b == 0
  let s := s.retireBank b
  let s := if inVault then s.vaultWipe else s
  s.shuttleRun

/-- Takes a unit out of service: its entry in the verified set, a log record asked for, one error record, its effect. -/
def State.retireOne (s : State) (u reason : Nat) : State :=
  let s := s.setFit { s.fit with retired := s.fit.retired ++ [(u, reason)] }
  let s := (s.setBucket u []).logRecord u 1 reason 0
  let s := s.report u 0x04 2 reason repFitter
  if u < 0x40 then s.retireNeedle u
  else if u < 0x110 then s.retirePipe (u - 0x100)
  else if u < 0x230 then s.retireBankWhole (u - 0x200)
  else if u < 0x308 then s.retireChannel (u - 0x300) (reason == 5)
  else if u < 0x320 then s.retireRank ((u - 0x310) / 2) (u % 2)
  else if u < 0x404 then s.retirePort (u - 0x400)
  else s

/-- The unit a retirement takes out: of a rank in a one-rank channel, or whose other rank is retired, the channel (R402, R404).
A channel whose population no training has found yet is judged by it then (startFaults). -/
def State.retiresAs (s : State) (u : Nat) : Nat :=
  let c := (u - 0x310) / 2
  let one := match s.ddr.pop with | some (_, _, n) => decide (n ≤ 1) | none => false
  if 0x310 ≤ u ∧ u < 0x320 ∧ (one = true ∨ s.isRetired (0x310 + 2 * c + (1 - u % 2))) then
    0x300 + c
  else u

/-- Retires a retirable unit, with one error record (R25, R402); one that is retired already stays as it is (R431). -/
def State.retireUnit (s : State) (u reason : Nat) : State :=
  if s.isRetired u || !retirable u || s.isRetired (s.retiresAs u) then s
  else
    let s := s.retireOne (s.retiresAs u) reason
    if 0x410 ≤ u ∧ u < 0x420 then
      let p := (u - 0x410) / 4
      let r := s.retireLane p (u % 4)
      if r.2 && !r.1.isRetired (0x400 + p) then r.1.retireOne (0x400 + p) reason else r.1
    else s

/-! ## Classification (R402, R403, R435) -/

/-- The row with at least three quarters of the events of a rank's window, if there is one. -/
def State.hotRow (s : State) (u : Nat) : Option Nat :=
  let mine := s.fit.rowEv.filter (fun e => e.1 == u)
  let total := mine.length
  let inRow : Nat → Nat := fun k => (mine.filter (fun e => e.2.2.1 == k)).length
  (mine.map (fun e => e.2.2.1)).find? (fun k => decide (3 * total ≤ 4 * inRow k ∧ 0 < total))

/-- The repair of a row of a rank: subchannel and rank, bank, row. -/
def repairOf (u key : Nat) : Sppr :=
  let q := key / 2 ^ 18
  { ch := (u - 0x310) / 2, subr := u % 2 + 2 * (q / 32), bank := q % 32, row := key % 2 ^ 18 }

/-- Has the row's bank group a repair left: one each, per rank and subchannel (R403)? -/
def State.repairFree (s : State) (r : Sppr) : Bool :=
  !((s.fit.sppr ++ s.ddr.repairs).any (fun x => x.ch == r.ch && x.subr == r.subr && x.bank / 4 == r.bank / 4))

/-- An sPPR is begun instead of a retirement. -/
def State.beginSppr (s : State) (u : Nat) (r : Sppr) : State :=
  let s := s.setDdr { s.ddr with repairs := s.ddr.repairs ++ [r] }
  let s := (s.setBucket u []).setFit { (s.setBucket u []).fit with rowEv := s.fit.rowEv.filter (fun e => e.1 != u) }
  s.logRecord u 3 0 (r.subr + r.bank * 16 + r.row * 2 ^ 32)

/-- A unit classified permanent (R435), but for the writes its controller kept (R401). -/
def State.classifyUnit (s : State) (u reason : Nat) : State :=
  if s.unitGone u then s
  else if !bitOf (s.rd .fitCtrl_retireEn) (bucketKind u) then
    let s := s.report u 0x05 2 (s.bucketLevel u % 2 ^ 32) repFitter
    s.setBucket u []
  else if decide (0x310 ≤ u ∧ u < 0x320) && reason == 0 then
    match s.hotRow u with
    | some k => if s.repairFree (repairOf u k) then s.beginSppr u (repairOf u k) else s.retireUnit u 0
    | none => s.retireUnit u 0
  else s.retireUnit u reason

/-- A unit classified permanent (R435): a DDR5 controller then performs the writes it kept, whatever the class led to (R401). -/
def State.classify (s : State) (u reason : Nat) : State :=
  let s := s.classifyUnit u reason
  if 0x300 ≤ u ∧ u < 0x320 then s.flushKept else s

/-- Latched units are classified while the Fitter is alive (R429 step 4). -/
def State.classifyLatched : Nat → State → State
  | 0, s => s
  | fuel + 1, s =>
    if !s.fitterAlive then s
    else
      match s.fit.latched with
      | [] => s
      | (u, reason) :: more => State.classifyLatched fuel ((s.setFit { s.fit with latched := more }).classify u reason)

/-! ## What a start reads (R25, R385, R395, R438, R439) -/

/-- One verified log record. -/
def applyLog (a : List (Nat × Nat) × List Sppr) (r : LogRec) : List (Nat × Nat) × List Sppr :=
  let out := a.1.filter (fun e => e.1 != r.unit)
  match r.action with
  | 1 => (out ++ [(r.unit, r.reason)], a.2)
  | 5 => (out ++ [(r.unit, r.reason)], a.2)
  | 2 => (out, a.2)
  | 3 => (a.1, a.2 ++ [{ ch := (r.unit - 0x310) / 2, subr := r.detail % 4, bank := r.detail / 16 % 64, row := r.detail / 2 ^ 32 }])
  | _ => a

/-- The retirements and repairs that the log's valid records describe; a record whose signature fails is named by a
LOG_INVALID record. -/
def State.readLog (s : State) : State :=
  let all := s.log.halves.2 ++ s.log.halves.1
  let s := (all.filter (fun r => !r.good)).foldl (fun s r => s.report 0x0604 0x16 1 (r.seq % 2 ^ 32) repThimble) s
  let r := (all.filter (fun r => r.good)).foldl applyLog ([], [])
  s.setFit { s.fit with retired := r.1, sppr := r.2.eraseDups, logQueue := [] }

/-- The registers that show retirement follow the verified set. -/
def State.showRetired (s : State) : State :=
  s.fit.retired.foldl (fun s r =>
    let u := r.1
    if 0x100 ≤ u ∧ u < 0x110 then s.wr .stcPipeState_retired (u - 0x100) 1
    else if 0x200 ≤ u ∧ u < 0x230 then s.wr .boltBankState_retired (u - 0x200) 1
    else if 0x400 ≤ u ∧ u < 0x404 then s.wr .svPortState_retired (u - 0x400) 1
    else if 0x410 ≤ u ∧ u < 0x420 then
      let p := (u - 0x410) / 4
      s.wr .svPortState_laneRetired p (withBit (s.rd .svPortState_laneRetired p) (u % 4) true)
    else s) s

end Sys2Proof.Machine
end

