-- ==== Sys2Proof/Machine/Thimble.lean ====
section
/-! DEFINITION. The Thimble (chapter 19): boot, images, life cycle, tamper, entropy, attestation and vendor requests. -/

namespace Sys2Proof.Machine

open Sys2Proof

/-- An error record of the Thimble (R471). -/
def State.thmReport (s : State) (cls severity detail : Nat) : State := s.report 0x0604 cls severity detail repThimble

/-! ## SPI NOR and the boot pointer (R460) -/

/-- One bit, one byte and a list of bytes of the CRC-32 of R460. -/
def crc32Bit (c : Nat) : Nat := if c % 2 = 1 then Nat.xor (c / 2) 0xEDB88320 else c / 2
def crc32Byte (c b : Nat) : Nat := (List.range 8).foldl (fun c _ => crc32Bit c) (Nat.xor c b)
def crc32 (bs : List Nat) : Nat := Nat.xor (bs.foldl crc32Byte 0xFFFFFFFF) 0xFFFFFFFF

/-- The word of a boot-pointer copy, when its CRC matches. -/
def State.bootCopy (s : State) (i : Nat) : Option Nat :=
  let bs := s.norBytes (64 * i) 64
  if crc32 (natsOf (bs.take 60)) = leAt bs 60 4 then some (leAt bs 0 8) else none

/-- The ruling boot pointer: the valid copy with the higher sequence. -/
def State.bootPtr (s : State) : Option Nat :=
  match s.bootCopy 0, s.bootCopy 1 with
  | some a, some b => if a % 2 ^ 32 < b % 2 ^ 32 then some b else some a
  | some a, none => some a
  | none, b => b

/-- The slot the boot pointer names (slot A with no valid copy), and its trial bit. -/
def State.bootSlot (s : State) : Nat := match s.bootPtr with | some w => bitsOf w 32 1 | none => 0
def State.bootTrial (s : State) : Nat := match s.bootPtr with | some w => bitsOf w 33 1 | none => 0

/-- Writes the boot pointer, over the copy that does not rule. -/
def State.writeBoot (s : State) (slot trial : Nat) : State :=
  let q := match s.bootPtr with | some w => (w % 2 ^ 32 + 1) % 2 ^ 32 | none => 1
  let i := match s.bootCopy 0 with
    | some a => if s.bootPtr = some a then 1 else 0
    | none => 0
  let bs := leBytes 8 (q + slot * 2 ^ 32 + trial * 2 ^ 33) ++ zeroBytes 52
  s.norWrite (64 * i) (bs ++ leBytes 4 (crc32 (natsOf bs)))

/-! ## Boot (R453, R461, R462) -/

/-- The reason an image is rejected for, as BOOT_IMAGE_REJECTED codes it; 0 when it is accepted. `low` and `high` bound
its security version. -/
def judgeCode (low high : Nat) : ImageJudge → Nat
  | .ok svn => if low ≤ svn ∧ svn ≤ high then 0 else 3
  | .hash => 1
  | .signature => 2
  | .svn => 3
  | .header => 4

def judgeSvn : ImageJudge → Nat
  | .ok svn => svn
  | _ => 0

/-- Fuse words at a start: a copy 1 left blank is programmed, an invalid copy is reported (R453). -/
def State.readFuses (s : State) : State :=
  (List.range fuEnd).foldl (fun s i =>
    let w := s.fuse i
    let bad := fun (s : State) (c v : Nat) =>
      if copyBlank v || copyValid v then s else s.thmReport 0x35 1 (i + 2 ^ 16 * c)
    let s := bad (bad s 0 w.c0) 1 w.c1
    if copyValid w.c0 && copyBlank w.c1 then
      s.setThm { s.thm with fuses := Store.put fuseDefault s.thm.fuses i { w with c1 := w.c0 } }
    else s) s

/-- Is the Thimble held in reset (a cold reset holds it, R377)? -/
def State.thmHeld (s : State) : Bool := s.power.inReset == some 1 || s.power.porActive || s.power.trip

/-- BOOT_IMAGE_REJECTED. -/
def State.rejected (s : State) (slot kind code : Nat) : State := s.thmReport 0x30 3 (slot + kind * 16 + code * 256)

/-- The bundle that runs: as THM_LC shows it, or as it came through a reset (R10, R377). -/
def State.bundle (s : State) : Bundle :=
  s.thm.bundle.getD { slot := s.rd .thmLc_slot, trial := s.rd .thmLc_trial, svn := s.rd .thmLc_svn }

/-- THM_LC shows the bundle that runs. -/
def State.showBundle (s : State) (b : Bundle) : State :=
  (((s.setThm { s.thm with bundle := none }).wr .thmLc_slot 0 b.slot).wr .thmLc_trial 0 b.trial).wr .thmLc_svn 0 b.svn

/-- Stage 1 unseals the mesh key and the table keys, once trng is set too (R462, step 6). -/
def State.unseal (s : State) : State :=
  -- a table key that a destruction could not make yet (R459 step 4)
  let s := if s.vault.sealedCur || s.lifeState == lcRetired then s else s.newTableKey
  let s := match s.thm.sealed with
    | some (k, n, e) =>
      if e = s.sealEpoch ∧ s.lifeServes then s.setMesh { s.mesh with key := some (k, n) } else s
    | none => s
  s.placeKeys

/-- Stage 1 of a slot runs: thimble_boot_ok sets; a cold start reads fuses and the retirement log. -/
def State.stage1Runs (s : State) (slot svn : Nat) : State :=
  let s := s.setReady readyBoot true
  let s := s.showBundle { slot, trial := if slot = s.bootSlot then s.bootTrial else 0, svn }
  let s := s.readFuses.measure 1
  let s := if s.isReady readyTrng then s.unseal else s
  if s.power.bootDone then s
  else
    let s := { s with power := { s.power with bootDone := true } }
    let s := s.readLog.showRetired
    -- the layout in force until the lock is placed over the banks that the log leaves (R325, R326)
    (if s.locked then s else s.setBolt { s.bolt with lay := s.layoutBefore }).showLayout

/-- STAGE1_VERIFIED (R462, steps 2 to 4): the active slot's stage 1, on rejection the other slot's; when both fail the
Thimble stops. -/
def actStage1Verified (active other : ImageJudge) (s : State) : Host.Outcome State Fault Refusal :=
  if s.thmHeld || s.thm.stopped || s.isReady readyBoot then .next s
  else
    let a := s.bootSlot
    let c := judgeCode s.rollback 128 active
    if c = 0 then .next (s.stage1Runs a (judgeSvn active))
    else
      let s := s.rejected a 1 c
      let d := judgeCode s.rollback 128 other
      if d = 0 then .next (s.stage1Runs (1 - a) (judgeSvn other))
      else .next ((s.rejected (1 - a) 1 d).setThm { (s.rejected (1 - a) 1 d).thm with stopped := true })

/-- A Needle is brought into service by the steps of R320: engine reset, its image copied in, remap = 1, in_service = 1.
Where the image goes on in the instruction store is not given. -/
def State.intoService (s : State) (n : Nat) : State :=
  let s := s.ndlEngineReset n
  let r := s.fresh 17
  let s := r.2.setNd n { r.2.nd n with pc := 2 * r.1, remap := true }
  (((s.wr .ndlCtrl_hold n 0).wr .ndlCtrl_remap n 1).wr .ndlCtrl_inService n 1).noteCluster n

/-- May the Needle be brought into service: on this part, clocked, not gated, not retired? -/
def State.needleThere (s : State) (n : Nat) : Bool :=
  decide (n < s.part.needleCount) && !s.isRetired n && !s.gateOff n && s.flag .clkIsland_running n

/-- Every Needle that is there enters service. -/
def State.needlesUp (s : State) : State :=
  s.each 64 (fun n s => if s.needleThere n then s.intoService n else s)

/-- The RESET records owed (R379), written before any other record. -/
def State.nameResets (s : State) : State :=
  let ks := s.power.kinds
  let s := { s with power := { s.power with kinds := [] } }
  ks.foldl (fun s k => s.errEmit
    { origin := 0x0607, cls := 0x14, severity := 1, reporters := 1, slot := none, t0 := s.time, detail := k, spanUs := 0,
      seq := 0 }) s

/-- Reports that waited for the Fitter (R429 step 4). -/
def State.flushHeld (s : State) : State :=
  let l := s.err.held
  let s := s.setErr { s.err with held := [], heldDrop := 0 }
  l.foldl State.coalesce s

/-- The Fitter runs its verified image: FITTER, its engine, liveness. -/
def State.fitterRuns (s : State) : State :=
  let s := (s.islandUp 82).setNd 64 needleReset
  let s := s.setFit { s.fit with downCause := 0, restarting := false, lockup := false, stopped := false }
  (s.wr .fitStatus_alive 0 1).setReady readyFitter true

/-- The first start of the Fitter after a reset. -/
def State.fitterUp (s : State) : State := s.fitterRuns.nameResets.flushHeld

/-- An image type of the running bundle is verified. -/
def State.judgedOk (s : State) (kind : Nat) : State := s.setThm { s.thm with judged := s.thm.judged ++ [kind] }

/-- IMAGE_VERIFIED (R462, step 5): 2 Warden, 3 Fitter, 4 Needle service, each with the svn of the running stage 1. A
Fitter that restarts runs on at FITTER_ALIVE, once its image is verified again; one rejected does not restart (R24, R429). -/
def actImageVerified (kind : Nat) (j : ImageJudge) (s : State) : Host.Outcome State Fault Refusal :=
  if s.thmHeld || !s.isReady readyBoot || !s.isReady readyHub || kind < 2 || kind > 4 || s.thm.judged.contains kind then
    .next s
  else
    let b := s.bundle
    let c := judgeCode b.svn b.svn j
    if c ≠ 0 then
      let t := s.rejected b.slot kind c
      .next (if kind = 3 then t.setFit { t.fit with restarting := false } else t)
    else
      let s := ((s.showBundle b).judgedOk kind).measure kind
      let s := if kind = 3 && !s.fit.restarting then s.fitterUp else s
      if [2, 3, 4].all (fun k => s.thm.judged.contains k) && s.fitterAlive then .next s.needlesUp else .next s

/-- FITTER_ALIVE (R429, step 4): the restarted Fitter classifies latched units, names its restart, and hands on the
reports that waited. -/
def actFitterAlive (s : State) : Host.Outcome State Fault Refusal :=
  if s.fitterAlive || !s.fit.restarting || !s.isReady readyBoot || !s.imagesOk 64 || !s.clocked then .next s
  else
    let cause := s.fit.downCause
    let dropped := s.err.heldDrop
    let l := s.err.held
    let s := s.setErr { s.err with held := [], heldDrop := 0 }
    let s := State.classifyLatched 256 s.fitterRuns.nameResets
    let s := s.report 0x0040 0x15 4 (cause + min dropped 65535 * 65536) repFitter
    .next (l.foldl State.coalesce s)

/-! ## Entropy (R467) -/

/-- TRNG_STARTUP_DONE: trng sets and the DRBG is seeded; a stage 1 that runs unseals the keys (R462 step 6). -/
def actTrngStartupDone (s : State) : Host.Outcome State Fault Refusal :=
  if s.thmHeld || !s.power.rootLock || s.power.hold || s.thm.trngDead || s.isReady readyTrng then .next s
  else
    let s := (s.setThm { s.thm with drbg := true }).setReady readyTrng true
    .next (if s.isReady readyBoot then s.unseal else s)

/-- TRNG_HEALTH_FAIL: trng clears and the DRBG is uninstantiated; the third failure within 60 s lasts until a cold
reset. -/
def actTrngHealthFail (adaptive : Bool) (s : State) : Host.Outcome State Fault Refusal :=
  if s.thmHeld || !s.power.rootLock || s.thm.trngDead then .next s
  else
    let s := s.countSat (if adaptive then .thmTrng_aptFail else .thmTrng_rctFail)
    let l := s.thm.trngFails.filter (fun t => decide (s.time < t + 60000000000)) ++ [s.time]
    let s := s.setThm { s.thm with drbg := false, trngFails := l, trngDead := decide (3 ≤ l.length) }
    .next ((s.setReady readyTrng false).thmReport 0x33 3 (b2n adaptive + min l.length 255 * 256))

/-- DRBG_RESEED. -/
def actDrbgReseed (s : State) : Host.Outcome State Fault Refusal :=
  if s.thm.drbg then .next (s.count .thmTrng_reseeds) else .next s

/-! ## Tamper and watchdog (R468, R469) -/

/-- Is a tamper sensor enabled? Sensors are numbered by their bit in THM_TAMPER_CFG. -/
def State.sensorOn (s : State) (k : Nat) : Bool :=
  if k < 4 then bitOf (s.rd .thmTamperCfg_inEn) k
  else match k with
    | 8 => s.flag .thmTamperCfg_meshEn
    | 9 => s.flag .thmTamperCfg_voltEn
    | 10 => s.flag .thmTamperCfg_tempEn
    | 11 => s.flag .thmTamperCfg_clkEn
    | _ => false

/-- TAMPER_TRIP: key destruction, the next tamper record, THM_TAMPER_STAT, a TAMPER record. -/
def actTamperTrip (sensor celsius : Nat) (s : State) : Host.Outcome State Fault Refusal :=
  if s.power.porActive || !s.sensorOn sensor then .next s
  else
    let s := s.keyDestruction
    let word := 2 ^ sensor + s.thm.coldCount % 65536 * 2 ^ 16 + celsius % 65536 * 2 ^ 32
    let slot := s.nextFuse fuTamper 16
    let s := match slot with | some i => s.programFuse i word | none => s
    let at_ := match slot with | some i => i - fuTamper | none => 15
    let s := (s.wr .thmTamperStat_last 0 (2 ^ sensor)).countSat .thmTamperStat_count
    .next ((s.thmReport 0x32 4 (2 ^ sensor + at_ * 2 ^ 16)).measure 5)

/-- The Thimble's program store starts again with the Thimble (R382). -/
def State.resampleProg (s : State) : State :=
  s.setThm { s.thm with progBase := if s.locked then some (s.rd .thmProg_base) else none }

/-- THIMBLE_WATCHDOG_EXPIRY: the vault is wiped and the Thimble starts again from its mask ROM; no key is destroyed. -/
def actThimbleWatchdogExpiry (s : State) : Host.Outcome State Fault Refusal :=
  if s.thmHeld then .next s
  else
    let s := s.vaultWipe.resampleProg
    let s := (s.setReady readyBoot false).setReady readyTrng false
    let s := s.setThm { s.thm with drbg := false, stopped := false, sessions := [], rolling := none }
    .next (s.thmReport 0x36 4 0)

/-- DEBUG_UNLOCK (R470): in PROVISIONED a right signature opens debug and wipes the vault. -/
def actDebugUnlock (ok : Bool) (s : State) : Host.Outcome State Fault Refusal :=
  if s.thmHeld || !s.isReady readyBoot || s.lifeState != lcProvisioned || !ok || s.flag .thmLc_debugOpen then .next s
  else .next (s.vaultWipe.wr .thmLc_debugOpen 0 1)

/-! ## Life cycle (R455, R456, R459) -/

/-- A LIFE_CYCLE record. -/
def State.lcReport (s : State) (refused : Bool) : State := s.thmReport 0x34 1 (s.lifeState + 4 * b2n refused)

/-- A transition to `code`: the keys are destroyed, `also` is written, then the life-cycle word; with no word left it is
refused. -/
def State.lcTransition (s : State) (code data : Nat) (also : State → State) : State :=
  match s.nextFuse fuLife 6 with
  | none => s.lcReport true
  | some _ =>
    let s := (s.vaultWipe).clearSaks
    let s := if s.thm.drbg then s.count .thmTrng_reseeds else s
    let s := also s.nextSealEpoch.eraseSealed
    let s := match s.nextFuse fuLife 6 with | some i => s.programFuse i (code + data) | none => s
    let s := if s.lifeState = lcRetired then s.endService else s.newTableKey
    (s.lcReport false).measure 5

/-- The owner hash written in THM_OWNER_HASH. -/
def State.ownerAsked (s : State) : List Byte := ((List.range 8).map (fun i => leBytes 8 (s.rd .thmOwnerHash_hash i))).flatten

/-- An owner-hash slot none of whose words is used. -/
def State.ownerFree (s : State) : Option Nat := [0, 1].find? (fun k => s.fusesUsed (fuOwner k) 11 == 0)

/-- PROVISIONED to DEPLOYED, before the lock and with a nonzero owner hash. -/
def State.deploy (s : State) : State :=
  if s.lifeState ≠ lcProvisioned ∨ s.ownerAsked.all (fun b => b == 0) ∨ s.thmHeld ∨ !s.isReady readyBoot then s
  else
    match s.ownerFree with
    | none => s.lcReport true
    | some k => s.lcTransition lcDeployed (256 * k) (fun s => s.programItem (fuOwner k) 11 s.ownerAsked)

/-- JTAG_PROVISION_REQUEST: BLANK to PROVISIONED with an identity seed from the DRBG. -/
def actJtagProvisionRequest (s : State) : Host.Outcome State Fault Refusal :=
  if s.thmHeld || s.lifeState != lcBlank || !s.thm.drbg then .next s
  else
    let r := s.freshBytes 32
    .next (r.2.lcTransition lcProvisioned 0 (fun s => s.programItem fuSeed 6 r.1))

/-! ## SPDM and vendor requests (R463, R466) -/

/-- The Thimble's answer. -/
def State.answer (s : State) (a : SpdmAns) : State := s.setThm { s.thm with answers := s.thm.answers ++ [a] }

/-- May a session send vendor requests? -/
def State.vendorOk (s : State) (v : VendorAuth) : Bool := v.secured && (s.lifeState != lcDeployed || v.owner)

/-- A signature by the device identity key: its nonce is drawn from the DRBG, so its bytes are free. -/
def State.signed (s : State) : List Byte × State := s.freshBytes 132

/-- The digest of a measurement. -/
def State.digestOf (s : State) (i : Nat) : List Byte :=
  match s.thm.meas.find? (fun m => m.1 == i) with | some m => m.2 | none => zeroBytes 64

/-- Where a certificate chain of a slot stands. -/
def certBase (slot : Nat) : Nat := 0x10000 + 0x2000 * slot

/-- SPDM_REQUEST (R466). -/
def actSpdmRequest (r : SpdmReq) (s : State) : Host.Outcome State Fault Refusal :=
  if s.thmHeld || !s.isReady readyBoot then .next s
  else
    match r with
    | .getMeasurement i =>
      if 1 ≤ i ∧ i ≤ 8 then
        let g := s.signed
        .next (g.2.answer (.measurement i (s.digestOf i) g.1))
      else .next (s.answer .error)
    | .getCertificate k =>
      if k < 8 then .next (s.answer (.certificate k (s.norBytes (certBase k) 0x2000))) else .next (s.answer .error)
    | .setCertificate k chain v =>
      if !s.vendorOk v then .next (s.answer .unsupported)
      else if 1 ≤ k ∧ k < 8 ∧ chain.length ≤ 0x2000 then .next ((s.norWrite (certBase k) chain).answer .ok)
      else .next (s.answer .error)
    | .challenge _ => .next (s.signed.2.answer (.signed s.signed.1))
    | .getCsr => .next (s.signed.2.answer (.signed s.signed.1))
    | .keyExchange t =>
      let mine := s.thm.sessions.filter (fun e => e.1 == t)
      match (List.range 4).find? (fun n => !mine.contains (t, n)) with
      | some n => .next ((s.setThm { s.thm with sessions := s.thm.sessions ++ [(t, n)] }).answer (.session t n))
      | none => .next (s.answer .error)
    | .endSession t =>
      match s.thm.sessions.find? (fun e => e.1 == t) with
      | some e => .next ((s.setThm { s.thm with sessions := s.thm.sessions.erase e }).answer .ok)
      | none => .next (s.answer .error)
    | .ideKey k key v =>
      if v.secured && decide (k < 8) && key.length == 32 then
        .next ((s.setThm { s.thm with ide := (s.thm.ide.filter (fun e => e.1 != k)) ++ [(k, key)] }).answer .ok)
      else .next (s.answer .unsupported)
    | .other => .next (s.answer .ok)

/-- A vendor request is answered UnsupportedRequest outside its rules, and not at all while the Thimble does not run. -/
def State.vendor (s : State) (v : VendorAuth) (act : State → State) : State :=
  if s.thmHeld || !s.isReady readyBoot then s
  else if s.vendorOk v then act s else s.answer .unsupported

/-- First byte of a firmware bundle slot. -/
def bundleBase (slot : Nat) : Nat := 0x200000 + 0x800000 * slot

/-- FW_WRITE: a piece of up to 4,096 B goes into the inactive slot. -/
def actFwWrite (v : VendorAuth) (off : Nat) (data : List Byte) (s : State) : Host.Outcome State Fault Refusal :=
  .next (s.vendor v (fun s =>
    if data.length ≤ 4096 ∧ off + data.length ≤ 0x800000 then
      (s.norWrite (bundleBase (1 - s.bundle.slot) + off) data).answer .ok
    else s.answer .error))

/-- Steps 5 and 6 of R463: the Fitter's engine is restarted on the new image without leaving service, the boot pointer names
the slot on trial. -/
def State.rolled (s : State) (r : Rolling) : State :=
  -- the highest-numbered ready Needle carries the Fitter meanwhile, and returns to service
  let carrier := ((List.range 64).reverse.find? (fun n =>
    s.needleThere n && s.flag .ndlCtrl_inService n && (s.nd n).inv.isNone))
  let s := match carrier with | some n => if s.fitterAlive then s.intoService n else s | none => s
  let s := if s.fitterAlive then s.setNd 64 needleReset else s
  let old := s.bundle.svn
  let s := (s.writeBoot r.slot 1).showBundle { slot := r.slot, trial := 1, svn := r.svn }
  let s := ((s.setThm { s.thm with oldSvn := old, rolling := none }).measure 2).measure 3
  ((s.measure 4).thmReport 0x31 0 (r.code + r.svn * 256)).answer .ok

/-- Step 4 of R463 for one cluster: its Needles that run no invocation are brought into service on the new image; the others
leave service until theirs has ended. Shown are those. -/
def State.rollCluster (s : State) (ns : List Nat) : State × List Nat :=
  let busy := ns.filter (fun n => s.needleThere n && (s.nd n).inv.isSome)
  let s := ns.foldl (fun s n =>
    if !s.needleThere n then s
    else if (s.nd n).inv.isNone then s.intoService n
    else (s.wr .ndlCtrl_inService n 0).noteCluster n) s
  (s, busy)

/-- An update goes on, one cluster at a time, and ends when every Needle has changed (R463). -/
def State.rollOn : Nat → State → State
  | 0, s => s
  | fuel + 1, s =>
    match s.thm.rolling with
    | none => s
    | some r =>
      match r.left with
      | [] => s.rolled r
      | n :: _ =>
        let c := s.rollCluster (r.left.filter (fun m => m / 8 == n / 8))
        let left := c.2 ++ r.left.filter (fun m => m / 8 != n / 8)
        let s := c.1.setThm { c.1.thm with rolling := some { r with left } }
        if c.2.isEmpty then State.rollOn fuel s else s

/-- Steps 4 to 6 of R463 with a slot begin with the Needles in service; only one update runs at a time. -/
def State.rollTo (s : State) (slot svn code : Nat) : State :=
  if s.thm.rolling.isSome then s.answer .error
  else
    let left := (List.range 64).filter (fun n => s.needleThere n && s.flag .ndlCtrl_inService n)
    State.rollOn 9 (s.setThm { s.thm with rolling := some { slot, svn, code, left } })

/-- FW_ACTIVATE: all four images of the inactive slot are verified, or nothing changes. -/
def actFwActivate (v : VendorAuth) (j : ImageJudge) (s : State) : Host.Outcome State Fault Refusal :=
  .next (s.vendor v (fun s =>
    if judgeCode s.rollback 128 j = 0 then s.rollTo (1 - s.bundle.slot) (judgeSvn j) 2 else s.answer .error))

/-- FW_COMMIT: the rollback counter is advanced to the running svn and trial clears. -/
def actFwCommit (v : VendorAuth) (s : State) : Host.Outcome State Fault Refusal :=
  .next (s.vendor v (fun s =>
    if s.bundle.trial != 1 || s.thm.rolling.isSome then s.answer .error
    else
      let svn := s.bundle.svn
      let s := s.each (svn - s.rollback) (fun _ s =>
        match s.nextFuse fuRoll 128 with | some i => s.programFuse i 1 | none => s)
      let s := (s.writeBoot s.bundle.slot 0).showBundle { s.bundle with trial := 0 }
      ((s.thmReport 0x31 0 (3 + svn * 256)).measure 5).answer .ok))

/-- FW_REVERT: before the commit, steps 4 to 6 again with the other slot. -/
def actFwRevert (v : VendorAuth) (s : State) : Host.Outcome State Fault Refusal :=
  .next (s.vendor v (fun s =>
    if s.bundle.trial = 1 then s.rollTo (1 - s.bundle.slot) s.thm.oldSvn 4 else s.answer .error))

/-- MESH_KEY_INSTALL: the key is sealed under the current epoch and held; a port takes it at its next start (R416). -/
def actMeshKeyInstall (v : VendorAuth) (key : List Byte) (number : Nat) (s : State) : Host.Outcome State Fault Refusal :=
  .next (s.vendor v (fun s =>
    if key.length = 32 ∧ s.lifeState ≠ lcRetired then
      let s := ((s.setThm { s.thm with sealed := some (key, number, s.sealEpoch) }).setMesh
        { s.mesh with key := some (key, number) }).sealRecord 2 number key
      (s.thmReport 0x37 0 number).answer .ok
    else s.answer .error))

/-- LC_RETIRE: DEPLOYED to RETIRED, in an owner-authenticated session. -/
def actLcRetire (v : VendorAuth) (s : State) : Host.Outcome State Fault Refusal :=
  .next (s.vendor v (fun s =>
    if s.lifeState = lcDeployed ∧ v.owner then (s.lcTransition lcRetired 0 (fun s => s)).answer .ok
    else s.answer .unsupported))

end Sys2Proof.Machine
end

