-- ==== Sys2Proof/Machine/Access.lean ====
section
/-! DEFINITION. The commands that read and write registers (R10, R35, R318, R321, R357, R456). -/

namespace Sys2Proof.Machine

open Sys2Proof

/-- What one register write asked of other chapters. -/
def State.ask (s : State) : RegAsk → Host.Outcome State Fault Refusal
  | .lock => actSetupLockRequest s
  | .vfLock fn => actRingVfLockRequest fn s
  | .deploy => .next s.deploy

/-- Everything a register write asked, in order. -/
def State.doAsks (s : State) : List RegAsk → Host.Outcome State Fault Refusal
  | [] => .next s
  | r :: rs =>
    match s.ask r with
    | .next t => t.doAsks rs
    | o => o

/-- A register write with all it asks (R10). -/
def State.access (s : State) (a : RegAccess) : Host.Outcome State Fault Refusal :=
  let r := s.regWrite a
  r.1.doAsks r.2

/-- Does the write reach a register window: an existing function, the debug master only while its access is open (R27,
R349, R470), internal masters at PF0's registers only? -/
def State.reaches (s : State) (a : RegAccess) : Bool :=
  decide (a.fn < 256) && (a.writer == .bar0 || a.fn == 0) && (a.writer != .debug || s.debugOpen)

/-- REGISTER_WRITE (R10, R35, R357). -/
def actRegisterWrite (a : RegAccess) (s : State) : Host.Outcome State Fault Refusal :=
  if s.reaches a then s.access a else .next s

/-- BAR0_BAD_ACCESS (R35): an access of another size or alignment. -/
def actBar0BadAccess (a : RegAccess) (write : Bool) (s : State) : Host.Outcome State Fault Refusal :=
  if accessOk a.offset a.size || !s.reaches a then .next s else .next (s.badAccess write)

/-- GATED_BLOCK_ACCESS (R357): counted once; a read from BAR0 is answered with zeros, a write is dropped. -/
def actGatedBlockAccess (a : RegAccess) (write : Bool) (s : State) : Host.Outcome State Fault Refusal :=
  if accessOk a.offset a.size && s.reaches a && a.fn == 0 && s.gatedAt a.offset then
    let s := s.touchGated
    .next (if !write && a.writer == .bar0 then s.emit (.regData 0) else s)
  else .next s

/-- LC_REQ_DEPLOY (R456): a 32-bit BAR0 write of THM_LC_REQ. -/
def actLcReqDeploy (v : W32) (s : State) : Host.Outcome State Fault Refusal :=
  s.access { fn := 0, writer := .bar0, offset := 0xC40008, size := 4, value := v.toNat }

/-- NDL_ENGINE_RESET (R318): a write of 1 to NDL_CTRL.engine_reset; a gated block drops it. Every session is
stale (R147, kind 0x06). -/
def actNdlEngineReset (n : Nat) (s : State) : Host.Outcome State Fault Refusal :=
  if n ≥ 64 then .next s
  else if s.gateOff n then .next s.touchGated
  else .next (((s.dropSessions 6).ndlEngineReset n).noteCluster n)

/-- NDL_MODE_WRITE (R320, R321): the bits of NDL_CTRL are written; the engine applies them at its next boundary. -/
def actNdlModeWrite (n : Nat) (remap debug : Bool) (s : State) : Host.Outcome State Fault Refusal :=
  if n ≥ 64 then .next s
  else if s.gateOff n then .next s.touchGated
  else
    let t := (s.wr .ndlCtrl_remap n (b2n remap)).wr .ndlCtrl_debug n (b2n debug)
    if s.ctlRemap n = remap ∧ s.ctlDebug n = debug then .next t
    else .next (t.setNd n { t.nd n with modeReq := true })

end Sys2Proof.Machine
end

