-- ==== Sys2Proof/Machine/CfgSpace.lean ====
section
/-! DEFINITION. What a function's configuration space reads (chapter 02: R4, R27, R28, R32, R33), and what the link is
negotiated to. -/

namespace Sys2Proof.Machine

open Sys2Proof

/-! ## Configuration space -/

/-- The subsystem vendor ID and subsystem ID of the board record in SPI NOR (R27, R460); zeros when it is not valid. The spec
gives neither the record's layout nor what makes it valid: both are Config's. -/
def State.boardIds (s : State) : Nat × Nat :=
  match Config.boardRecord (natsOf (s.norBytes 0x1000 4096)) with
  | some (v, d) => (v % 2 ^ 16, d % 2 ^ 16)
  | none => (0, 0)

/-- What a function's configuration space reads, beside the controls that its `ctl` holds. -/
structure ConfigSpace where
  vendorId     : Nat
  deviceId     : Nat
  revisionId   : Nat
  classCode    : Nat
  headerType   : Nat
  subsysVendor : Nat
  subsysId     : Nat
  serial       : Nat
  interruptPin : Nat
  /-- BAR0 and BAR1 as one 64-bit register, and its window's bytes; BAR2 to BAR5 (PF0) or VF BAR2 to BAR5 -/
  bar0         : Nat
  bar0Size     : Nat
  barRest      : Nat
  /-- the least System Page Size (R33) -/
  pageMin      : Nat
  totalVfs     : Nat
  initialVfs   : Nat
  firstVf      : Nat
  vfStride     : Nat
  msixVectors  : Nat
  maxPayload   : Nat
  maxReadReq   : Nat
  tags         : Nat
  noSoftReset  : Bool
  d3hot        : Bool
  ecrcCapable  : Bool
  ecrc         : Bool × Bool
  /-- AER: a Completion Timeout, an Unsupported Request, a Completer Abort met by a read of the device, and a Completer Abort
  the device answered (R31, R35) -/
  aer          : Bool × Bool × Bool × Bool
  /-- speeds in 0.1 GT/s and widths the link trains to -/
  speeds       : List Nat
  widths       : List Nat
  /-- AtomicOp completer, and requester sizes in bits of CAS, of FetchAdd and Swap -/
  atomicComp   : Bool
  casBits      : List Nat
  fetchAddBits : List Nat
  /-- Completion Timeout ranges A to D, and Completion Timeout Disable -/
  ctoRanges    : List Char
  ctoDisable   : Bool
  flr          : Bool
  ari          : Bool
  aspmL1       : Bool
  /-- L1 PM substates, in tenths -/
  l1Sub        : List Nat
  laneMargin   : Bool
  /-- DOE mailboxes and selective IDE streams, of PF0 -/
  doeBoxes     : Nat
  ideStreams   : Nat
  deriving DecidableEq, Repr

/-- The link speeds in 0.1 GT/s, and the widths. -/
def linkSpeeds : List Nat := [25, 50, 80, 160, 320, 640]
def linkWidths : List Nat := [1, 2, 4, 8, 16]

/-- A 64-bit non-prefetchable memory BAR of 2^`k` bytes at an address: the bits below its size give its type. -/
def barReg (k addr : Nat) : Nat := addr % 2 ^ 64 / 2 ^ k * 2 ^ k + 4

/-- Where a function's BAR0 stands: PF0's by its BAR; VF n's by the VF BAR0 of the SR-IOV capability, VFs one window, or one
system page where that is more, apart (R33). -/
def State.barAddr (s : State) (fn : Nat) : Nat :=
  let c := (s.fnCfg 0).ctl
  if fn = 0 then c.bar0 else c.vfBar0 + (fn - 1) * max 65536 c.pageSize

/-- Configuration space of function `fn` (R27, R28, R32, R33). Revision ID is GLOBAL_ID.stepping. -/
def State.configSpace (s : State) (fn : Nat) : ConfigSpace :=
  let ids := s.boardIds
  let c := (s.fnCfg 0).ctl
  let met := fun (o : Out) => s.pcie.out.contains o
  { vendorId := 0x1F3D
    deviceId := if fn = 0 then 0x6400 else 0x6401
    revisionId := s.rd .globalId_stepping
    classCode := 0x108000
    headerType := 0x80
    subsysVendor := ids.1
    subsysId := ids.2
    serial := s.thm.serial
    interruptPin := 0
    bar0 := barReg (if fn = 0 then 24 else 16) (s.barAddr fn)
    bar0Size := if fn = 0 then 2 ^ 24 else 2 ^ 16
    barRest := 0
    pageMin := 4096
    totalVfs := 255
    initialVfs := 255
    firstVf := 1
    vfStride := 1
    msixVectors := vectorsOf fn
    maxPayload := 512
    maxReadReq := 4096
    tags := if c.tag10 then 768 else 256
    noSoftReset := false
    d3hot := fn == 0 && c.d3hot
    ecrcCapable := true
    ecrc := (c.ecrcGen, c.ecrcCheck)
    aer := (met (.aerRead .timeout), met (.aerRead .unsupportedRequest), met (.aerRead .completerAbort),
            met .aerCompleterAbort)
    speeds := linkSpeeds
    widths := linkWidths
    atomicComp := false
    casBits := [32, 64, 128]
    fetchAddBits := [32, 64]
    ctoRanges := ['A', 'B', 'C', 'D']
    ctoDisable := true
    flr := true
    ari := true
    aspmL1 := true
    l1Sub := [11, 12]
    laneMargin := true
    doeBoxes := if fn = 0 then 1 else 0
    ideStreams := if fn = 0 then 8 else 0 }

/-! ## The link (R28, R383) -/

/-- The link trains to a speed and width of R28, as negotiated with its partner; FLIT mode always at 64 GT/s, at lower speeds
as the partner advertises it. What is negotiated the partner decides: free. -/
def State.negotiate (s : State) : State :=
  let r := s.fresh 16
  let speed := linkSpeeds.getD (r.1 % 8 % 6) 25
  let width := linkWidths.getD (r.1 / 8 % 8 % 5) 1
  { r.2 with pcie := { r.2.pcie with linkUp := true, speed, width, flit := speed == 640 || bitOf r.1 6 } }

end Sys2Proof.Machine
end

