-- ==== Sys2Proof/Machine/Hub.lean ====
section
/-! DEFINITION. The Hub: permissions, address decode, targets, responses (R347-R355, R394). -/

namespace Sys2Proof.Machine

open Sys2Proof

def State.setHub (s : State) (h : Hub) : State := { s with hub := h }

/-! ## Requests and permissions (R348, R349) -/

/-- Is it a transaction of R348: a power of two of at most 128 bytes, naturally aligned, a 48-bit address? -/
def hubWellFormed (r : HubReq) : Bool :=
  decide (r.master < 16 ∧ r.priv ≤ 2 ∧ r.id < 256 ∧ r.addr < 2 ^ 48) && ([1, 2, 4, 8, 16, 32, 64, 128].contains r.size)
    && r.addr % r.size == 0 && (match r.data with | some d => d.length == r.size | none => true)

/-- The table of R349: may a master reach a target? -/
def State.hubPermits (s : State) (m priv t : Nat) : Bool :=
  if m = 14 then s.debugOpen
  else if t ≤ 11 then true
  else if m = 12 ∨ m = 13 then true
  else if t = 12 then false
  else if t = 13 then m == 9 || (decide (m ≤ 7) && priv == 2)
  else if t = 14 then decide (m ≤ 7) && priv == 2
  else m == 10 || m == 15 || (decide (m ≤ 7) && decide (1 ≤ priv))

/-! ## Address decode (R350, R351) -/

/-- Where an address decodes to: a bank group with its bank, DDR5 direct at the control bridge, a bridge, or nothing. -/
inductive HubPlace where
  | bolt (bank : Option Nat) (o : Nat)
  | ddr (bank : Nat) (o : Nat)
  | ddrDirect (o : Nat)
  | bridge (t : Nat) (o : Nat)
  | none
  deriving DecidableEq, Repr

def State.hubDecode (s : State) (a : Nat) : HubPlace :=
  if 0x100000000 ≤ a ∧ a < 0x118000000 then
    .bolt ((s.bolt.lay.place (a - boltBase)).map (fun p => s.realBank p.bank)) (a - boltBase)
  else if 0x200000000 ≤ a ∧ a < 0x8200000000 then
    let o := a - ddrBase
    if s.ddrUsable ≤ o then .none
    else if s.cacheSets = 0 then .ddrDirect o
    else .ddr (s.cacheBankOf (o / 128)) o
  else if 0xF000000000 ≤ a ∧ a < 0xF00000A000 then .bridge 14 (a - 0xF000000000)
  else if 0xFD00000000 ≤ a ∧ a < 0xFD00080000 then .bridge 12 (a - 0xFD00000000)
  else if 0xFE00000000 ≤ a ∧ a < 0xFE00010000 then .bridge 15 (a - 0xFE00000000)
  else if 0xFF00000000 ≤ a ∧ a < 0xFF00F00000 then .bridge 13 (a - 0xFF00000000)
  else .none

/-- The target port of a place (R347). -/
def HubPlace.target : HubPlace → Nat
  | .bolt (some b) _ => b / 4
  | .bolt .none o => o / (4 * bankBytes)
  | .ddr b _ => b / 4
  | .ddrDirect _ => 12
  | .bridge t _ => t
  | .none => 16

/-- Which target's permission governs: a direct DDR5 access goes by that of the Bolt groups (R351). -/
def HubPlace.gate : HubPlace → Nat
  | .ddrDirect _ => 0
  | p => p.target

/-- Which masters reach a peripheral device at an offset of its window (R355); the Fitter the SPI NOR controller only for the
retirement-log partition. -/
def State.periPermits (m dev o : Nat) : Bool :=
  let needle := decide (m ≤ 7)
  match dev with
  | 0 | 1 => m == 12 || m == 13 || m == 14
  | 2 => m == 13 || (m == 12 && Config.spiLog o)
  | 3 | 4 => m == 12 || needle || m == 14
  | 5 => m == 12 || needle
  | 6 | 7 => m == 13
  | 8 => m == 12 || m == 13
  | _ => m == 12 || m == 13 || m == 14

/-- May a master touch a DDR5 range, by the protected regions (R394)? -/
def State.hubDdrOk (s : State) (r : HubReq) (o : Nat) : Bool :=
  !s.ddrProtected o r.size || r.master == 12 || r.master == 13 || r.master == 15 || r.master == 14
    || (decide (r.master ≤ 7) && r.priv == 2)

/-! ## Performing a request -/

/-- A read answered with data, or a write done; `reporter` reports an uncorrectable word it meets. What the bank says of another
port's write passes through (R330, R331, R354). -/
def State.hubBolt (s : State) (r : HubReq) (reporter o : Nat) : Resp × List Byte × State :=
  let maint := s.flag .boltMode_maint
  if !maint && r.met == .commit && r.data.isNone && s.boltAsk (.hub r.master r.priv) o r.size then
    (.collided, [], s.count .boltStat_collided)
  else if maint && r.met == .lowerWrite && r.data.isSome && s.boltAsk (.hub r.master r.priv) o r.size then
    (.writeLost, [], s.countSat .boltStat_writeLost)
  else match r.data with
  | none => s.boltRead (.hub r.master r.priv) reporter o r.size
  | some d => let x := s.boltWrite (.hub r.master r.priv) reporter o d; (x.1, [], x.2)

def State.hubDdr (s : State) (r : HubReq) (reporter o : Nat) : Resp × List Byte × State :=
  if !s.hubDdrOk r o then (.refused, [], s)
  else match r.data with
    | none => s.cacheRead reporter o r.size
    | some d => let x := s.cacheWrite reporter o d; (x.1, [], x.2)

/-- The writer a master is at the set-up register bridge. -/
def hubWriter (m : Nat) : RegWriter :=
  if m = 9 then .bar0 else if m = 12 then .fitter else if m = 13 then .thimble else if m = 14 then .debug else .warden

/-- The set-up register bridge (R356, R357). -/
def State.hubReg (s : State) (r : HubReq) (o : Nat) : Resp × List Byte × State :=
  if !accessOk o r.size then (.decerr, [], s)
  else match r.data with
    | none => let x := s.regRead 0 o r.size; (.ok, leBytes r.size x.1, x.2)
    | some d =>
      match s.access { fn := 0, writer := hubWriter r.master, offset := o, size := r.size, value := ofLe d } with
      | .next t => (.ok, [], t)
      | _ => (.ok, [], s)

/-- A bridge to run-time registers the spec does not give: what a read returns is free, and so is what GPIO outputs show
after a write to their device (R355). -/
def State.hubFree (s : State) (r : HubReq) (dev : Nat) : Resp × List Byte × State :=
  match r.data with
  | none => let x := s.freshBytes r.size; (.ok, x.1, x.2)
  | some _ =>
    if dev = 3 then let x := s.fresh 16; (.ok, [], { x.2 with pins := { x.2.pins with gpioOut := x.1 } })
    else (.ok, [], s)

/-- The request at its target. -/
def State.hubPerform (s : State) (r : HubReq) (reporter : Nat) (p : HubPlace) : Resp × List Byte × State :=
  match p with
  | .bolt _ o => s.hubBolt r reporter o
  | .ddr _ o => s.hubDdr r reporter o
  | .ddrDirect o => s.hubDdr r reporter o
  | .bridge t o =>
    if t = 13 then s.hubReg r o
    else if t = 14 then
      if r.size ≠ 4 ∧ r.size ≠ 8 then (.decerr, [], s)
      else if State.periPermits r.master (o / 0x1000) (o % 0x1000) then s.hubFree r (o / 0x1000)
      else (.refused, [], s)
    else if 4 ≤ r.size ∧ r.size ≤ 64 then s.hubFree r 0x10
    else (.decerr, [], s)
  | .none => (.decerr, [], s)

/-! ## Counters and the log -/

/-- Logs a failure while the log is free: kinds 1 DECERR, 2 ABORT, 3 REFUSED by R349. -/
def State.hubLog (s : State) (r : HubReq) (kind : Nat) : State :=
  if s.flag .hubErrLog_valid then s
  else (((s.wr .hubErrLog_addr 0 r.addr).wr .hubErrLog_master 0 r.master).wr .hubErrLog_kind 0 kind).wr .hubErrLog_valid 0 1

/-- Counts an answer: decode errors, refusals and aborts saturate; a decode error is logged. -/
def State.hubCount (s : State) (r : HubReq) (resp : Resp) : State :=
  match resp with
  | .decerr => (s.countSat .hubStat_decerr r.master).hubLog r 1
  | .refused => s.countSat .hubStat_refusedAbort r.master
  | .abort => (s.countSat .hubStat_refusedAbort r.master).hubLog r 2
  | _ => s

/-- Keeps an answer until its response goes back. -/
def State.hubAnswer (s : State) (r : HubReq) (target : Nat) (resp : Resp) (data : List Byte) : State :=
  let s := s.hubCount r resp
  s.setHub { s.hub with flight := s.hub.flight ++ [{ req := r, target, resp, data }] }

/-- What an ABORT leaves of a write: its bytes are free. -/
def State.hubSpoil (s : State) (r : HubReq) : State :=
  match r.data with
  | none => s
  | some _ =>
    let x := s.freshBytes r.size
    match s.hubDecode r.addr with
    | .bolt (some _) o => x.2.boltStore o x.1
    | .ddr _ o => (x.2.cacheDrop o r.size).ddrStore o x.1
    | .ddrDirect o => (x.2.cacheDrop o r.size).ddrStore o x.1
    | _ => s

/-- The islands whose seams a request crosses (R347, R350, R351): the channel of a DDR5 request, the bridges' islands; a Bolt
bank and the set-up register bridge stand in the Hub's own. -/
def State.reqIslands (s : State) (r : HubReq) : List Nat :=
  match s.hubDecode r.addr with
  | .ddr _ o => [69 + (s.ddrPlace o).ch]
  | .ddrDirect o => [69 + (s.ddrPlace o).ch]
  | .bridge t o => if t = 12 then [69 + o / 65536] else if t = 14 then [84] else if t = 15 then [83] else []
  | _ => []

/-- Does a request reach an island that is held in reset, but for DDR5, whose own access answers for its channel (R17)? -/
def State.reqCut (s : State) (r : HubReq) : Bool :=
  match s.hubDecode r.addr with
  | .bridge _ _ => (s.reqIslands r).any s.seamShut
  | _ => false

/-- The target's answer to a request the Hub forwards: ABORT where its island is held in reset (R17, R354). -/
def State.hubTarget (s : State) (r : HubReq) (reporter : Nat) (p : HubPlace) : Resp × List Byte × State :=
  if s.reqCut r then (.abort, [], s.hubSpoil r) else s.hubPerform r reporter p

/-- A target has granted a request's beats to its master, on which it parks now (R353). -/
def State.hubGrant (s : State) (r : HubReq) (t : Nat) : State :=
  let beats := if r.size = 128 then 2 else 1
  let s := s.count .hubStat_grants r.master beats
  let same := Store.get (fun _ => 16) s.hub.parked t == r.master
  s.setHub { s.hub with parked := Store.put (fun _ => 16) s.hub.parked t r.master
                        run := Store.put (fun _ => 0) s.hub.run t
                          ((if same then Store.get (fun _ => 0) s.hub.run t else 0) + beats) }

/-- Serves a request: DECERR by the Hub, REFUSED by R349, else the target's answer; beats are granted only for what is
forwarded. The seam discards the response of an orphan (R354). -/
def State.hubServe (s : State) (w : HubWait) : State :=
  let r := w.req
  let p := s.hubDecode r.addr
  let t := p.target
  let answer := fun (s : State) (resp : Resp) (data : List Byte) => if w.orphan then s else s.hubAnswer r t resp data
  if p = .none then answer s .decerr []
  else if !s.hubPermits r.master r.priv p.gate then answer (s.hubLog r 3) .refused []
  else
    let x := (s.hubGrant r t).hubTarget r repHub p
    answer x.2.2 x.1 x.2.1

/-! ## Waiting (R331, R341, R352) -/

/-- The limit of outstanding transactions of a master (R352). -/
def State.hubMax (s : State) (m : Nat) : Nat :=
  let v := s.rd .hubMasterCfg_maxOut m
  if v = 0 ∨ v > 64 then 64 else v

/-- Does a request have to wait for its target, by maintenance, a sleeping bank, or the write-back of a warm reset? In
maintenance the Thimble and Warden firmware go on, the Fitter's included (R331). -/
def State.hubTargetWaits (s : State) (r : HubReq) : Bool :=
  let maint := s.flag .boltMode_maint && r.master != 13 && r.master != 12 && !(decide (r.master ≤ 7) && r.priv == 2)
  match s.hubDecode r.addr with
  | .bolt (some b) _ => maint || s.bankWaits b
  | .ddr b _ => maint || s.bolt.writeBack || s.bankWaits b
  | .ddrDirect _ => maint || s.bolt.writeBack
  | _ => false

/-- An access at an internal address wakes its bank from retention or off (R341). -/
def State.hubWakeAt (s : State) (a : Nat) : State :=
  match s.hubDecode a with
  | .bolt (some b) _ => s.wakeBank b
  | .ddr b _ => s.wakeBank b
  | _ => s

/-- A request wakes the bank it waits for. -/
def State.hubWake (s : State) (r : HubReq) : State := s.hubWakeAt r.addr

/-- The transactions of a master that have no response: answered ones whose response is on its way, and those that wait. -/
def State.hubOut (s : State) (m : Nat) : Nat := (s.hub.flight.filter (fun t => t.req.master == m)).length

/-- The waiting transactions that stand before their targets (R352): those that `max_out` lets out of their master's port, each
behind no earlier one of its master to the same target. -/
def State.hubFront (s : State) : List HubWait :=
  let target := fun (w : HubWait) => (s.hubDecode w.req.addr).target
  s.hub.waiting.zipIdx.filterMap (fun e =>
    let before := (s.hub.waiting.take e.2).filter (fun w => w.req.master == e.1.req.master)
    let lives := (before.filter (fun w => !w.orphan)).length
    if before.any (fun w => target w == target e.1) then none
    else if !e.1.orphan && decide (s.hubMax e.1.req.master ≤ s.hubOut e.1.req.master + lives) then none
    else some e.1)

/-- Grants per round of a master: 0 acts as 1 (R353). -/
def State.hubWeight (s : State) (m : Nat) : Nat := max 1 (s.rd .hubMasterCfg_weight m)

/-- Weighted round robin at a target (R353): the master granted last goes on up to its weight, else the next one in ascending
order that presents a request. -/
def State.hubChoose (s : State) (t : Nat) (l : List HubWait) : Option HubWait :=
  let last := Store.get (fun _ => 16) s.hub.parked t
  let more := decide (Store.get (fun _ => 0) s.hub.run t < s.hubWeight last)
  match (if more then l.find? (fun w => w.req.master == last) else none) with
  | some w => some w
  | none =>
    let far := fun (m : Nat) => (m + 32 - last - 1) % 16
    l.foldl (fun (best : Option HubWait) w =>
      match best with
      | some b => if far w.req.master < far b.req.master then some w else best
      | none => some w) none

/-- The transaction that is served next: at the target of the oldest one that need not wait, the one it grants. -/
def State.hubNext (s : State) : Option HubWait :=
  let ready := s.hubFront.filter (fun w => !s.hubTargetWaits w.req)
  match ready with
  | [] => none
  | w :: _ =>
    let t := (s.hubDecode w.req.addr).target
    s.hubChoose t (ready.filter (fun x => (s.hubDecode x.req.addr).target == t))

/-- Waiting transactions served, at most `n`. -/
def State.hubArb : Nat → State → State
  | 0, s => s
  | n + 1, s =>
    match s.hubNext with
    | none => s
    | some w => State.hubArb n ((s.setHub { s.hub with waiting := s.hub.waiting.erase w }).hubServe w)

/-- While the Hub has its clock, every waiting transaction that can be served is served; the others wake the banks they wait
for. -/
def State.hubDrain (s : State) : State :=
  if s.clocked then
    let s := State.hubArb s.hub.waiting.length s
    s.hub.waiting.foldl (fun s w => if s.hubTargetWaits w.req then s.hubWake w.req else s) s
  else s

/-- HUB_REQUEST (R348-R355). What R348 does not call a transaction changes nothing. -/
def actHubRequest (r : HubReq) (s : State) : Host.Outcome State Fault Refusal :=
  if !hubWellFormed r then .next s
  else .next (s.setHub { s.hub with waiting := s.hub.waiting ++ [{ req := r, orphan := false }] }).hubDrain

/-- HUB_RESPONSE (R352, R354): the oldest answer of a master's ID goes back. -/
def actHubResponse (m id : Nat) (s : State) : Host.Outcome State Fault Refusal :=
  match s.hub.flight.find? (fun t => t.req.master == m && t.req.id == id) with
  | none => .next s
  | some t => .next (s.setHub { s.hub with flight := s.hub.flight.erase t, back := [t] }).hubDrain

/-! ## Aborts (R17, R354) -/

/-- The target's island was reset with the request in flight: the oldest OK answer of the ID that crossed a seam which
discards its entries becomes ABORT. -/
def State.hubAbort (s : State) (m id : Nat) : State :=
  match s.hub.flight.findIdx? (fun t =>
      t.req.master == m && t.req.id == id && t.resp == .ok && (s.reqIslands t.req).any s.seamShut) with
  | none => s
  | some i =>
    match s.hub.flight[i]? with
    | none => s
    | some t =>
      let s := s.setHub { s.hub with flight := s.hub.flight.set i { t with resp := .abort, data := [] } }
      (s.hubCount t.req .abort).hubSpoil t.req

/-- The Hub masters of an island (R347); Needle clusters and the Selvage DMA share a port among islands. -/
def islandMasters (i : Nat) : List Nat := if i = 77 then [9, 10] else if i = 82 then [12] else if i = 83 then [13] else []

/-- A master's island is reset: its answers are discarded at the seam; its outstanding requests, of which its port lets out at
most its limit, are completed at their targets with no response, and those still at the port go with it (R352, R354). -/
def State.hubDiscard (s : State) (m : Nat) : State :=
  let mine := s.hub.waiting.filter (fun w => w.req.master == m && !w.orphan)
  let out := mine.take (s.hubMax m - s.hubOut m)
  s.setHub { s.hub with
    flight := s.hub.flight.filter (fun t => t.req.master != m)
    waiting := s.hub.waiting.filter (fun w => w.req.master != m || w.orphan) ++ out.map (fun w => { w with orphan := true }) }

end Sys2Proof.Machine
end

