-- ==== Sys2Proof/Machine/Reset.lean ====
section
/-! DEFINITION. Resets, CLOCK_HOLD, the thermal trip, the host link and island resets (R46-R49, R368-R387, R476, R477, R486). -/

namespace Sys2Proof.Machine

open Sys2Proof

/-! ## What a reset keeps of the registers (R10, R11, R378) -/

/-- Is a field of a BAR0 block that starts at `lo` and ends before `hi`? -/
def Fld.within (f : Fld) (lo hi : Nat) : Bool := f.spec.space == .bar0 && decide (lo ≤ f.spec.base ∧ f.spec.base < hi)

/-- Fields whose value outlives a reset of `kind` 2, 3 or 4: RWS fields; the tampers since a cold reset; at a hot reset what the
blocks show whose islands run on (the Fitter's, the DDR controllers' and the clock controller's). RWL fields never. -/
def keepField (kind : Nat) (f : Fld) : Bool :=
  match f.spec.acc with
  | .rws => true
  | .rwl => false
  | _ =>
    f == .thmTamperStat_count || (kind == 3 && f == .thmLc_debugOpen)
      || (kind == 3 && (f.within 0xC30000 0xC40000 || f.within 0x400000 0x480000 || f.within 0x10000 0x20000))

/-- Registers after a reset of a kind: a cold reset returns every field to its reset value. -/
def State.resetRegs (s : State) (kind : Nat) : State :=
  { s with regs := if kind = 1 then [] else s.regs.filter (fun e =>
      match fldOfKey e.1 with | some (f, _) => keepField kind f | none => false) }

/-- The fields that `p` selects return to their reset values. -/
def State.resetFields (s : State) (p : Fld → Nat → Bool) : State :=
  { s with regs := s.regs.filter (fun e => match fldOfKey e.1 with | some (f, i) => !p f i | none => false) }

/-! ## Parts of a reset of kinds 1 to 4 -/

/-- The ring engine, the error ring and the host link: nothing consumed is completed (R49, R379), the error ring is not set
up, the heartbeat starts over, configuration space is reset. -/
def State.dropHost (s : State) (kind : Nat) : State :=
  let s := { s with rings := ringEngEmpty, pcie := { s.pcie with fns := [], linkUp := false, heldRecs := [] } }
  s.setErr
    { s.err with ring := none, buffer := [], dropped := 0, overflow := false, readOut := false,
                 windows := if kind = 3 then s.err.windows else [],
                 held := if kind = 3 then s.err.held else [], heldDrop := if kind = 3 then s.err.heldDrop else 0,
                 nextSeq := if kind = 1 then 1 else s.err.nextSeq, nextSlot := if kind = 3 then s.err.nextSlot else 0 }

/-- The Shuttle, the Hub, the Tack router and the mesh with nothing in them; the mesh key is the Thimble's, which a cold
reset restarts. -/
def State.dropEngines (s : State) (kind : Nat) : State :=
  let s := s.setSht { flight := [], waiting := [], posts := [], free := 64, pipes := [], deficit := [], turn := 0,
                      testTurn := 0, draining := false }
  let s := s.setHub { flight := [], waiting := [], back := [], parked := [], run := [] }
  let s := s.setTack { pend := [], flying := [], timers := [], ckptGen := none }
  s.setMesh { peers := [], shards := [], joining := none, forwarded := [], confs := [], out := s.mesh.out,
              key := if kind = 1 then none else s.mesh.key, sak := [], txPn := [], rxPn := [], renegFail := [], reneg := [],
              berExps := [] }

/-- The engines are reset, the Fitter's too but by a hot reset; a cold reset loses their stores. -/
def State.dropNeedles (s : State) (kind : Nat) : State :=
  let after := fun (e : Nat × Needle) =>
    if kind = 3 ∧ e.1 = 64 then e.2
    else if kind = 1 then needleReset
    else { needleReset with m := { nmemReset with dstore := e.2.m.dstore, istore := e.2.m.istore }, tenant := e.2.tenant }
  { s with ndl := s.ndl.foldr (fun e acc => Store.cell ndlDefault e.1 (after e) acc) [] }

/-- The Fitter's policy state: discarded with its island, kept through a hot reset but for Tape's averages of the islands
reset; retirements and repairs stand. -/
def State.dropFitter (s : State) (kind : Nat) : State :=
  if kind = 3 then
    s.setFit { s.fit with samples := s.fit.samples.filter (fun e => decide (69 ≤ e.1 ∧ e.1 ≤ 76 ∨ 82 ≤ e.1)),
                          averages := s.fit.averages.filter (fun e => decide (69 ≤ e.1 ∧ e.1 ≤ 76 ∨ 82 ≤ e.1)),
                          profQueue := [] }
  else
    s.setFit
      { buckets := [], located := [], latched := [], samples := if kind = 1 then [] else s.fit.samples.filter (fun e => e.1 == 83),
        averages := if kind = 1 then [] else s.fit.averages.filter (fun e => e.1 == 83),
        restartAt := [], downCause := 0, stopped := false,
        lockup := false, restarting := false, hotMs := 0, coolMs := 0, promotions := 0, demotions := 0,
        weightChanges := 0, avoidances := 0, avoided := [], quotas := [], profQueue := [], profPrev := 0,
        retired := s.fit.retired, sppr := s.fit.sppr, logQueue := if kind = 1 then [] else s.fit.logQueue, rowEv := [],
        clearing := if kind = 1 then [] else s.fit.clearing }

/-- The Thimble: a cold reset restarts it from its mask ROM; after the others its verification of the service images
repeats, but for the Fitter's after a hot reset (R383, R462). -/
def State.dropThimble (s : State) (kind : Nat) : State :=
  if kind = 1 then
    s.setThm { s.thm with stopped := false, drbg := false, trngFails := [], trngDead := false, sessions := [], ide := [],
                          rolling := none, meas := [], progs := [], coldCount := s.thm.coldCount + 1, judged := [], bundle := none,
                          progBase := none }
  else
    s.setThm { s.thm with drbg := false, rolling := none, bundle := some s.bundle, judged := if kind = 3 then s.thm.judged.filter (fun k => k == 3) else [] }

/-- The Bolt (R346): after a cold reset every bank is cleared; after the others the session banks are, scratch is kept in
retention when BOLT_KEEP.scratch asks for it, and dirty cache lines wait for DDR5. The reset layout is in force. -/
def State.dropBolt (s : State) (kind : Nat) : State :=
  let b := s.bolt
  if kind = 1 then
    s.setBolt { b with data := [], bad := [], lay := s.layoutBefore, donors := [], copying := [], fenced := [], lines := [],
                       plru := [], commits := [], retry := [], rr := [], resp := [], scrubAt := 0, wiping := false,
                       kept := none, writeBack := false }
  else
    let keep := s.flag .boltKeep_scratch
    -- the previous layout: until the lock that of the reset before, under which scratch is still kept
    let l := b.kept.getD b.lay
    let s := (l.sessB.filter (fun x => !(keep && l.scratchB.contains x))).foldl State.clearBank s
    let s := if keep then s else l.scratchB.foldl State.clearBank s
    let dirty := s.bolt.lines.filter (fun e => match e.2 with | some x => x.dirty | none => false)
    s.setBolt { s.bolt with lay := s.layoutBefore, donors := [], copying := [], fenced := [], lines := dirty, plru := [],
                            commits := [], retry := [], rr := [], resp := [], scrubAt := 0,
                            kept := if keep then some l else none, writeBack := !dirty.isEmpty }

/-- Scratch banks kept through the reset stand in retention until the lock. -/
def State.keepBanks (s : State) : State :=
  match s.bolt.kept with
  | some l => l.scratchB.foldl (fun s b => s.wr .boltBankState_power b 1) s
  | none => s

/-- Channels that hold contents when the reset comes: they serve, or are in self-refresh. -/
def State.ddrHolds (s : State) : List Nat :=
  (List.range 8).filter (fun c => !s.chanOut c && (s.flag .ddrcState_trained c || s.flag .ddrcState_selfRefresh c))

/-- DDR5 (R378): lost by a cold reset, in self-refresh through a warm reset and a clock-hold restart, untouched by a hot
one. -/
def State.dropDdr (s : State) (kind : Nat) : State :=
  if kind = 1 then
    s.setDdr { data := [], poison := [], chans := [], kept := [], rate := 0, spare := false, pop := none,
               spentBy := s.spentNext, migr := none, repairs := [], ans := none }
  else if kind = 3 then s
  else
    let s := s.setDdr { s.ddr with kept := [], migr := some s.migration, repairs := [], ans := none }
    s.each 8 (fun c s =>
      let x := s.chan c
      s.setChan c { chanDefault c with found := x.found, record := x.record, record8000 := x.record8000,
                                        refreshes := x.refreshes })

/-- The Vault Table engine (R155): the keys' plaintext goes, every session is stale, a cold reset loses the table. -/
def State.dropVault (s : State) (kind : Nat) : State :=
  let s := s.dropSessions kind
  let s := s.setVault { s.vault with keyHeld := false, prev := none, mirroring := false, cache := [], rebuilding := false }
  if kind = 1 then s.coldTable else s

/-- The pins: HB_OUT low and GPIO inputs after every reset but the hot one, which holds the outputs (R481). -/
def State.dropPins (s : State) (kind : Nat) : State :=
  { s with pins :=
      if kind = 3 then
        { s.pins with held := if s.locked then some (s.rd .periGpioCfg_dir, s.pins.gpioOut) else s.pins.held }
      else { s.pins with hbOut := false, gpioOut := 0, held := none } }

/-- RST_STATUS after a reset. -/
def State.countReset (s : State) (kind : Nat) : State :=
  let s := s.wr .rstStatus_lastKind 0 kind
  let s := { s with power := { s.power with hotDue := false } }
  if kind = 2 then s.countSat .rstStatus_warmCount else if kind = 3 then s.countSat .rstStatus_hotCount else s

/-- GLOBAL_READY bits that a reset leaves set (R383). -/
def readyKept (kind : Nat) : Nat := if kind = 1 then 0 else if kind = 3 then 2 ^ 1 + 2 ^ 2 + 0xFF00 else 2 ^ 1

/-- Registers show what stands after a reset: retirements, the log, the table, channels in self-refresh. -/
def State.showKept (s : State) (kind : Nat) (sleeping : List Nat) : State :=
  let s := (s.showRetired.showLayout.showLog).noteLive
  let s := if kind = 2 ∨ kind = 4 then sleeping.foldl (fun s c => s.wr .ddrcState_selfRefresh c 1) s else s
  let s := (s.showSweep (s.rd .vtStatus_sweepNext)).keepBanks
  if kind = 2 ∨ kind = 4 then s.thimbleRuns else s

/-- A hot reset finds the Fitter running, so its record is written at once; the others wait for the Fitter (R379). -/
def State.oweReset (s : State) (kind : Nat) : State :=
  let s := { s with power := { s.power with kinds := s.power.kinds ++ [kind] } }
  if s.fitterAlive then s.nameResets else s

/-- What a stream or an invocation without a record may have written is undefined (R49). -/
def State.spoilInv (s : State) (i : Inv) : State := s.hostUnknown i.tenant i.out.1 i.out.2

/-- The destinations of everything in progress are undefined (R49). -/
def State.spoilAll (s : State) : State :=
  let s := ((s.sht.flight ++ s.sht.waiting).filter (fun x => x.ended.isNone)).foldl State.spoilStrm s
  (s.ndl.filterMap (fun e => e.2.inv)).foldl State.spoilInv s

/-- A reset of kind 1, 2, 3 or 4. -/
def State.resetBy (s : State) (kind : Nat) : State :=
  let ready := s.rd .globalReady_bits &&& readyKept kind
  let sleeping := s.ddrHolds
  let s := s.spoilAll
  let s := (s.dropPins kind).dropHost kind
  let s := if kind = 1 then s else s.vaultWipe
  let s := (((s.dropEngines kind).dropNeedles kind).dropFitter kind).dropThimble kind
  let s := ((s.dropBolt kind).dropDdr kind).dropVault kind
  let s := (s.resetRegs kind).wr .globalReady_bits 0 ready
  let s := ((s.showKept kind sleeping).countReset kind).weightsBack
  let s := if kind = 1 then { s with time := 0, power := { s.power with bootDone := false, kinds := [] } } else s
  s.oweReset kind

/-! ## Islands start (R15, R370, R371) -/

/-- Is the chip held in reset by a supply or a pin? -/
def State.heldInReset (s : State) : Bool :=
  s.power.porActive || s.power.sysRst || s.power.inReset == some 1 || s.power.inReset == some 2

/-- An island leaves reset, or stays in it with its clock stopped when its gate is clear. -/
def State.startIsland (s : State) (i : Nat) : State :=
  if s.gateOff i then s.islandHeld i
  else if 64 ≤ i ∧ i < 68 then s.quadUp (i - 64)
  else s.islandUp i

/-- Every island in reset but the Fitter's, which the Thimble releases, starts once the root clock runs. -/
def State.startIslands (s : State) : State :=
  if !s.power.rootLock || s.heldInReset || !s.clocked then s
  else s.each 85 (fun i s => if i == 82 || !s.flag .clkIsland_inReset i then s else s.startIsland i)

/-- The islands that a reset of kind 3 resets stand in reset. -/
def State.islandsReset (s : State) : State :=
  s.each 79 (fun k s =>
    let i := if k < 69 then k else if k < 74 then k + 8 else 85
    if i < 82 then (s.wr .clkIsland_inReset i 1).wr .clkIsland_running i 0 else s)

/-- A hot reset performed. -/
def State.hotResetNow (s : State) : State :=
  let s := (s.resetBy 3).islandsReset
  { s with power := { s.power with inReset := some 3 } }.startIslands

/-- Does a stream read or write host memory? -/
def Strm.usesHost (x : Strm) : Bool :=
  x.src.space == 0 || x.dst0.space == 0 || (recLen x.chain != 0 && x.dst1.space == 0)

/-- Does an invocation read or write host memory? -/
def Inv.usesHost (i : Inv) : Bool := i.out.2 != 0 || i.bufs.any (fun b => b.2 != 0)

/-- Is an operation wholly inside the device still to run to its end (R48): a stream, an invocation, a pipeline's self-test,
a profile change? -/
def State.insideWork (s : State) : Bool :=
  (s.sht.flight ++ s.sht.waiting).any (fun x => x.ended.isNone && !x.usesHost)
    || s.ndl.any (fun e => e.2.inv.any (fun i => !i.usesHost))
    || s.sht.pipes.any (fun p => !p.2.testFor.isEmpty)
    || (s.fitterAlive && s.flag .globalProfile_switching)

/-- An invocation that uses host memory ends with no record and its output undefined (R48, R49). -/
def State.cutInv (s : State) (n : Nat) : State :=
  match (s.nd n).inv with
  | some i => if i.usesHost then (s.spoilInv i).setNd n { s.nd n with inv := none } else s
  | none => s

/-- The link is lost and operations wholly inside the device run on (R48, steps 2 and 3): fetching stops, what was consumed
gets no record, the other operations end with their destinations undefined; the hot reset waits. -/
def State.hotWait (s : State) : State :=
  let s := (s.sht.flight.filter Strm.usesHost).foldl (fun s x => s.endStrm x.id stAbortedByReset (abortedBy 3)) s
  let s := (s.sht.waiting.filter (fun x => x.usesHost && x.ended.isNone)).foldl State.spoilStrm s
  let s := s.each 65 (fun n s => s.cutInv n)
  let s := s.setSht { s.sht with flight := s.sht.flight.filter (fun x => !x.usesHost),
                                 waiting := s.sht.waiting.filter (fun x => !x.usesHost) }
  let s := { s with rings := ringEngEmpty, pcie := { s.pcie with linkUp := false, heldRecs := [] },
                    power := { s.power with hotDue := true } }
  ((s.setReady readyCfg false).each 16 (fun r s => s.noteRing r)).shuttleRun

/-- A hot reset (R48, R377): it is absorbed by a wider one in progress, by one that waits, and by CLOCK_HOLD, which has the
link down; it begins once the operations wholly inside the device have ended. -/
def State.hotReset (s : State) : State :=
  if s.heldInReset || !s.clocked || s.power.hotDue then s
  else if s.insideWork then s.hotWait
  else s.hotResetNow

/-- The hot reset that waits begins when the last of those operations has ended. -/
def State.hotWhenDone (s : State) : State := if s.power.hotDue && !s.insideWork then s.hotResetNow else s

/-- A cold reset: the crystal is judged and the root locked afresh. -/
def State.coldReset (s : State) : State :=
  let s := s.resetBy 1
  { s with power := { s.power with hold := false, holdCause := none, rootLock := false, xtalStable := false,
                                   inReset := some 1 } }

/-- A warm reset: the root runs on. During CLOCK_HOLD it takes the restart's place (R380). -/
def State.warmReset (s : State) : State :=
  let s := s.resetBy 2
  { s with power := { s.power with inReset := some 2, holdCause := if s.power.hold then some 2 else none } }

/-- The reset held until now ends, unless a supply or another pin holds it on: PERST_N low with perst_warm = 0, its value after a
cold reset, is a cold reset too (R377). -/
def State.resetEnds (s : State) : State :=
  if s.power.porActive || s.power.sysRst || s.power.perst then s
  else (State.thimbleRuns { s with power := { s.power with inReset := none } }).startIslands

/-! ## Supplies and reset pins (R377, R380, R476, R477) -/

/-- POWER_ON_RESET. -/
def actPowerOnReset (s : State) : Host.Outcome State Fault Refusal :=
  let s := if s.power.inReset = some 1 then s else s.coldReset
  .next { s with power := { s.power with porActive := true } }

/-- POWER_ON_RESET_RELEASE: the Thimble leaves reset unless SYS_RST_N or PERST_N holds it. -/
def actPowerOnResetRelease (s : State) : Host.Outcome State Fault Refusal :=
  if !s.power.porActive then .next s
  else .next (State.resetEnds { s with power := { s.power with porActive := false } })

/-- SYS_RST_N_ASSERT: a cold reset; with all sensors below 100 °C it clears a latched trip (R486). -/
def actSysRstNAssert (below100 : Bool) (s : State) : Host.Outcome State Fault Refusal :=
  let s := if s.power.inReset = some 1 then s else s.coldReset
  .next { s with power := { s.power with sysRst := true, trip := s.power.trip && !below100 } }

/-- SYS_RST_N_RELEASE: the Thimble leaves reset and boots, unless the supplies or PERST_N hold it. -/
def actSysRstNRelease (s : State) : Host.Outcome State Fault Refusal :=
  if !s.power.sysRst then .next s
  else .next (State.resetEnds { s with power := { s.power with sysRst := false } })

/-- PERST_N_ASSERT: a cold reset, or a warm one while RST_CTRL.perst_warm = 1; a wider reset in progress absorbs it. -/
def actPerstNAssert (s : State) : Host.Outcome State Fault Refusal :=
  if s.power.perst then .next s
  else
    let warm := s.flag .rstCtrl_perstWarm
    let s := { s with power := { s.power with perst := true } }
    if s.power.porActive || s.power.sysRst then .next s
    else if warm then .next s.warmReset
    else .next s.coldReset

/-- PERST_N_RELEASE: the reset that PERST_N held ends. -/
def actPerstNRelease (s : State) : Host.Outcome State Fault Refusal :=
  if !s.power.perst then .next s
  else .next (State.resetEnds { s with power := { s.power with perst := false } })

/-! ## The host link (R43, R47-R49, R379, R383) -/

/-- HOT_RESET. -/
def actHotReset (s : State) : Host.Outcome State Fault Refusal := .next s.hotReset

/-- DL_DOWN (R48): fetching stops, what is outbound is discarded, a hot reset follows. -/
def actDlDown (s : State) : Host.Outcome State Fault Refusal :=
  if s.pcie.linkUp then .next s.hotReset else .next s

/-- LINK_TRAINED (R28, R383): the link is negotiated and configuration space answers. -/
def actLinkTrained (s : State) : Host.Outcome State Fault Refusal :=
  if s.pcie.linkUp || s.power.perst || s.power.hotDue || !s.flag .clkIsland_running 77 || s.flag .clkIsland_inReset 77 then .next s
  else
    let s := s.negotiate
    let s := { s with pins := { s.pins with held := none }, power := { s.power with inReset := none } }
    .next (s.setReady readyCfg true)

/-- No operation in progress names this function's descriptors any more; 4096 is no SQ. -/
def State.forgetWork (s : State) (mine : Nat → Bool) : State :=
  let gone := fun (w : Option (Nat × Nat × Nat)) => match w with | some k => if mine k.1 then none else some k | none => none
  let s := s.setMesh { s.mesh with
    shards := s.mesh.shards.map (fun e => (e.1, { e.2 with
      pend := e.2.pend.map (fun p => { p with work := gone p.work }),
      claiming := e.2.claiming.map (fun c => { c with work := c.work.filter (fun k => !mine k.1) }) }))
    forwarded := s.mesh.forwarded.map (fun e => if mine e.2.2.1 then (e.1, e.2.1, 4096, 0, e.2.2.2.2) else e)
    confs := s.mesh.confs.filter (fun e => !mine e.2.2.1)
    joining := s.mesh.joining.map (fun j => if mine j.work.1 then { j with work := (4096, 0) } else j) }
  let s := s.each 16 (fun p s => s.setPipe p { s.pipe p with testFor := (s.pipe p).testFor.filter (fun w => !mine w.1) })
  s.setFit { s.fit with profQueue := s.fit.profQueue.map (fun e => if mine e.1 then (4096, 0, e.2.2) else e) }

/-- The streams that a reset of a kind ends (R381). -/
def State.abortStreams (s : State) (kind : Nat) (mine : Strm → Bool) : State :=
  let r := abortedBy kind
  let ids := (s.sht.flight.filter mine).map (·.id)
  let s := ids.foldl (fun s id => s.endStrm id stAbortedByReset r) s
  s.setSht { s.sht with waiting := s.sht.waiting.map (fun x =>
    if mine x = true ∧ x.ended.isNone then { x with ended := some (stAbortedByReset, r) } else x) }

/-- Is this descriptor one whose stream is with the Shuttle? Its record comes when the stream retires (R180). -/
def State.inShuttle (s : State) (w : Work) : Bool :=
  (s.sht.flight ++ s.sht.waiting).any (fun x => x.poster == .desc w.sq w.d.cid.toNat)

/-- What a function-level reset ends of a function: its streams, sessions and key slots (R155), its invocations. With
`record` its descriptors complete ABORTED_BY_RESET, else they end with no record. -/
def State.flrEnds (s : State) (fn : Nat) (record : Bool) : State :=
  let mine := fun (sq : Nat) => s.ringOwner sq == some fn
  let work := s.rings.work.filter (fun w => mine w.sq)
  let s := s.abortStreams 5 (fun x => x.fn == fn)
  let s := work.foldl (fun s w =>
    if record then if s.inShuttle w then s else s.complete w stAbortedByReset (abortedBy 5) else s.dropWork w) s
  let s := (s.forgetWork mine).freeSessWhere (fun x => x.tenant == fn)
  s.each 65 (fun n s =>
    match (s.nd n).inv with
    | some i => if mine i.sq then (s.spoilInv i).setNd n { s.nd n with inv := none } else s
    | none => s)

/-- Fields of a VF that its reset returns to reset values: its VF BAR0, and its rings' entries and states (R34, R47). -/
def State.vfField (s : State) (fn : Nat) (f : Fld) (i : Nat) : Bool :=
  if ringField f || f == .ringSqState_head || f == .ringSqState_class || f == .ringSqState_stopped
      || f == .ringSqState_lastSeq || f == .ringCqState_tail || f == .ringCqState_phase || f == .ringCqState_stopped then
    s.ringOwner i == some fn
  else if f.spec.space == .vf then i / (f.spec.oCount / 256 * f.spec.iCount) == fn
  else false

/-- FLR of a VF (R47, R379). -/
def State.flrOfVf (s : State) (fn : Nat) : State :=
  let s := s.flrEnds fn false
  let owned := fun (n : Nat) => s.ringOwner n == some fn
  -- no pass waits for a slot of an SQ that is gone (R65)
  let s := ((s.rings.sqs.map (·.1)).filter owned).foldl State.passServe s
  let s := { s with rings := { s.rings with sqs := s.rings.sqs.filter (fun e => !owned e.1)
                                            cqs := s.rings.cqs.filter (fun e => !owned e.1) } }
  let s := s.resetFields (s.vfField fn)
  let s := { s with pcie := { s.pcie with heldRecs := s.pcie.heldRecs.filter (fun r => r.fn != fn) } }
  s.setFnCfg fn (fnCfgDefault fn)

/-- FLR_VF. -/
def actFlrVf (n : Nat) (s : State) : Host.Outcome State Fault Refusal :=
  if n = 0 ∨ n > s.numVfs ∨ !s.pcie.linkUp then .next s else .next (s.flrOfVf n).shuttleRun

/-- FLR of PF0 (R47, R379): every VF goes too; PF0's records wait for Bus Master Enable,
and its stopped SQs leave that state (R59). -/
def State.flrOfPf0 (s : State) : State :=
  let s := s.each s.numVfs (fun i s => s.flrOfVf (i + 1))
  let c := s.fnCfg 0
  let s := s.setFnCfg 0 { bme := false, ctl := { c.ctl with msixEnable := false, vfEnable := false, d3hot := false } }
  ((s.flrEnds 0 true).unstop (fun n => s.ringOwner n == some 0)).shuttleRun

/-- FLR_PF0. -/
def actFlrPf0 (s : State) : Host.Outcome State Fault Refusal :=
  if s.pcie.linkUp then .next s.flrOfPf0 else .next s

/-- D3HOT_TO_D0: as an FLR of PF0. -/
def actD3hotToD0 (s : State) : Host.Outcome State Fault Refusal := actFlrPf0 s

/-- BUS_MASTER_ENABLE_SET (R43, R379): the function's controls are written with Bus Master Enable set; records that waited
for it are its first requests. -/
def actBusMasterEnableSet (fn : Nat) (cfg : CfgControls) (s : State) : Host.Outcome State Fault Refusal :=
  if !s.isReady readyCfg || decide (fn > s.numVfs) then .next s
  else
    let s := s.setFnCfg fn { bme := true, ctl := cfg }
    -- vectors the function's mask held back (R81)
    let s := if cfg.msixEnable && !cfg.msixFnMask then (s.waitingVectors fn).foldl (fun s v => s.sendUnmasked fn v) s else s
    let mine := s.pcie.heldRecs.filter (fun r => r.fn == fn)
    let s := { s with pcie := { s.pcie with heldRecs := s.pcie.heldRecs.filter (fun r => r.fn != fn) } }
    let s := mine.foldl State.postRecord s
    .next (if fn = 0 then (State.errDrain 66 s).errPoll.owedReads.noteAtomic else s)

/-! ## The crystal, the root and CLOCK_HOLD (R368-R376) -/

/-- Every core-domain clock stops: the link goes down, the Tack router's events are discarded (R367), no function but the
Thimble's is usable. What the stopped islands' RO fields show stays (R356); the channels are in self-refresh and the Bolt banks
that are on in retention as long as `clocked` is false. -/
def State.clocksStop (s : State) : State :=
  let s := { s with power := { s.power with rootLock := false, xtalStable := false, hotDue := false } }
  let s := (s.each 85 (fun i s => (s.wr .clkIsland_running i 0).wr .clkIsland_divisor i 0)).thimbleRuns
  let s := s.setFit { s.fit with restarting := false, downCause := 0 }
  let s := s.setTack { s.tack with pend := [], flying := [] }
  let s := { s with pcie := { s.pcie with linkUp := false } }
  s.keepReady (2 ^ readyBoot)

/-- MISSING_EDGE (R369, R375): while the root runs, CLOCK_HOLD begins; else the judgement of the crystal starts over. -/
def actMissingEdge (s : State) : Host.Outcome State Fault Refusal :=
  if s.power.porActive then .next s
  else if s.power.rootLock then
    let s := s.clocksStop.countSat .rstStatus_holdCount
    -- a warm reset that PERST_N holds has been performed: the restart would be absorbed into it (R380)
    .next { s with power := { s.power with hold := true, holdCause := if s.power.inReset = some 2 then some 2 else none } }
  else
    let s := { s with power := { s.power with xtalStable := false } }
    .next (s.countSat .clkStatus_judgeRestarts)

/-- XTAL_JUDGED_STABLE (R369): the root PLL may start. -/
def actXtalJudgedStable (s : State) : Host.Outcome State Fault Refusal :=
  if s.thmHeld || s.power.rootLock then .next s
  else .next { s with power := { s.power with xtalStable := true } }

/-- ROOT_PLL_LOCK (R370, R375 steps 6 and 7): after CLOCK_HOLD the restart of R377 is performed; the islands start. -/
def actRootPllLock (s : State) : Host.Outcome State Fault Refusal :=
  if s.thmHeld || s.power.rootLock || !s.power.xtalStable then .next s
  else
    let was := s.power.hold
    let cause := s.power.holdCause
    let s := { s with power := { s.power with rootLock := true, hold := false, holdCause := none } }
    let s := if was && cause.isNone then s.resetBy 4 else s
    .next s.thimbleRuns.spreadLock.startIslands

/-- THERMAL_TRIP (R486). -/
def actThermalTrip (s : State) : Host.Outcome State Fault Refusal :=
  if s.power.trip then .next s
  else
    let s := s.clocksStop
    .next { s with power := { s.power with trip := true } }

/-! ## Island resets (R377, R378, R381, R407) -/

/-- The island of an event source (R358). -/
def sourceIsland (src : Nat) : Nat :=
  if src < 128 then src / 2 else if src < 130 then 82 else if src < 146 then 68 else if src < 162 then 64 + (src - 146) / 4
  else if src < 186 then 84 else 68

/-- Triggers on their way into an island are discarded at the seam and counted (R17, R365); its own pending events are
discarded (R367). -/
def State.seamDrop (s : State) (i : Nat) : State :=
  let s := s.setTack { s.tack with pend := s.tack.pend.filter (fun e => sourceIsland e.1 != i) }
  let gone := s.tack.flying.filter (fun e => inputIsland e.1 == some i)
  let s := s.setTack { s.tack with flying := s.tack.flying.filter (fun e => inputIsland e.1 != some i) }
  gone.foldl (fun s e => s.countSat .tckDrop_count e.1) s

/-- An island reset begins (R17, R23, R354, R379): the seams discard what stands in them and the answers of the island's
masters, and a record names the reset; that of the PCIe island acts as a hot one, with the record of that. -/
def State.islandPulse (s : State) (i : Nat) : State :=
  let s := (islandMasters i).foldl State.hubDiscard (s.seamDrop i)
  let s := { s with power := { s.power with pulse := some (i, s.time) } }
  if i = 77 then s else s.oweReset 7

/-- A Needle's island: its engine is reset, its work ends with the island kind. -/
def State.resetNeedleIsland (s : State) (n : Nat) : State :=
  (s.endInv n stAbortedByReset (abortedBy 7)).ndlEngineReset n

/-- A quad: its jobs never ran and run again elsewhere (R186); its pipelines start over. -/
def State.resetQuad (s : State) (q : Nat) : State :=
  let s := (List.range 4).foldl (fun s i =>
    let p := 4 * q + i
    let s := s.unload p false
    (s.setPipe p { s.pipe p with slots := [] }).wr .stcPipeState_ready p 0) s
  ((s.noteQuad q).quadUp q).shuttleRun

/-- A DDR controller: its channel keeps its contents in self-refresh and is restored. -/
def State.resetDdrIsland (s : State) (c : Nat) : State :=
  if s.chanUp c then
    let s := ((s.wr .ddrcState_trained c 0).wr .ddrcState_selfRefresh c 1).setReady (readyDdr c) false
    s.setChan c { s.chan c with restoring := true }
  else s

/-- The Hub/Bolt logic island (R377-R381): streams end with the island kind; Hub, Tack router and Vault Table engine start over
and the sweep resumes from its checkpoint; the Bolt is left as by a warm reset, its layout and a donor copy stand. Set-up
registers, PCIe, DDR5 and the mesh are unchanged. -/
def State.resetHubIsland (s : State) : State :=
  let s := (s.abortStreams 7 (fun _ => true)).shuttleRun
  let s := s.vaultWipe.setHub { flight := [], waiting := [], back := [], parked := [], run := [] }
  let s := s.setTack { s.tack with pend := [], flying := [], ckptGen := none }
  let keep := s.flag .boltKeep_scratch
  let l := s.bolt.lay
  let s := (l.sessB.filter (fun x => !(keep && l.scratchB.contains x))).foldl State.clearBank s
  let s := if keep then s else l.scratchB.foldl State.clearBank s
  let dirty := s.bolt.lines.filter (fun e => match e.2 with | some x => x.dirty | none => false)
  let s := s.setBolt { s.bolt with lines := dirty, plru := [], commits := [], retry := [], rr := [], resp := [], scrubAt := 0,
                                   writeBack := !dirty.isEmpty }
  let s := s.setVault { s.vault with keyHeld := false, prev := none, mirroring := false, cache := [], rebuilding := s.locked }
  let s := s.wr .boltMode_maint 0 1
  [readyHub, readyTier 0, readyTier 1, readyTier 2, readyBoltVault, readyShuttle, readySessions, readyTack, readyVault].foldl
    (fun s b => s.setReady b false) s

/-- The Fitter's island: it stops being alive, its image is to be verified again before it starts; the profile changes it held
end (R24, R379, R429, R448); HB_OUT is low until it runs (R378). -/
def State.resetFitterIsland (s : State) : State :=
  let s := { s with pins := { s.pins with hbOut := false } }
  let s := s.setThm { s.thm with judged := s.thm.judged.filter (fun k => k != 3) }
  let s := ((s.wr .fitStatus_alive 0 0).setReady readyFitter false).weightsBack
  let s := s.fit.profQueue.foldl (fun s e => s.finish e.1 e.2.1 stAbortedByReset (abortedBy 7)) s
  (s.setFit { s.fit with restarting := true, lockup := false, profQueue := [] }).setNd 64 needleReset

/-- The Thimble's island starts from its mask ROM. -/
def State.resetThimbleIsland (s : State) : State :=
  let s := s.resampleProg
  let s := (s.setReady readyBoot false).setReady readyTrng false
  s.setThm { s.thm with drbg := false, stopped := false, sessions := [], rolling := none }

/-- The peripheral island: timers start over, GPIO outputs are no longer programmed. -/
def State.resetPeripheral (s : State) : State :=
  let s := { s with pins := { s.pins with gpioOut := 0 } }
  if s.locked then s.startTimers else s.setTack { s.tack with timers := [] }

/-- What every reset of one island does (R147, R379, R385): seams and masters, sessions stale, its Tape averages unsettled. -/
def State.islandBegins (s : State) (i : Nat) : State :=
  let s := s.islandPulse i
  let s := (s.setFit { s.fit with samples := s.fit.samples.filter (fun e => e.1 != i),
                                  averages := s.fit.averages.filter (fun e => e.1 != i) }).noteSettled
  if i = 77 then s else s.dropSessions 7

/-- FITTER_RESTART (R429, step 3): the Thimble resets the Fitter's island; it verifies the image again with IMAGE_VERIFIED,
and an image it rejects leaves the Fitter down. At most three in any 60 minutes. -/
def actFitterRestart (s : State) : Host.Outcome State Fault Refusal :=
  if s.fitterAlive || s.fit.stopped || s.fit.restarting || s.fit.downCause == 0 || !s.clocked then .next s
  else
    let recent := s.fit.restartAt.filter (fun t => decide (s.time < t + 3600000000000))
    if recent.length ≥ 3 then .next (s.setFit { s.fit with stopped := true })
    else
      let s := ((s.countSat .fitStatus_restarts).islandBegins 82).resetFitterIsland
      .next (s.setFit { s.fit with restartAt := recent ++ [s.time] })

/-- ISLAND_RESET (R377, kind 0x07): by Fitter firmware, of an island whose clock runs. The PCIe island acts as a hot reset. -/
def actIslandReset (i : Nat) (s : State) : Host.Outcome State Fault Refusal :=
  if i ≥ 85 || !s.fitterAlive || !s.flag .clkIsland_running i then .next s
  else
    let s := s.islandBegins i
    if i < 64 then .next (s.resetNeedleIsland i)
    else if i < 68 then .next (s.resetQuad (i - 64))
    else if i = 68 then .next s.resetHubIsland
    else if i < 77 then .next (s.resetDdrIsland (i - 69))
    else if i = 77 then .next s.hotReset
    else if i < 82 then .next ((s.portLink (i - 78) false 0).startPort (i - 78))
    else if i = 82 then .next s.resetFitterIsland
    else if i = 83 then .next s.resetThimbleIsland
    else .next s.resetPeripheral

end Sys2Proof.Machine
end

