-- ==== Sys2Proof/Machine/Operands.lean ====
section
/-! DEFINITION. Operand forms of a work descriptor: its little-endian fields, its header, the lowest offending offset. -/

namespace Sys2Proof.Machine

open Sys2Proof

/-- The little-endian field of `n` bytes at descriptor offset `off`, from offset 8 on. -/
def Work.f (w : Work) (off n : Nat) : Nat := leAt w.d.body (off - 8) n

/-- The lowest offset whose field offends (R76): pairs of an offset and whether its field is right. -/
def badOffset (l : List (Nat × Bool)) : Option Nat := ((l.filter (fun e => !e.2)).map (·.1)).min?

/-- The fields of the common header that are reserved (R71). -/
def Work.header (w : Work) : List (Nat × Bool) :=
  [(2, decide (w.d.flags.toNat < 4)), (3, w.d.rsvd3 == 0), (6, w.d.rsvd6 == 0)]

end Sys2Proof.Machine
end

