-- ==== Sys2Proof/Machine/Descriptors.lean ====
section
/-! DEFINITION. What every descriptor operation shares: its fields, the checks of R98, its reads and writes of host memory
(R31, R102), and its completion (R77, R100). -/

namespace Sys2Proof.Machine

open Sys2Proof

/-- BAD_DESCRIPTOR with the lowest offending offset, if any. -/
def needFields (l : List (Nat × Bool)) : Chk Unit :=
  match badOffset l with
  | some o => .error (fail stBadDescriptor o)
  | none => .ok ()

/-- A function that may not issue the opcode (R98 step 3). -/
def needFn (ok : Bool) : Chk Unit := need ok (fail stAccessDenied 0 4)

/-- QUOTA with a detail (R100). -/
def needQuota (ok : Bool) (detail : Nat) : Chk Unit := need ok (fail stQuota 0xFF detail)

/-- What a failed check leaves beside its status: an entry whose tag failed is reported (R133), a lost read of host memory
shows in AER (R31). -/
def State.noteFail (s : State) (f : Fail) : State :=
  let s := match f.integrity with | some i => s.report 0x0603 0x11 3 (i % 2 ^ 24) repVault | none => s
  if f.aer then s.readLost else s

/-- Host bytes whose value is undefined. -/
def State.spoilHost (s : State) (fn a n : Nat) : State := s.hostUnknown fn a n

/-- The host buffer an operation outside group 0x01 writes to, by its opcode's body (R111, R114, R118, R120, R123). -/
def Work.outs (w : Work) : List (Nat × Nat) :=
  if [0x0201, 0x0204, 0x0205, 0x0206, 0x0208, 0x0304].contains w.opcode then [(w.f 24 8, w.f 44 4)]
  else if w.opcode = 0x0302 then [(w.f 24 8, w.f 52 1)]
  else if [0x0403, 0x0407, 0x040A].contains w.opcode then [(w.f 24 8, w.f 32 4)]
  else if w.opcode = 0x0502 then [(w.f 24 8, w.f 40 4)]
  else if w.opcode = 0x0602 then [(w.f 24 8, w.f 36 4)]
  else []

/-- Its destination is undefined after a DMA_FAULT (R128). -/
def State.spoilOuts (s : State) (w : Work) : State := w.outs.foldl (fun s b => s.spoilHost (s.tenantOf w.sq) b.1 b.2) s

/-- Completes a descriptor that failed a check. -/
def State.failWork (s : State) (w : Work) (f : Fail) : State :=
  ((if f.status = stDmaFault then s.spoilOuts w else s).noteFail f).complete w f.status f.result

/-- A check's outcome: the state its operation leaves, or the failed check's record. -/
def State.settleChk (s : State) (w : Work) (r : Chk State) : State :=
  match r with
  | .ok t => t
  | .error f => s.failWork w f

/-- The reads of an operation's host data: one of each range that its view answers, under its function's Requester ID, cut at Max
Read Request Size (R28, R53, R101). -/
def State.readsOf (s : State) (w : Work) : List Out :=
  let fn := s.tenantOf w.sq
  if s.canIssue fn then
    (w.h.map (fun v => (pieces s.maxRead v.2.length v.1 v.2.length).map (fun p => Out.read fn p.1 p.2 s.relaxed))).flatten
  else []

/-- They go out when the operation is dispatched. -/
def State.operandReads (s : State) (w : Work) : State :=
  { s with pcie := { s.pcie with out := s.pcie.out ++ s.readsOf w } }

/-- A read at execution (R98 step 7): a failed one completes DMA_FAULT and leaves the destination undefined (R128). -/
def State.readOr (s : State) (w : Work) (a n : Nat) (dst : Nat × Nat) (k : List Byte → State) : State :=
  match viewRead w.h a n with
  | some bs => k bs
  | none => ((s.readLost).spoilHost (s.tenantOf w.sq) dst.1 dst.2).complete w stDmaFault (resultOf 0xFF 1 0)

/-- Output to host memory (R102): undefined when it overlaps another buffer of its descriptor, and where another descriptor
in flight beside it wrote. -/
def State.hostOut (s : State) (w : Work) (a : Nat) (bs : List Byte) (others : List (Nat × Nat)) : State :=
  let fn := s.tenantOf w.sq
  if others.any (fun o => meets a bs.length o.1 o.2) then
    let r := s.freshBytes bs.length
    r.2.sharedWrite fn w.id a r.1
  else s.sharedWrite fn w.id a bs

/-- Completes OK, or VERIFY_FALSE where a verification did not match. -/
def State.completeIf (s : State) (w : Work) (ok : Bool) (result : Nat) : State :=
  if ok then s.complete w stOk result else s.complete w stVerifyFalse 0

/-- The host bytes of a key operand: a wrapped blob (R93), or a public key of `n` bytes given by address (R91). -/
def keyBuf (h : HostView) (kind value n : Nat) : List (Nat × Nat) :=
  if kind = 2 then
    match viewRead h value 16 with
    | some hd => [(value, 24 + 8 * ceilDiv (16 + leAt hd 4 2) 8)]
    | none => []
  else if kind = 3 then [(value, n)]
  else []

/-- The index of a wrapped blob's KEK (R93). -/
def blobKek (h : HostView) (a : Nat) : Option Nat := (viewRead h (a + 8) 8).map (fun bs => ofLe bs % 2 ^ 24)

/-- A key operand in use passes the hot-entry cache (R145): its entry, or the entry of the blob's KEK. -/
def State.touchKey (s : State) (h : HostView) (kind value : Nat) : State :=
  if kind = 0 then s.touchEntry (value % 2 ^ 24)
  else if kind = 2 then
    match blobKek h value with
    | some i => s.touchEntry i
    | none => s
  else s

/-! ## New entries (R95, R119, R130, R134, R135, R139) -/

/-- What a new entry is to hold. -/
structure NewEntry where
  shard    : Nat
  keyType  : Nat
  usage    : Nat
  expiry   : Nat
  material : Bs
  deriving DecidableEq, Repr

/-- The generation an allocation issues: the stored one, or one drawn from the DRBG in 1 to 65,535 (R134). -/
def State.drawGen (s : State) (i : Nat) : Nat × State :=
  let g := (s.entry i).generation
  if g ≠ 0 then (g, s)
  else
    let r := s.fresh 64
    (r.1 % 65535 + 1, r.2)

/-- Allocates an entry for the descriptor's tenant and writes it; the descriptor completes with its handle, now or when the
write commits. QUOTA when the shard has no free index or the extension store no room. -/
def State.newEntry (s : State) (w : Work) (n : NewEntry) : State :=
  let tenant := s.tenantOf w.sq
  let room := (s.extAlloc (extBlocksFor n.keyType n.material.length)).isSome
  match if room then s.allocIndex n.shard else none with
  | none => s.complete w stQuota (resultOf 0xFF 1 0)
  | some i =>
    let s := s.moveAllocPtr n.shard i
    let g := s.drawGen i
    let salt := g.2.fresh 32
    let t : TableWrite :=
      { index := i, live := true, generation := g.1, tenant, keyType := n.keyType, usage := n.usage, nonceSalt := salt.1,
        created := s.tableTime, expiry := n.expiry, material := bytesOf n.material }
    let handle := tenant * 2 ^ 48 + n.shard * 2 ^ 40 + g.1 * 2 ^ 24 + i
    salt.2.tableWrite w t n.shard handle

/-- A secret output as a new entry (R95): GENERIC_SECRET, usage derive only, no expiry. -/
def State.newSecret (s : State) (w : Work) (shard : Nat) (secret : Bs) : State :=
  s.newEntry w { shard, keyType := 8, usage := 2 ^ uDerive, expiry := 0, material := secret }

/-- Entry quota (R98 step 5). -/
def State.entryRoom (s : State) (tenant : Nat) : Bool := decide (s.liveOf tenant < (s.quota tenant).entries)

end Sys2Proof.Machine
end

