-- ==== Sys2Proof/Machine/AdminArgs.lean ====
section
/-! DEFINITION. The arguments of mesh administration and maintenance, groups 0x07 and 0x0F (R125-R127). -/

namespace Sys2Proof.Machine

open Sys2Proof

/-- Argument `i`. -/
def Work.a (w : Work) (i : Nat) : Nat := w.f (8 + 8 * i) 8

/-- A field of argument `i`. -/
def Work.ab (w : Work) (i lo n : Nat) : Nat := bitsOf (w.a i) lo n

/-- Bits `lo` to `hi`, as a mask. -/
def bitMask (lo hi : Nat) : Nat := 2 ^ (hi + 1) - 2 ^ lo

/-- The bits of a0, a1, ... that an opcode lists; every other bit is zero (R125). -/
def argMasks (op : Nat) : List Nat :=
  let all := 2 ^ 64 - 1
  match op with
  | 0x0701 => [bitMask 0 9, all, bitMask 0 10]
  | 0x0702 => [1]
  | 0x0703 => [bitMask 0 7, bitMask 0 3 + bitMask 8 11, all]
  | 0x0704 => [all]
  | 0x0705 => [bitMask 0 7]
  | 0x0F01 => [all, bitMask 0 4 + bitMask 16 26, bitMask 0 17, all]
  | 0x0F02 => [bitMask 0 1]
  | 0x0F03 => [bitMask 0 15]
  | 0x0F04 => [bitMask 0 15]
  | 0x0F05 => [bitMask 0 15]
  | 0x0F06 => [bitMask 0 11, bitMask 0 15]
  | 0x0F07 => [bitMask 0 11, bitMask 0 1]
  | 0x0F08 => [bitMask 0 10, all, bitMask 0 32]
  | 0x0F09 => [bitMask 0 7, bitMask 0 47, bitMask 0 24, bitMask 0 16 + bitMask 24 31]
  | _ => []

/-- The header, the reserved bits of every argument and the bytes after them. -/
def Work.admFields (w : Work) : List (Nat × Bool) :=
  let m := argMasks w.opcode
  w.header ++ (List.range 6).map (fun i => (8 + 8 * i, (w.a i &&& m.getD i 0) == w.a i)) ++ [(56, w.f 56 8 == 0)]

/-- Steps 3 and 4 of R98 for an opcode of PF0, with its own limits. -/
def State.admChecks (s : State) (w : Work) (limits : List (Nat × Bool)) : Chk Unit := do
  needFn (s.tenantOf w.sq == 0)
  needFields (w.admFields ++ limits)

end Sys2Proof.Machine
end

