-- ==== Sys2Proof/Machine/MaintOps.lean ====
section
/-! DEFINITION. Maintenance, 0x0F00 to 0x0F09 (R84, R127, R59, R68, R38, R431, R439, R447, R450). -/

namespace Sys2Proof.Machine

open Sys2Proof

/-- NOP (0x0F00): every function may issue it; it returns the device time. -/
def performNop (w : Work) (s : State) : State := s.settleChk w (do
  needFields w.admFields
  return s.complete w stOk s.time)

/-- ERROR_RING_SETUP (0x0F01, R84): the ring moves; records not yet written go to the new one. -/
def performErrorRingSetup (w : Work) (s : State) : State := s.settleChk w (do
  let k := w.ab 1 0 5
  s.admChecks w [(8, w.a 0 % 4096 == 0), (16, decide (5 ≤ k ∧ k ≤ 16)), (32, w.a 3 % 4 == 0)]
  let g : ErrRing :=
    { base := w.a 0, k, vector := w.ab 1 16 11, countM1 := w.ab 2 0 8, timerUs := w.ab 2 8 10, consumer := w.a 3, prod := 0,
      seen := 0, unsig := 0 }
  let s := s.setErr { s.err with ring := some g, readOut := false }
  return (State.errDrain 66 s).errPoll.complete w stOk 0)

/-- PROFILE_CHANGE (0x0F02, R450): changes are carried out one at a time, in order. -/
def performProfileChange (w : Work) (s : State) : State := s.settleChk w (do
  s.admChecks w []
  let s := s.moveWork w .running
  let s := s.setFit { s.fit with profQueue := s.fit.profQueue ++ [(w.sq, w.d.cid.toNat, w.a 0)] }
  return if s.flag .globalProfile_switching then s else State.profNext s.fit.profQueue.length s)

/-! ## Units (R431, R439) -/

/-- The checks of RETIRE, RESTORE and SELF_TEST. -/
def State.unitChecks (s : State) (w : Work) : Chk Unit := s.admChecks w [(8, retirable (w.a 0))]

/-- RETIRE (0x0F03); of a unit already retired it has no effect. -/
def performRetire (w : Work) (s : State) : State := s.settleChk w (do
  s.unitChecks w
  return (s.retireUnit (w.a 0) 3).complete w stOk 0)

/-- The RESOURCE_RETIRED detail of a unit (R100); it lists none for a Bolt bank. -/
def retiredDetail (u : Nat) : Nat :=
  if u < 0x40 then 4 else if u < 0x110 then 2 else if u < 0x230 then 0 else if u < 0x320 then 1 else 3

/-- What a restored unit does at once (R439): a bank waits for the next lock, a rank or channel for the next cold reset. -/
def State.unitBack (s : State) (u : Nat) : State :=
  if u < 0x40 then if s.needleThere u && s.imagesOk u then s.intoService u else s
  else if u < 0x110 then
    let p := u - 0x100
    ((((s.wr .stcPipeState_retired p 0).wr .stcPipeState_lastTestFailed p 0).wr .stcPipeState_ready p 1).noteQuad
      (p / 4)).shuttleRun
  else if u < 0x230 then s.wr .boltBankState_retired (u - 0x200) 0
  else if u < 0x320 then s
  else if u < 0x404 then (s.wr .svPortState_retired (u - 0x400) 0).renegotiate (u - 0x400)
  else
    let p := (u - 0x410) / 4
    let s := s.wr .svPortState_laneRetired p (withBit (s.rd .svPortState_laneRetired p) (u % 4) false)
    if s.flag .svPortState_retired p then s else s.renegotiate p

/-- RETIRE_CLEAR (R439): the record, the emptied bucket, the unit back; a DDR5 channel or rank stays retired until the next cold
reset (R405). -/
def State.retireClear (s : State) (u : Nat) : State :=
  let ddr := decide (0x300 ≤ u ∧ u < 0x320)
  let s := s.setFit { s.fit with retired := if ddr then s.fit.retired else s.fit.retired.filter (fun r => r.1 != u),
                                 clearing := if ddr then s.fit.clearing ++ [u] else s.fit.clearing,
                                 latched := s.fit.latched.filter (fun r => r.1 != u) }
  let s := ((s.setBucket u []).logRecord u 2 0 0).report u 0x06 0 0 repFitter
  s.unitBack u

/-- A known-answer test of a pipeline has ended, passed or failed (R187, R358, R439). -/
def State.pipeTested (s : State) (u : Nat) (failed : Bool) : State :=
  if 0x100 ≤ u ∧ u < 0x110 then
    (s.wr .stcPipeState_lastTestFailed (u - 0x100) (b2n failed)).raiseTack (146 + (u - 0x100)) 0
  else s

/-- RESTORE (0x0F04): `flag` is whether the unit's test passed; a rank or channel has none to pass. -/
def performRestore (w : Work) (s : State) : State := s.settleChk w (do
  s.unitChecks w
  let u := w.a 0
  let passed := w.flag || decide (0x300 ≤ u ∧ u < 0x320)
  let s := s.pipeTested u (!passed)
  return if !passed then s.complete w stResourceRetired (resultOf 0xFF (retiredDetail u) u)
    else (if s.isRetired u then s.retireClear u else s).complete w stOk 0)

/-- SELF_TEST (0x0F05): a pipeline's test starts, or the descriptor joins the one that runs, and it ends with SELF_TEST_END
(R187); of any other unit `flag` is whether its test failed. A failed one makes the unit permanent (R435). -/
def performSelfTest (w : Work) (s : State) : State := s.settleChk w (do
  s.unitChecks w
  let u := w.a 0
  if 0x100 ≤ u ∧ u < 0x110 then
    let p := u - 0x100
    let s := if s.flag .stcPipeState_selfTest p then s else s.startTest p 0
    let s := s.setPipe p { s.pipe p with testFor := (s.pipe p).testFor ++ [(w.sq, w.d.cid.toNat)] }
    return s.moveWork w .running
  else return (if w.flag then s.latch u 2 else s).complete w stOk (b2n w.flag))

/-! ## Rings, vectors, tenants -/

/-- RING_RESTART (0x0F06, R59): a stopped SQ of the caller's, or any for PF0. -/
def performRingRestart (w : Work) (s : State) : State := s.settleChk w (do
  let tenant := s.tenantOf w.sq
  let n := w.ab 0 0 12
  needFn (tenant == 0 || s.ringOwner n == some tenant)
  needFields (w.admFields ++
    [(8, s.flag .ringSqState_stopped n && s.sqStarts n), (16, decide (w.ab 1 0 16 < 2 ^ s.rd .ringSqCfg_sizeLog2 n))])
  let s := s.setSq n { sqDefault n with started := true, pend := true }
  return ((s.wr .ringSqState_stopped n 0).wr .ringSqState_head n (w.ab 1 0 16)).complete w stOk 0)

/-- The class a pin names (RING_SQ_STATE.class encoding); none for no pin. -/
def pinClass (pin : Nat) : Option Nat :=
  if pin = 1 then some 2 else if pin = 2 then some 1 else if pin = 3 then some 0 else none

/-- RING_CLASS (0x0F07, R68): a pin is set or removed. -/
def performRingClass (w : Work) (s : State) : State := s.settleChk w (do
  s.admChecks w []
  let n := w.ab 0 0 12
  let s := s.wr .ringSqCfg_classPin n (w.ab 1 0 2)
  let s := match pinClass (w.ab 1 0 2) with
    | some c => s.wr .ringSqState_class n c
    | none => s
  return s.complete w stOk 0)

/-- VECTOR_RETARGET (0x0F08, R38): a message that waits for its vector is sent when the mask ends. -/
def performVectorRetarget (w : Work) (s : State) : State := s.settleChk w (do
  s.admChecks w []
  let v := w.ab 0 0 11
  let s := ((s.wr .msix_addr v (w.a 1)).wr .msix_data v (w.ab 2 0 32)).wr .msix_mask v (w.ab 2 32 1)
  return (s.sendUnmasked 0 v).complete w stOk 0)

/-- TENANT_LIMITS (0x0F09, R447): a minimum of 0 acts as 1. -/
def performTenantLimits (w : Work) (s : State) : State := s.settleChk w (do
  let weight := w.ab 1 0 16
  let lo := max 1 (w.ab 1 16 16)
  let hi := w.ab 1 32 16
  s.admChecks w [(16, decide (lo ≤ weight ∧ weight ≤ hi))]
  let f := w.ab 0 0 8
  let s := ((s.wr .fitTenant_weight f weight).wr .fitTenant_minimum f (w.ab 1 16 16)).wr .fitTenant_maximum f hi
  let s := s.wr .fitTenant_effective f weight
  let q : Quota := { entries := w.ab 2 0 25, sessions := w.ab 3 0 17, programs := w.ab 3 24 8 }
  return (s.setFit { s.fit with quotas := Store.put quotaDefault s.fit.quotas f q }).complete w stOk 0)

end Sys2Proof.Machine
end

