-- ==== Sys2Proof/Machine/MeshOps.lean ====
section
/-! DEFINITION. Mesh administration, 0x0701 to 0x0705 (R126, R417-R419, R423). -/

namespace Sys2Proof.Machine

open Sys2Proof

/-- A list of u16 device IDs. -/
def idList (bs : List Byte) (n : Nat) : List Nat := (List.range n).map (fun i => leAt bs (2 * i) 2)

/-- MESH_UNAVAILABLE with a detail and the device concerned. -/
def unavailable (detail d : Nat) : Fail := fail stMeshUnavailable 0xFF detail (d % 1024)

/-- JOIN (0x0701, R417 step 1); one that finds another in progress waits for its end. -/
def performJoin (w : Work) (s : State) : State := s.settleChk w (do
  let n := w.a 2
  s.admChecks w [(24, decide (1 ≤ n ∧ n ≤ 1023)), (0xFF, !s.joined)]
  if s.mesh.joining.isSome then return s.moveWork w .fenced
  else
    return s.readOr w (w.a 1) (2 * n) (0, 0) (fun bs =>
      let ids := idList bs n
      if ids.any (fun d => decide (d ≥ 1024)) then s.complete w stBadDescriptor (resultOf 16 0 0)
      else
        let s := (s.moveWork w .running).wr .svMeshState_deviceId 0 (w.a 0)
        let j : Joining := { peers := ids.eraseDups, answered := [], members := [], firstAt := none,
                             work := (w.sq, w.d.cid.toNat) }
        let s := s.setMesh { s.mesh with joining := some j }
        j.peers.foldl (fun s d =>
          (s.setPeer d { s.peer d with joining := true }).sendJoin d (.membership (.join j.peers s.shardDigest))) s))

/-- Everything that waits for the mesh ends, when this member leaves: writes, claims, hand-offs, configurations. -/
def State.endMeshWork (s : State) : State :=
  let r := resultOf 0xFF 1 s.myId
  let s := s.shardNums.foldl (fun s sh =>
    (s.shard sh).pend.foldl (fun s pw => s.dropWrite sh pw stMeshUnavailable r true) s) s
  let claims := s.mesh.shards.filterMap (fun e => e.2.claiming.bind (fun c => c.work))
  let waits := claims ++ s.mesh.forwarded.map (fun e => (e.2.2.1, e.2.2.2.1)) ++ s.mesh.confs.map (fun e => e.2.2)
  let s := s.setMesh { s.mesh with forwarded := [], confs := [] }
  let s := waits.foldl (fun s e => s.finish e.1 e.2 stMeshUnavailable r) s
  s.vault.sessions.foldl (fun s e => match e.2.migrating with
    | some (_, _, d, q) => s.endHandoff d q
    | none => s) s

/-- Does this member hold writes of its own as primary? -/
def State.pendsAsPrimary (s : State) : Bool :=
  s.mesh.shards.any (fun e => s.rd .svShard_role e.1 == 1 && !e.2.pend.isEmpty)

/-- LEAVE (0x0702, R418): with a0[0] it waits for the writes it holds as primary, so that the leave frame hands a settled
shard to the first live replica. -/
def performLeave (w : Work) (s : State) : State := s.settleChk w (do
  s.admChecks w []
  if bitOf (w.a 0) 0 && s.pendsAsPrimary then return s.moveWork w .fenced
  else return s.endMeshWork.leaveMesh.complete w stOk 0)

/-- SHARD_CONFIG (0x0703, R419): carried to every listed replica; the first live one claims the next epoch.
It waits for a claim of the shard that another descriptor made. -/
def performShardConfig (w : Work) (s : State) : State := s.settleChk w (do
  let sh := w.a 0
  let n := w.ab 1 0 4
  let k := w.ab 1 8 4
  s.admChecks w [(16, decide (1 ≤ n ∧ n ≤ 8 ∧ 1 ≤ k ∧ k ≤ n))]
  return s.readOr w (w.a 2) (2 * n) (0, 0) (fun bs => s.settleChk w (do
    let ids := idList bs n
    needField (ids.all (fun d => decide (d < 1024)) && ids.eraseDups.length == n) 24
    match ids.find? (fun d => d != s.myId && !(s.peer d).member) with
    | some d => .error (unavailable 1 d)
    | none =>
      if ((s.shard sh).claiming.bind (·.work)).isSome then return s.moveWork w .fenced
      let c : ShardConf := { shard := sh, replicas := ids, k, epoch := s.rd .svShard_epoch sh, primary := s.rd .svShard_primary sh }
      let s := (s.moveWork w .running).takeConfig s.myId c
      let s := (ids.filter (fun d => d != s.myId)).foldl (fun s d => s.sendTo d sh c.epoch (.membership (.config c))) s
      let e := c.epoch + 1
      if ids.find? s.liveMember = some s.myId then return s.startClaim sh e (some (w.sq, w.d.cid.toNat))
      else return s.setMesh { s.mesh with confs := s.mesh.confs ++ [(sh, c.epoch, w.sq, w.d.cid.toNat)] })))

/-- A SHARD_CONFIG whose claim another member makes completes once a claim of an epoch above the one it configured is known to
have succeeded (R419; log 42). -/
def State.confDone (s : State) (sh epoch : Nat) : Bool := decide (epoch < (s.shard sh).won)

/-- Completes the SHARD_CONFIG descriptors that are done. -/
def State.finishConfs (s : State) : State :=
  s.mesh.confs.foldl (fun s e =>
    if s.confDone e.1 e.2.1 then
      (s.setMesh { s.mesh with confs := s.mesh.confs.erase e }).finish e.2.2.1 e.2.2.2 stOk 0
    else s) s

/-- One record of MEMBER_QUERY (R418). -/
def State.memberRec (s : State) (d : Nat) : Bs :=
  if d = s.myId then toLe 2 d ++ [maskOf 4 s.portUp, 3] ++ toLe 4 0
  else
    let p := s.peer d
    let st := if p.lost then 1 else if p.member then 0 else 2
    toLe 2 d ++ [s.pathMask d, st] ++ toLe 4 (min ((s.time - p.heard) / 1000) (2 ^ 32 - 1))

/-- MEMBER_QUERY (0x0704): every known member in ascending order, this device included. -/
def performMemberQuery (w : Work) (s : State) : State := s.settleChk w (do
  s.admChecks w []
  let ids := ((List.range 1024).filter (fun d => d == s.myId || (s.peer d).member || (s.peer d).joining)).take 1024
  return (s.hostOut w (w.a 0) (bytesOf ((ids.map s.memberRec).flatten)) []).complete w stOk ids.length)

/-- TAKEOVER (0x0705, R423); a claim of the shard in progress is waited for. -/
def performTakeover (w : Work) (s : State) : State := s.settleChk w (do
  let sh := w.a 0
  s.admChecks w [(8, (s.replicasOf sh).contains s.myId)]
  let e := s.rd .svShard_epoch sh
  if s.rd .svShard_role sh == 1 then return s.complete w stOk e
  else if s.shardReloading sh then .error (unavailable 2 (s.rd .svShard_primary sh))
  else if (s.shard sh).claiming.isSome then return s.moveWork w .fenced
  else return (s.moveWork w .running).startClaim sh (e + 1) (some (w.sq, w.d.cid.toNat)))

end Sys2Proof.Machine
end

