-- ==== Sys2Proof/Machine/NdlMem.lean ====
section
/-! DEFINITION. Memory accesses of a Needle: checks at the trigger, bounds slots and windows, the store buffer and forwarding,
loads, gathers and scatters (R237-R242, R262-R269, R294, R312, R313, R317, R333, R334). -/

namespace Sys2Proof.Machine

open Sys2Proof

/-! ## Checks at the trigger (R240) -/

/-- An address operand that passed steps 1 to 4: its address field, the kind of its slot (0 for an absolute address), the
slot's bounds and window. -/
structure NPtr where
  addr : Nat
  kind : Nat
  base : Nat
  limit : Nat
  window : Nat
  high : Bool
  deriving DecidableEq, Repr

/-- The address range of a slot kind (R238). -/
def kindRange (kind : Nat) : Nat × Nat :=
  match kind with
  | 1 => (0, 0x40000)
  | 4 => (ddrBase, ddrBase + ddrWindow)
  | 6 => (0x40000, 0x80000)
  | _ => (boltBase, boltBase + boltSize)

/-- Is a byte address in a region of the internal map (R350)? -/
def inMap (a : Nat) : Bool :=
  decide (a < 0x80000) || decide (boltBase ≤ a ∧ a < boltBase + boltSize) || decide (ddrBase ≤ a ∧ a < ddrBase + ddrWindow)
    || decide (0xF000000000 ≤ a ∧ a < 0xF00000A000) || decide (0xFD00000000 ≤ a ∧ a < 0xFD00080000)
    || decide (0xFE00000000 ≤ a ∧ a < 0xFE00010000) || decide (0xFF00000000 ≤ a ∧ a < 0xFF00F00000)

/-- Does an access of `n` bytes at `a` reach the set-up register space? -/
def inSetup (a n : Nat) : Bool := meets a n 0xFF00000000 0xF00000

/-- Steps 1 to 4 of R240 for the address operand `p` of an access of `n` bytes; `data` are the tags of stored data, none for
a load. Stores to the set-up register space need Warden privilege, stores to the instruction store Keeper (R278, R317). -/
def ndPtr (x : Needle) (k : Nat) (p : Val) (n : Nat) (data : Option (List Tag)) : Except Flt NPtr :=
  let v := p.lo.toNat
  let addr := v % 2 ^ 48
  let bad (c : Nat) : Except Flt NPtr := .error (mkFlt c (some k) (some addr))
  let tags := data.getD []
  if !(p.tag == .ptr || (p.tag.isInt && decide (1 ≤ x.priv))) then bad cTag
  else if tags.any (fun t => t == .poison) then bad cTag
  else if p.tag = .ptr then
    let s := x.slot (ptrSlot p.lo)
    if s.kind != 5 && tags.any (fun t => t == .key) then bad cTag
    else if s.kind = 0 ∨ x.priv < s.minPriv ∨ (data.isSome ∧ s.kind = 6 ∧ x.priv = 0) then bad cPriv
    else if data.isSome && s.ro then bad cStore
    else .ok { addr, kind := s.kind, base := s.base, limit := s.limit, window := s.window, high := false }
  else if tags.any (fun t => t == .key) then bad cTag
  else if data.isSome && inSetup addr n && decide (v < 2 ^ 48) && decide (x.priv < 2) then bad cPriv
  else .ok { addr, kind := 0, base := 0, limit := 0, window := 0, high := decide (2 ^ 48 ≤ v) }

/-- A circular window in force: base offset and size (R333). -/
def State.winSize (s : State) (w : Nat) : Nat := s.rd .boltWin_size128 w * 128
def State.winBase (s : State) (w : Nat) : Nat := s.rd .boltWin_base w * 128

/-- Is a window usable: valid, of some size, wholly in the scratch partition (R334)? -/
def State.winOk (s : State) (w : Nat) : Bool :=
  s.flag .boltWin_valid w && decide (0 < s.winSize w) && s.bolt.lay.inScratch (s.winBase w) (s.winSize w)

/-- Steps 5 to 7 of R240 for an access of `size` bytes: the cause that refuses it. -/
def State.ndRange (s : State) (priv : Nat) (p : NPtr) (size : Nat) (store : Bool) : Option Nat :=
  let last := p.addr + size - 1
  let f := if store then cStore else cLoad
  let prot := decide (priv < 2) && decide (ddrBase ≤ p.addr) && decide (p.addr < ddrBase + ddrWindow)
    && s.ddrProtected (p.addr - ddrBase) size
  if p.kind = 3 then if s.winOk p.window then none else some cBounds
  else if p.kind = 0 then
    if p.high || !inMap p.addr || !inMap last || decide (0x40000 ≤ last ∧ p.addr < 0x80000) || prot
        || (store && decide (priv < 2) && inSetup p.addr size) then some f else none
  else if p.addr < p.base ∨ p.limit < p.addr + size then some cBounds
  else
    let r := kindRange p.kind
    if p.addr < r.1 ∨ r.2 < p.addr + size ∨ prot then some f else none

/-- EADDR of an access refused with cause `c`: the first byte of one that crosses a 64-byte line (R294), else its first
byte that is refused with that cause (R240). -/
def State.firstOut (s : State) (priv : Nat) (p : NPtr) (size : Nat) (store : Bool) (c : Nat) : Nat :=
  if 64 < p.addr % 64 + size then p.addr
  else p.addr + ((List.range size).find? (fun j =>
    s.ndRange priv { p with addr := p.addr + j } 1 store == some c)).getD 0

/-! ## Halves of an access (R294) -/

/-- The internal address of byte `j` of an access. -/
def State.ndByte (s : State) (p : NPtr) (j : Nat) : Nat :=
  if p.kind = 3 then boltBase + s.winBase p.window + (p.addr + j) % s.winSize p.window else p.addr + j

/-- The halves of an access: internal address and length of each; a 64-byte line and a window end split (R240, R294). -/
def State.ndHalves (s : State) (p : NPtr) (size : Nat) : List (Nat × Nat) :=
  let a := s.ndByte p 0
  let n := min size (64 - a % 64)
  let n := if p.kind = 3 then min n (s.winSize p.window - p.addr % s.winSize p.window) else n
  if n < size then [(a, n), (s.ndByte p n, size - n)] else [(a, size)]

/-! ## One half performed -/

/-- The Hub master of an engine: its cluster's port, or the Fitter's (R347). -/
def ndlMaster (n : Nat) : Nat := if n < 64 then n / 8 else 12

/-- A half that leaves the engine: through its Hub master, under R349, R327 and R328; the vault partition only through a
kind-5 slot; nothing of an engine that the Fitter has fenced after its lockup (R301). -/
def State.ndHub (s : State) (n kind priv a len : Nat) (data : Option (List Byte)) : Resp × List Byte × State :=
  let r : HubReq := { master := ndlMaster n, priv, id := 0, addr := a, size := len, data, met := .none }
  let p := s.hubDecode a
  let vault := match p with
    | .bolt _ o => (match s.bolt.lay.place o with | some q => q.part == 0 | none => false)
    | _ => false
  let odd := match p with | .bridge _ _ => !hubWellFormed r | _ => false
  if s.ndLocked n then (.refused, [], s.hubCount r .refused)
  else if p = .none then (.decerr, [], s.hubCount r .decerr)
  else if !s.hubPermits r.master priv p.gate then (.refused, [], (s.hubLog r 3).hubCount r .refused)
  else if vault && kind != 5 then (.refused, [], (s.countSat .boltStat_refused).hubCount r .refused)
  else if odd then (.decerr, [], s.hubCount r .decerr)
  else
    let s := (s.hubGrant r p.target).hubWake r
    let y := s.hubTarget r n p
    (y.1, y.2.1, y.2.2.hubCount r y.1)

/-- Must an access at `a` wait in the Hub: for maintenance, a sleeping bank or the write-back of a reset (R331, R341), behind an
earlier request of its master to the same target, or at its master's port, whose limit is reached (R352)? -/
def State.ndWaits (s : State) (n priv a : Nat) : Bool :=
  let m := ndlMaster n
  let t := (s.hubDecode a).target
  let mine := s.hub.waiting.filter (fun w => w.req.master == m)
  decide (0x80000 ≤ a) && !s.ndLocked n
    && (mine.any (fun w => (s.hubDecode w.req.addr).target == t)
      || decide (s.hubMax m ≤ s.hubOut m + (mine.filter (fun w => !w.orphan)).length)
      || s.hubTargetWaits { master := m, priv, id := 0, addr := a, size := 1, data := none, met := .none })

/-- The halves of an access that must wait. -/
def State.asleep (s : State) (n priv : Nat) (hs : List (Nat × Nat)) : List Nat :=
  (hs.map (·.1)).filter (s.ndWaits n priv)

/-- Bytes of the engine's own stores. -/
def Needle.dBytes (x : Needle) (a n : Nat) : List Byte := Store.slice zeroByte x.m.dstore a n
def Needle.iBytes (x : Needle) (a n : Nat) : List Byte := Store.slice zeroByte x.m.istore a n

/-- A half read. -/
def State.ndRead1 (s : State) (n kind priv a len : Nat) : Resp × List Byte × State :=
  if a < 0x40000 then (.ok, (s.nd n).dBytes a len, s)
  else if a < 0x80000 then (.ok, (s.nd n).iBytes (a - 0x40000) len, s)
  else s.ndHub n kind priv a len none

/-- A half written. -/
def State.ndWrite1 (s : State) (n kind priv a : Nat) (bs : List Byte) : Resp × State :=
  let x := s.nd n
  if a < 0x40000 then (.ok, s.setNd n { x with m := { x.m with dstore := Store.putAll zeroByte x.m.dstore a bs } })
  else if a < 0x80000 then
    (.ok, s.setNd n { x with m := { x.m with istore := Store.putAll zeroByte x.m.istore (a - 0x40000) bs } })
  else
    let y := s.ndHub n kind priv a bs.length (some bs)
    (y.1, y.2.2)

/-- The cause a failed access raises (R242). -/
def respCause (r : Resp) (store : Bool) : Nat := if r = .ecc then cEcc else if store then cStore else cLoad

/-- An access read: its bytes, or the cause and the first byte of the failing half (R242, R294). -/
def State.ndRead (s : State) (n priv : Nat) (p : NPtr) (size : Nat) : Except (Nat × Nat) (List Byte) × State :=
  (s.ndHalves p size).foldl (fun (r : Except (Nat × Nat) (List Byte) × State) h =>
    match r.1 with
    | .error e => (.error e, r.2)
    | .ok bs =>
      let y := r.2.ndRead1 n p.kind priv h.1 h.2
      if y.1 = .ok then (.ok (bs ++ y.2.1), y.2.2)
      else (.error (respCause y.1 false, h.1), y.2.2)) (.ok [], s)

/-! ## The store buffer (R241, R312) -/

/-- What the store buffer gives a load. -/
inductive FwdRes where
  | memory
  | data (bs : List Byte)
  | stall
  deriving DecidableEq, Repr

/-- The stores of the buffer, oldest first, each as its entries: the halves of a split store are one store. -/
def storesOf : List SbEnt → List (List SbEnt)
  | [] => []
  | e :: es =>
    match storesOf es with
    | (f :: fs) :: rest =>
      if e.seq = f.seq ∧ e.move = f.move ∧ e.elem = f.elem then (e :: f :: fs) :: rest else [e] :: (f :: fs) :: rest
    | l => [e] :: l

/-- The byte a store holds for an address. -/
def storeByte (st : List SbEnt) (a : Nat) : Option Byte :=
  (st.find? (fun e => decide (e.addr ≤ a ∧ a < e.addr + e.data.length))).map (fun e => e.data.getD (a - e.addr) 0)

/-- A load against the store buffer: forwarded from the newest store it meets when all its bytes lie in it (on A1 only when
address and size are equal), held while it meets others. -/
def State.forward (s : State) (n : Nat) (p : NPtr) (size : Nat) : FwdRes :=
  let hs := s.ndHalves p size
  match (storesOf (s.nd n).m.sbuf).reverse.find? (fun st =>
      st.any (fun e => hs.any (fun h => meets h.1 h.2 e.addr e.data.length))) with
  | none => .memory
  | some st =>
    let bs := (hs.map (fun h => (List.range h.2).map (fun j => storeByte st (h.1 + j)))).flatten
    let ok := if s.part = .a1 then hs == st.map (fun e => (e.addr, e.data.length)) else bs.all Option.isSome
    if ok then .data (bs.filterMap id) else .stall

/-- Halfword addresses of the instruction store a half touches. -/
def halfwords (a len : Nat) : List Nat :=
  if len = 0 then [] else (List.range ((a + len - 1) / 2 - a / 2 + 1)).map (fun i => (a / 2 + i) * 2)

/-- The versions of a halfword: oldest first, and how many the latest bundle made (R317). -/
def Needle.versions (x : Needle) (h : Nat) : List Nat × Nat :=
  match x.m.stale.find? (fun e => e.1 == h) with
  | some e => e.2
  | none => ([ofLe (x.iBytes h 2)], 0)

/-- A store to the instruction store adds a version to every halfword it touches. -/
def Needle.addVersions (x : Needle) (a : Nat) (bs : List Byte) : Needle :=
  (halfwords a bs.length).foldl (fun x h =>
    let v := x.versions h
    let old := leBytes 2 (v.1.getLastD 0)
    let new := ofLe ((List.range 2).map (fun i =>
      if a ≤ h + i ∧ h + i < a + bs.length then bs.getD (h + i - a) 0 else old.getD i 0))
    { x with m := { x.m with stale := (x.m.stale.filter (fun e => e.1 != h)) ++ [(h, v.1 ++ [new], v.2 + 1)] } }) x

/-- The latest bundle's versions become fetchable (R317). -/
def Needle.ageVersions (x : Needle) : Needle :=
  { x with m := { x.m with stale := x.m.stale.map (fun e => (e.1, e.2.1, 0)) } }

/-- Discarded stores take the versions they made with them. -/
def Needle.dropVersions (x : Needle) (es : List SbEnt) : Needle :=
  { x with m := { x.m with stale := x.m.stale.map (fun e =>
      let gone := (es.filter (fun d => d.kind == 6 && (halfwords (d.addr - 0x40000) d.data.length).contains e.1)).length
      (e.1, e.2.1.take (max 1 (e.2.1.length - gone)), e.2.2 - gone)) } }

/-- Puts one half in the store buffer. -/
def Needle.buffer (x : Needle) (e : SbEnt) : Needle :=
  let x := { x with m := { x.m with sbuf := x.m.sbuf ++ [e] } }
  if e.kind = 6 then x.addVersions (e.addr - 0x40000) e.data else x

/-- The entries of an access of `bs` at `p` triggered by move `k` of the bundle of number `seq`; those of a scatter keep its
trigger's bundle. -/
def State.sbEntries (s : State) (n k seq : Nat) (p : NPtr) (bs : List Byte) (elem : Option (Restart × Nat)) : List SbEnt :=
  let x := s.nd n
  let bundle := match elem with | some e => e.1.bundle | none => x.pc
  ((s.ndHalves p bs.length).foldl (fun (r : List SbEnt × Nat) h =>
    (r.1 ++ [{ addr := h.1, data := sub bs r.2 h.2, kind := p.kind, priv := x.priv, bundle, move := k, seq, elem }],
     r.2 + h.2)) ([], 0)).1

/-- Stores of bundles before this one are still buffered. -/
def Needle.olderStores (x : Needle) : Bool := x.m.sbuf.any (fun e => e.seq != x.seq)

/-- Has the store buffer room for `need` entries? Stores of one bundle that need more than eight wait for those of earlier bundles
to drain, and their own oldest drain while the bundle goes on. -/
def Needle.sbRoom (x : Needle) (need : Nat) : Bool := decide (x.m.sbuf.length + need ≤ 8) || !x.olderStores

/-- The addresses whose banks a bundle must find awake before `es` enter the buffer. -/
def State.sbWakes (s : State) (n : Nat) (es : List SbEnt) : List Nat :=
  let x := s.nd n
  if x.m.sbuf.length + es.length ≤ 8 then [] else ((x.m.sbuf ++ es).map (·.addr)).filter (s.ndWaits n x.priv)

/-- A store fails after its trigger: later stores in the buffer are discarded, the fault waits for the next boundary
(R242); a scatter's is an element fault (R265). -/
def State.storeFails (s : State) (n : Nat) (e : SbEnt) (cause : Nat) : State :=
  let x := s.nd n
  let f : Flt :=
    match e.elem with
    | some _ => { mkFlt cElement (some e.move) (some e.addr) with bundle := some e.bundle }
    | none => { mkFlt cause none (some e.addr) with bundle := some e.bundle, imprecise := decide (e.seq + 1 < x.seq) }
  let ef := e.elem.map (fun r => ({ rec_ := r.1, element := r.2, cause, addr := e.addr } : ElemFlt))
  let x := x.dropVersions x.m.sbuf
  s.setNd n { x with m := { x.m with sbuf := [] }, x := { x.x with storeFlt := some (f, ef) } }

/-- The oldest store is performed (R241). -/
def State.storeOne (s : State) (n : Nat) : State :=
  let x := s.nd n
  match x.m.sbuf with
  | [] => s
  | e :: es =>
    if s.ndWaits n e.priv e.addr then s.hubWakeAt e.addr
    else
      let s := s.setNd n { x with m := { x.m with sbuf := es } }
      let y := s.ndWrite1 n e.kind e.priv e.addr e.data
      if y.1 = .ok then y.2 else y.2.storeFails n e (respCause y.1 true)

/-- Puts the entries of a scatter in the buffer. Where it is full the oldest store is performed first; a store that fails
ends the scatter there (R242, R265). -/
def State.bufferAll (s : State) (n : Nat) (es : List SbEnt) : State :=
  es.foldl (fun s e =>
    let s := if (s.nd n).m.sbuf.length < 8 then s else s.storeOne n
    if (s.nd n).x.storeFlt.isSome then s else s.setNd n ((s.nd n).buffer e)) s

/-- Every buffered store is performed in order. -/
def State.storeAll (s : State) (n : Nat) : State :=
  (List.range (s.nd n).m.sbuf.length).foldl (fun s _ => s.storeOne n) s

/-! ## Triggers -/

/-- What a trigger does at its bundle: its effect with the stores to NDL_CTRL it may hold (offset, size, values), a transport
fault, or a hold of the bundle (R305) with the addresses whose banks it wakes. -/
inductive Trig where
  | ok (s : State) (own : Option (Nat × Nat × List Nat))
  | fault (f : Flt) (ef : Option ElemFlt := none)
  | hold (wake : List Nat := [])

/-- Loads in flight: queued ones of both banks, direct ones (R239). -/
def Needle.loadsOut (x : Needle) : Nat :=
  ((x.q 0 .lsu).filter (fun e => !e.ready)).length + ((x.q 1 .lsu).filter (fun e => !e.ready)).length + x.m.directs.length

/-- Bytes of an LSU operation. -/
def lsuSize (off : Nat) : Nat :=
  match off with
  | 0x0A | 0x0B | 0x11 => 1
  | 0x0C | 0x0D | 0x12 => 2
  | 0x0E | 0x0F | 0x13 => 4
  | 0x10 | 0x14 | 0x16 => 16
  | 0x17 => 128
  | _ => 8

/-- Is an LSU operation a store? -/
def lsuStores (off : Nat) : Bool := off == 9 || decide (0x11 ≤ off ∧ off ≤ 0x14)

/-- The value a queued load gives (R239). -/
def loadValue (off : Nat) (bs : List Byte) : W128 :=
  let v := ofLe bs
  let w := 8 * bs.length
  if off = 0x0A ∨ off = 0x0C ∨ off = 0x0E then
    BitVec.ofNat 128 (if v.testBit (w - 1) then v + 2 ^ 64 - 2 ^ w else v)
  else BitVec.ofNat 128 v

/-- What a load that passed its checks gets: its data or failure, or a hold with the addresses whose banks it wakes. -/
inductive Fetched where
  | held (wake : List Nat)
  | got (r : Except (Nat × Nat) (List Byte)) (s : State)

/-- The data of an access that passed its checks: forwarded, or as memory answers. DESIGN CHOICE (log 110): a load whose bank
sleeps or is under maintenance waits with its bundle at T. -/
def State.ndFetchData (s : State) (n : Nat) (p : NPtr) (size : Nat) : Fetched :=
  match s.forward n p size with
  | .stall => .held []
  | .data bs => .got (.ok bs) s
  | .memory =>
    let w := s.asleep n (s.nd n).priv (s.ndHalves p size)
    if w.isEmpty then let y := s.ndRead n (s.nd n).priv p size; .got y.1 y.2 else .held w

/-- The first byte of each half of an access. -/
def State.halfStarts (s : State) (p : NPtr) (size : Nat) : List Nat := (s.ndHalves p size).map (·.1)

/-- The first byte of the half that failed; which half of a split access did is free (R294). -/
def State.failedHalf (s : State) (l : List Nat) : Nat × State :=
  match l with
  | [a, b] => let f := s.fresh 1; (if f.1 = 0 then a else b, f.2)
  | _ => (l.headD 0, s)

/-- A queued load (R239). -/
def State.trigLoad (s : State) (n k off : Nat) (a : Val) : Trig :=
  let x := s.nd n
  let size := lsuSize off
  match ndPtr x k a size none with
  | .error f => .fault f
  | .ok p =>
    match s.ndRange x.priv p size false with
    | some c => .fault (mkFlt c (some k) (some (s.firstOut x.priv p size false c)))
    | none =>
      if x.loadsOut ≥ 8 then .fault (mkFlt cOverrun (some k))
      else
        match s.ndFetchData n p size with
        | .held w => .hold w
        | .got r s =>
          let tag := if p.kind = 5 then Tag.key else .raw
          let e := match r with
            | .ok bs => { qFlight ⟨loadValue off bs, tag⟩ with addrs := s.halfStarts p size }
            | .error e => { qFlight (intVal 0) with flt := some { mkFlt e.1 none (some e.2) with pop := true } }
          match (s.nd n).push .lsu [e] with
          | .ok y => .ok (s.setNd n y) none
          | .error c => .fault (mkFlt c (some k))

/-- A direct-write load (R239). -/
def State.trigDirect (s : State) (n k off : Nat) (a dst : Val) : Trig :=
  let x := s.nd n
  let size := lsuSize off
  let r := dst.lo.toNat % 128
  if !dst.tag.isInt then .fault (mkFlt cTag (some k))
  else if r ≥ 96 then .fault (mkFlt cDecodeForm (some k))
  else
    match ndPtr x k a size none with
    | .error f => .fault f
    | .ok p =>
      if r < 64 ∧ p.kind = 5 then .fault (mkFlt cTag (some k))
      else
        match s.ndRange x.priv p size false with
        | some c => .fault (mkFlt c (some k) (some (s.firstOut x.priv p size false c)))
        | none =>
          if x.loadsOut ≥ 8 then .fault (mkFlt cOverrun (some k))
          else
            match s.ndFetchData n p size with
            | .held w => .hold w
            | .got res s =>
              let mask : W128 := if r < 64 then BitVec.ofNat 128 (2 ^ 64 - 1) else BitVec.allOnes 128
              let (bs, bad) := match res with | .ok bs => (bs, none) | .error e => ([], some e)
              let d : Direct :=
                { dsts := [(r, mask, BitVec.ofNat 128 (ofLe bs))], tag := if p.kind = 5 then .key else .raw,
                  addrs := s.halfStarts p size, bad, gather := none, w := 0, fail := none, ff := false, elems := [] }
              let y := s.nd n
              .ok (s.setNd n { y with m := { y.m with directs := y.m.directs ++ [d] } }) none

/-- Offset of an engine's NDL_CTRL in the set-up register space (R322). -/
def ndlCtrlAt (n : Nat) : Nat := 0x800000 + 0x10000 * n

/-- Is it a store to the engine's own NDL_CTRL (R321)? Only an absolute address reaches it. -/
def ownCtrlStore (n : Nat) (p : NPtr) (size : Nat) : Bool :=
  decide (n < 64 ∧ p.kind = 0 ∧ p.addr = 0xFF00000000 + ndlCtrlAt n) && (size == 4 || size == 8)

/-- Stored bytes that passed their checks: to the engine's own NDL_CTRL in the bundle itself, once older stores have drained
(R321); else to the buffer. -/
def State.putStore (s : State) (n k : Nat) (p : NPtr) (bs : List Byte) : Trig :=
  let x := s.nd n
  if ownCtrlStore n p bs.length then
    if x.olderStores then .hold else .ok s (some (ndlCtrlAt n, bs.length, [ofLe bs]))
  else
    let es := if bs.isEmpty then [] else s.sbEntries n k x.seq p bs none
    let wake := s.sbWakes n es
    if !x.sbRoom es.length || !wake.isEmpty then .hold wake
    else if x.m.sbuf.length + es.length ≤ 8 then .ok (s.setNd n (es.foldl Needle.buffer x)) none
    else .ok (s.bufferAll n es) none

/-- A store (R239, R241). -/
def State.trigStore (s : State) (n k off : Nat) (a b : Val) : Trig :=
  let x := s.nd n
  let size := lsuSize off
  match ndPtr x k a size (some [b.tag]) with
  | .error f => .fault f
  | .ok p =>
    match s.ndRange x.priv p size true with
    | some c => .fault (mkFlt c (some k) (some (s.firstOut x.priv p size true c)))
    | none => s.putStore n k p (leBytes size (b.v.toNat % 256 ^ size))

/-- LSU.t.pf (R239, R313): tag and privilege are checked; on B0 the line of a DDR5 address is fetched into the cache; one beyond
the usable size is answered DECERR, which is counted and logged (R351). -/
def State.trigPrefetch (s : State) (n k : Nat) (a : Val) : Trig :=
  let x := s.nd n
  match ndPtr x k a 128 none with
  | .error f => .fault { f with addr := none }
  | .ok p =>
    let line := { p with addr := p.addr / 128 * 128 }
    if s.part ≠ .a1 && (p.kind == 0 || p.kind == 4) && (s.ndRange x.priv line 128 false).isNone
        && decide (ddrBase ≤ p.addr ∧ p.addr < ddrBase + ddrWindow) then
      let r : HubReq := { master := ndlMaster n, priv := x.priv, id := 0, addr := line.addr, size := 128, data := none,
                          met := .none }
      if s.ddrUsable ≤ line.addr - ddrBase then .ok (s.hubCount r .decerr) none
      else if s.cacheSets = 0 then .ok s none
      else if s.ndWaits n x.priv line.addr then .hold [line.addr]
      else .ok ((s.hubGrant r (s.hubDecode line.addr).target).cacheFill n ((p.addr - ddrBase) / 128)).2 none
    else .ok s none

/-- LSU.t.bset (R238). -/
def State.trigBset (s : State) (n k : Nat) (a b c : Val) : Trig :=
  if !([a, b, c].all (fun v => v.tag.isInt)) then .fault (mkFlt cTag (some k))
  else
    let v := c.lo.toNat
    let kind := bitsOf v 8 4
    if kind > 6 then .fault (mkFlt cBounds (some k))
    else
      let x := s.nd n
      let slot : Slot := { base := a.lo.toNat, limit := b.lo.toNat, kind, ro := bitOf v 12, window := bitsOf v 16 6,
                           minPriv := bitsOf v 24 2 }
      .ok (s.setNd n { x with m := { x.m with slots := Store.put slotDefault x.m.slots (v % 64) slot } }) none

/-- The LSU by trigger offset. -/
def State.trigLsu (s : State) (n k off : Nat) (a b c dst : Val) : Trig :=
  if off = 0x18 then s.trigBset n k a b c
  else if off = 0x17 then s.trigPrefetch n k a
  else if lsuStores off then s.trigStore n k off a b
  else if off = 0x15 ∨ off = 0x16 then s.trigDirect n k off a dst
  else s.trigLoad n k off a

/-! ## VEC memory forms (R262-R269) -/

/-- Does a register carry KEY, now or by a pending direct write (R262)? -/
def Needle.keyReg (x : Needle) (r : Nat) : Bool :=
  (x.reg r).tag == .key || x.m.directs.any (fun d => d.tag == .key && d.dsts.any (fun t => t.1 == r))

/-- A structure or unit-stride load (R263). -/
def State.vecLoad (s : State) (n k off : Nat) (p : NPtr) (vd ew : Val) : Trig :=
  let x := s.nd n
  let w := vecW ew
  let cnt := min x.u.vl (vlMax w)
  let nf := vecFields off
  let size := nf * cnt * (w / 8)
  match s.ndRange x.priv p size false with
  | some c => .fault (mkFlt c (some k) (some (s.firstOut x.priv p size false c)))
  | none =>
    if x.loadsOut ≥ 8 then .fault (mkFlt cOverrun (some k))
    else
      match s.ndFetchData n p size with
      | .held w => .hold w
      | .got r s =>
        let (bs, bad) := match r with | .ok bs => (bs, none) | .error e => ([], some e)
        let v0 := vd.lo.toNat % 32
        let dsts := (List.range nf).map (fun f => (64 + v0 + f, lowMask (cnt * w), vecField bs w cnt nf f))
        let d : Direct := { dsts, tag := if p.kind = 5 then .key else .raw, addrs := s.halfStarts p size, bad, gather := none, w,
                            fail := none, ff := false, elems := [] }
        let y := s.nd n
        .ok (s.setNd n { y with m := { y.m with directs := y.m.directs ++ [d] } }) none

/-- A structure or unit-stride store (R263). -/
def State.vecStore (s : State) (n k off : Nat) (p : NPtr) (b vd ew : Val) : Trig :=
  let x := s.nd n
  let w := vecW ew
  let cnt := min x.u.vl (vlMax w)
  let nf := vecFields off
  let regs := if off = 0x31 then [b.v] else (List.range nf).map (fun f => (x.reg (64 + vd.lo.toNat % 32 + f)).v)
  let bs := vecStoreBytes regs w cnt
  match s.ndRange x.priv p bs.length true with
  | some c => .fault (mkFlt c (some k) (some (s.firstOut x.priv p bs.length true c)))
  | none => s.putStore n k p bs

/-- How the elements of a gather or scatter came out of steps 5 to 7: elements done with their bytes, and the first element
fault: its number, cause and address; `wake` are the addresses a held element waits for. -/
structure ElemRun where
  held : Bool
  wake : List Nat
  done : List (Nat × List Byte)
  fail : Option (Nat × Nat × Nat)
  /-- a failure the memory reports later -/
  late : Option (Nat × Nat × Nat)
  /-- the first byte of each half of an element -/
  elems : List (Nat × List Nat)

/-- The address operand of element `i`, whose slot the record's pointer names. -/
def elemPtr (p : NPtr) (r : Restart) (i : Nat) : NPtr := { p with addr := vecElemAddr r.p r.a (vecW r.ew) i % 2 ^ 48 }

/-- Runs the elements of a gather from `start`, in ascending order (R265). -/
def State.gatherRun (s : State) (n : Nat) (p : NPtr) (r : Restart) (start : Nat) : ElemRun × State :=
  let es := vecW r.ew / 8
  (List.range' start (r.n - start)).foldl (fun (g : ElemRun × State) i =>
    if g.1.held || g.1.fail.isSome then g
    else
      let q := elemPtr p r i
      match g.2.ndRange (s.nd n).priv q es false with
      | some c => ({ g.1 with fail := some (i, c, g.2.firstOut (s.nd n).priv q es false c) }, g.2)
      | none =>
        match g.2.ndFetchData n q es with
        | .held w => ({ g.1 with held := true, wake := w }, g.2)
        | .got (.ok bs) s =>
          ({ g.1 with done := g.1.done ++ [(i, bs)], elems := g.1.elems ++ [(i, s.halfStarts q es)] }, s)
        | .got (.error e) s =>
          ({ g.1 with done := g.1.done ++ [(i, [])], elems := g.1.elems ++ [(i, s.halfStarts q es)],
                      late := g.1.late.or (some (i, e.1, e.2)) }, s))
    ({ held := false, wake := [], done := [], fail := none, late := none, elems := [] }, s)

/-- A pending element fault of precise form, with the fault that takes it (R265, R266). -/
def elemFault (r : Restart) (e : Nat × Nat × Nat) : Flt × ElemFlt :=
  ({ mkFlt cElement (some r.move) (some e.2.2) with bundle := some r.bundle },
   { rec_ := r, element := e.1, cause := e.2.1, addr := e.2.2 })

/-- A gather, fresh or resumed at `start` (R263-R269). -/
def State.gather (s : State) (n : Nat) (p : NPtr) (r : Restart) (start : Nat) : Trig :=
  let ff := r.form == 0x39
  let w := vecW r.ew
  let (g, s) := s.gatherRun n p r start
  if g.held then .hold g.wake
  else
        let pushed := ff && !(match g.fail with | some e => e.1 == 0 | none => false)
        let x := s.nd n
        let x := if pushed then x.setQ x.bank .vec (x.q x.bank .vec ++ [{ qFlight (intVal 0) with mark := 1 }]) else x
        let lanes := fun (i : Nat) => match g.done.find? (fun e => e.1 == i) with | some e => laneBytes e.2 | none => 0
        let mask := (g.done.map (fun e => lowMask w <<< (w * e.1))).foldl (· ||| ·) 0
        let d : Direct :=
          { dsts := [(64 + r.vd.lo.toNat % 32, mask, ofLanes w (vlMax w) lanes)], tag := if p.kind = 5 then .key else .raw,
            addrs := [], bad := none, gather := some r, w, fail := g.late.or g.fail, ff, elems := g.elems }
        let x := { x with m := { x.m with directs := x.m.directs ++ [d] } }
        -- a precise fault found at the trigger waits for the boundary after the bundle
        let x := match g.fail with
          | some e => if pushed then x else { x with x := { x.x with deferred := some (elemFault r e).2 } }
          | none => x
        .ok (s.setNd n x) none

/-- What the elements of a scatter from `start` store: the entries before the first store to the engine's own NDL_CTRL, those
stores, the entries after it (all entries are `es` where there is none), and the first element that fails its checks. -/
structure ScatterRun where
  pre  : List SbEnt
  es   : List SbEnt
  own  : Option (Nat × Nat × List Nat)
  fail : Option (Nat × Nat × Nat)

def State.scatterRun (s : State) (n seq : Nat) (p : NPtr) (r : Restart) (start : Nat) : ScatterRun :=
  let x := s.nd n
  let w := vecW r.ew
  (List.range' start (r.n - start)).foldl (fun (g : ScatterRun) i =>
    if g.fail.isSome then g
    else
      let q := elemPtr p r i
      let bs := leBytes (w / 8) (laneOf w r.b.v i)
      match s.ndRange x.priv q (w / 8) true with
      | some c => { g with fail := some (i, c, s.firstOut x.priv q (w / 8) true c) }
      | none =>
        if ownCtrlStore n q bs.length then
          match g.own with
          | some o => { g with own := some (o.1, o.2.1, o.2.2 ++ [ofLe bs]) }
          | none => { g with pre := g.es, es := [], own := some (ndlCtrlAt n, bs.length, [ofLe bs]) }
        else { g with es := g.es ++ s.sbEntries n r.move seq q bs (some (r, i)) })
    { pre := [], es := [], own := none, fail := none }

/-- A scatter, fresh or resumed at `start`, of the bundle of number `seq`. One of more than eight entries drains its first
ones while it goes on, so it waits for their banks too; the elements before one that stores to the engine's own NDL_CTRL are
performed before that (R263, R321). -/
def State.scatter (s : State) (n seq : Nat) (p : NPtr) (r : Restart) (start : Nat) : Trig :=
  let x := s.nd n
  let y := s.scatterRun n seq p r start
  let wake := (y.pre.map (·.addr)).filter (s.ndWaits n x.priv) ++ s.sbWakes n y.es
  if !x.sbRoom y.es.length || (y.own.isSome && x.olderStores) || !wake.isEmpty then .hold wake
  else
    let s := (s.bufferAll n y.pre)
    let s := if y.own.isSome then s.storeAll n else s
    if (s.nd n).x.storeFlt.isSome then .ok s none
    else
      let s := s.bufferAll n y.es
      let x := s.nd n
      .ok (match y.fail with
        | some e => if x.x.storeFlt.isSome then s else s.setNd n { x with x := { x.x with deferred := some (elemFault r e).2 } }
        | none => s) y.own

/-- The scoreboard bit of a register (R306). -/
def Needle.busyReg (x : Needle) (r : Nat) : Bool := x.m.directs.any (fun d => d.dsts.any (fun t => t.1 == r))

/-- The record of a failed load that names one of these registers, and its place (R242). -/
def Needle.failedLoad (x : Needle) (rs : List Nat) : Option (Nat × Flt × Option ElemFlt) :=
  match x.m.regFlts.findIdx? (fun e => rs.any (fun r => e.1.contains r)) with
  | none => none
  | some i => (x.m.regFlts[i]?).map (fun e => (i, e.2))

/-- The fault a bundle meets there: an element fault keeps the bundle and move of its trigger, another names the reading
move. -/
def loadFault (k : Nat) (e : Nat × Flt × Option ElemFlt) : Flt × Option ElemFlt :=
  ((if e.2.2.isSome then { e.2.1 with load := some e.1 } else { e.2.1 with move := some k, load := some e.1 }), e.2.2)

/-- Does an element of a scatter reach the set-up register space below Warden privilege (R278)? -/
def setupElem (x : Needle) (p : NPtr) (r : Restart) : Bool :=
  p.kind == 0 && decide (x.priv < 2)
    && (List.range r.n).any (fun i => inSetup (elemPtr p r i).addr (vecW r.ew / 8))

/-- The memory forms at their trigger, with the checks of R262 in its order. A form that stores V registers waits for
their loads pending before the bundle (`busy`) and meets the faults of failed ones first. -/
def State.trigVecMem (s : State) (n k off : Nat) (busy : Nat → Bool) (a b ew p vd : Val) : Trig :=
  let x := s.nd n
  let stores := vecStores off
  let nf := vecFields off
  let w := vecW ew
  let cnt := min x.u.vl (vlMax w)
  let v := vd.lo.toNat
  let bad (c : Nat) : Trig := .fault (mkFlt c (some k))
  let useVd := off != 0x31 && off != 0x3A
  let vs := (List.range nf).map (fun f => 64 + v % 32 + f)
  let rs := if stores && useVd then vs else []
  let data := if !useVd then [b.tag] else rs.map (fun r => (x.reg r).tag)
  if !ew.tag.isInt then bad cTag
  else if useVd && !vd.tag.isInt then bad cTag
  else if useVd && (decide (32 ≤ v) || decide (31 < v % 32 + nf - 1)) then bad cDecodeForm
  else
    match x.failedLoad rs with
    | some e => let f := loadFault k e; .fault f.1 f.2
    | none =>
      if rs.any busy then .hold
      else
        match ndPtr x k p (if vecIndexed off then 0 else nf * cnt * (w / 8))
            (if stores then some (data.filter (· == .key)) else none) with
        | .error f => .fault f
        | .ok q =>
          let r : Restart := { form := off, p, a, b, vd, ew, n := cnt, bundle := x.pc, move := k }
          if off = 0x3A && setupElem x q r then bad cPriv
          else if vecIndexed off && !(TagClass.fpu.accepts a.tag) then bad cTag
          else if stores && data.any (· == .poison) then bad cTag
          else if !stores && q.kind != 5 && vs.any x.keyReg then bad cTag
          else if off = 0x3A then s.scatter n x.seq q r 0
          else if vecIndexed off then
            if x.loadsOut ≥ 8 || (off == 0x39 && decide (NUnit.vec.depth ≤ (x.q x.bank .vec).length)) then bad cOverrun
            else s.gather n q r 0
          else if stores then s.vecStore n k off q b vd ew
          else s.vecLoad n k off q vd ew

/-- The held operation resumes at VSTART.element (R269): pending clears, element returns to 0; steps 1 to 4 are taken
afresh for the record's pointer. Where older stores or a bank hold it, it stays due. -/
def State.resume (s : State) (n : Nat) : State :=
  let x := s.nd n
  match x.u.restart with
  | none => s.setNd n { x with x := { x.x with resuming := false } }
  | some r =>
    let e := x.u.vsElem
    let y := { x with u := { x.u with restart := none, vsElem := 0 }, x := { x.x with resuming := false } }
    let t := s.setNd n y
    if r.n ≤ e then t
    else
      match ndPtr y r.move r.p 0 (if r.form = 0x3A then some [r.b.tag] else none) with
      | .error f =>
        let d : ElemFlt := { rec_ := r, element := e, cause := if r.form = 0x3A then cStore else cLoad, addr := f.addr.getD 0 }
        t.setNd n { y with x := { y.x with deferred := some d } }
      | .ok p =>
        match (if r.form = 0x3A then t.scatter n (y.seq - 1) p r e else t.gather n p r e) with
        | .ok u own =>
          match own with
          | some o => o.2.2.foldl (fun u v =>
              (u.regWrite { fn := 0, writer := .warden, offset := o.1, size := o.2.1, value := v }).1) u
          | none => u
        | .fault _ _ => t
        | .hold w => w.foldl State.hubWakeAt (s.setNd n { x with x := { x.x with resuming := true } })

/-! ## Returns (R239, R242, R265-R267) -/

/-- The cause a memory answer names. -/
def ansCause (a : MemAnswer) : Option Nat := match a with | .ok => none | .fault => some cLoad | .ecc => some cEcc

/-- Marks the oldest load of a queue that has not returned; `c` is the cause and address of a failure its memory reports. -/
def returnOldest (c : Option (Nat × Nat)) : List QEnt → Option (List QEnt)
  | [] => none
  | e :: es =>
    if e.ready then (returnOldest c es).map (e :: ·)
    else
      let flt := e.flt.or (c.map (fun c => { mkFlt c.1 none (some c.2) with pop := true }))
      some ({ e with ready := true, flt } :: es)

/-- The oldest load of a queue that has not returned. -/
def oldestLoad (l : List QEnt) : Option QEnt := l.find? (fun e => !e.ready)

/-- The memory of an access reports an uncorrectable error: the engine's own stores in its bucket (R433), the Bolt and DDR5 as
R337, R338 and R401 give, with the engine as reporter. Answers whether the access sees no error: a clean line of the cache
was filled again. -/
def State.ndEcc (s : State) (n a : Nat) : Bool × State :=
  if a < 0x80000 then (false, if n < 64 then s.placedEvent n 0x02 (a / 64) 1 else s) else s.eccAt .double a n

/-- What memory reports of an access with these halves: the cause and the address of its failing half (R242, R294). -/
def State.memFails (s : State) (n : Nat) (ans : MemAnswer) (halves : List Nat) : Option (Nat × Nat) × State :=
  match ansCause ans with
  | none => (none, s)
  | some c =>
    let h := s.failedHalf halves
    if ans = .ecc then
      let r := h.2.ndEcc n h.1
      (if r.1 then none else some (c, h.1), r.2)
    else (some (c, h.1), h.2)

/-- LOAD_RETURN: the oldest queued load of the engine returns; results leave LSU.r in trigger order (R239). -/
def actLoadReturn (n : Nat) (ans : MemAnswer) (s : State) : Host.Outcome State Fault Refusal :=
  let x := s.nd n
  let go (bank : Nat) (e : QEnt) : State :=
    let m := s.memFails n ans e.addrs
    match returnOldest m.1 (x.q bank .lsu) with
    | some l => m.2.setNd n (x.setQ bank .lsu l)
    | none => s
  match oldestLoad (x.q 0 .lsu) with
  | some e => .next (go 0 e)
  | none =>
    match oldestLoad (x.q 1 .lsu) with
    | some e => .next (go 1 e)
    | none => .next s

/-- Writes the registers of a direct load: for a faulting gather the elements below `upTo`, which may be none (R265). -/
def Needle.writeDirect (x : Needle) (d : Direct) (upTo : Option Nat) : Needle :=
  d.dsts.foldl (fun x t =>
    let m := match upTo with | some k => t.2.1 &&& lowMask (d.w * k) | none => t.2.1
    let old := (x.reg t.1).v
    if upTo.isSome && m == 0 then x
    else x.setReg t.1 ⟨(old &&& ~~~m) ||| (t.2.2 &&& m), d.tag⟩) x

/-- Records a fault of a direct load for the first bundle that reads one of its registers (R242, R306). -/
def Needle.noteRegs (x : Needle) (d : Direct) (f : Flt) (ef : Option ElemFlt) : Needle :=
  { x with m := { x.m with regFlts := x.m.regFlts ++ [(d.dsts.map (·.1), f, ef)] } }

/-- The element fault a waiting entry or boundary holds is moved down to an earlier element of the same operation. -/
def Needle.earlier (x : Needle) (r : Restart) (e : Nat × Nat × Nat) : Option Needle :=
  let ef := elemFault r e
  match x.x.deferred with
  | some d => if d.rec_ = r then some { x with x := { x.x with deferred := some ef.2 } } else none
  | none =>
    match x.x.entering with
    | some (_, some d) => if d.rec_ = r then some { x with x := { x.x with entering := some (ef.1, some ef.2) } } else none
    | _ => none

/-- The count entry of a fault-first gather: what its elements decided. -/
def markFf (m : Option Nat) : List QEnt → List QEnt
  | [] => []
  | e :: es =>
    if e.mark = 1 && !e.ready then (match m with | some k => { e with mark := 2 + k } :: es | none => es) else e :: markFf m es

/-- DIRECT_LOAD_WRITE: the oldest pending direct-write load of the engine is written, or its fault is recorded (R306). An
entry that waits for it goes ahead (R289 step 2). -/
def actDirectLoadWrite (n : Nat) (ans : MemAnswer) (s : State) : Host.Outcome State Fault Refusal :=
  let x := s.nd n
  match x.m.directs with
  | [] => .next s
  | d :: ds =>
    let x := { x with m := { x.m with directs := ds } }
    let m := if d.gather.isSome || d.bad.isSome then (none, s) else s.memFails n ans d.addrs
    let s := m.2
    let x := match d.gather with
      | none =>
        match d.bad.or m.1 with
        | some e => x.noteRegs d (mkFlt e.1 none (some e.2)) none
        | none => x.writeDirect d none
      | some r =>
        match d.fail with
        | none =>
          let x := x.writeDirect d none
          if d.ff then
            (x.setQ 0 .vec (markFf (some x.u.vl) (x.q 0 .vec))).setQ 1 .vec (markFf (some x.u.vl) (x.q 1 .vec))
          else x
        | some e =>
          let x := x.writeDirect d (some e.1)
          if d.ff && decide (0 < e.1) then
            (x.setQ 0 .vec (markFf (some e.1) (x.q 0 .vec))).setQ 1 .vec (markFf (some e.1) (x.q 1 .vec))
          else
            let x := if d.ff then (x.setQ 0 .vec (markFf none (x.q 0 .vec))).setQ 1 .vec (markFf none (x.q 1 .vec)) else x
            match x.earlier r e with
            | some y => y
            | none => let f := elemFault r e; x.noteRegs d f.1 (some f.2)
    .next ((s.setNd n x).tryEnter n)

/-- Does a gather in flight perform element `i`? -/
def Direct.takes (d : Direct) (i : Nat) : Bool :=
  match d.gather, d.dsts with
  | some r, t :: _ => (t.2.1 >>> (d.w * i)) &&& 1 == 1 && decide (i < r.n)
  | _, _ => false

/-- Gives the oldest gather in flight that takes element `i` its failure, the lowest element standing (R265). -/
def failGather (i cause addr : Nat) : List Direct → List Direct
  | [] => []
  | d :: ds =>
    let low := match d.fail with | some e => decide (i < e.1) | none => true
    if d.takes i && low then { d with fail := some (i, cause, addr) } :: ds else d :: failGather i cause addr ds

/-- The first byte of each half of element `i` of the oldest gather in flight that performs it: internal addresses. -/
def elemAt (i : Nat) (l : List Direct) : Option (List Nat) :=
  match l.find? (fun d => d.takes i) with
  | some d => (d.elems.find? (fun e => e.1 == i)).map (·.2)
  | none => none

/-- GATHER_ELEMENT_FAULT: the memory system fails one element of a gather in flight; which half of a split one is free. -/
def actGatherElementFault (n i : Nat) (ecc : Bool) (s : State) : Host.Outcome State Fault Refusal :=
  match elemAt i (s.nd n).m.directs with
  | none => .next s
  | some l =>
    let h := s.failedHalf l
    let r := if ecc then h.2.ndEcc n h.1 else (false, h.2)
    let x := r.2.nd n
    if r.1 then .next r.2
    else .next (r.2.setNd n { x with m := { x.m with directs := failGather i (if ecc then cEcc else cLoad) h.1 x.m.directs } })

/-- The first decided count of a fault-first gather is pushed: its value and the queue. -/
def pushFf : List QEnt → Option (Nat × List QEnt)
  | [] => none
  | e :: es =>
    if e.ready then (pushFf es).map (fun r => (r.1, e :: r.2))
    else if e.mark ≥ 2 then some (e.mark - 2, { e with ready := true, val := intVal (e.mark - 2), mark := 0 } :: es)
    else none

/-- VGATHER_FF_COUNT (R267): the count of a fault-first gather whose elements are done is pushed, and VL takes it. -/
def actVgatherFfCount (n : Nat) (s : State) : Host.Outcome State Fault Refusal :=
  let x := s.nd n
  let go (bank : Nat) : Option Needle :=
    (pushFf (x.q bank .vec)).map (fun r =>
      let y := x.setQ bank .vec r.2
      { y with u := { y.u with vl := r.1 } })
  match (go 0).or (go 1) with
  | some y => .next (s.setNd n y)
  | none => .next s

/-- STORE_PERFORM (R241): the oldest buffered store is performed. -/
def actStorePerform (n : Nat) (s : State) : Host.Outcome State Fault Refusal := .next (s.storeOne n)

/-- STORE_FAULT_REPORT (R242): the memory system fails the oldest buffered store; nothing is written for it. -/
def actStoreFaultReport (n : Nat) (ecc : Bool) (s : State) : Host.Outcome State Fault Refusal :=
  match (s.nd n).m.sbuf with
  | [] => .next s
  | e :: _ =>
    let r := if ecc then s.ndEcc n e.addr else (false, s)
    .next (if r.1 then r.2.storeOne n else r.2.storeFails n e (if ecc then cEcc else cStore))

end Sys2Proof.Machine
end

