-- ==== Sys2Proof/Machine/NdlTrig.lean ====
section
/-! DEFINITION. What each unit's trigger does (R198, R212-R219, R229-R256, R291, R299): step 3 of R200. -/

namespace Sys2Proof.Machine

open Sys2Proof

/-- A fault of trigger move `k`. -/
def bad (k c : Nat) : Trig := .fault (mkFlt c (some k))

/-- Pushes what a unit's operation gives, or faults with its cause. -/
def State.trigPush (s : State) (n k : Nat) (u : NUnit) (r : Except Nat Val) : Trig :=
  match r with
  | .error c => bad k c
  | .ok v =>
    match (s.nd n).push u [qFlight v] with
    | .ok y => .ok (s.setNd n y) none
    | .error c => bad k c

/-- DIV (R235, R256): a long operation. -/
def State.trigDiv (s : State) (n k off : Nat) (a b : Val) : Trig :=
  match divOp off a b with
  | .error c => bad k c
  | .ok r =>
    match (s.nd n).push .div [{ qFlight r.1 with rem := r.2 }] with
    | .ok y => .ok (s.setNd n { y with u := { y.u with longOp := y.u.longOp ++ [.div] } }) none
    | .error c => bad k c

/-- Shows the FP state word after the last completed operation (R322). -/
def State.showFp (s : State) (n st : Nat) : State := if n < 64 then s.wr .ndlFpstate_state n st else s

/-- FPU (R243, R244, R307): fma waits for its late operand; wrst pushes nothing. -/
def State.trigFpu (s : State) (n k off : Nat) (a b c : Val) : Trig :=
  let x := s.nd n
  match fpuOp off x.u.fp a b c with
  | .error e => bad k e
  | .ok r =>
    if off = 0x16 then
      let y := { x with u := { x.u with fp := r.2 } }
      let q := y.q y.bank .fpu
      match q.reverse.find? (fun e => !e.ready) with
      | some _ =>
        let i := q.length - 1 - (q.reverse.findIdx (fun e => !e.ready))
        .ok (s.setNd n (y.setQ y.bank .fpu (q.mapIdx (fun j e => if j = i then { e with fp := r.2 } else e)))) none
      | none => .ok ((s.setNd n y).showFp n r.2) none
    else
      let late := off == 0x0B
      match x.push .fpu [{ qFlight r.1 with fp := r.2, late }] with
      | .error e => bad k e
      | .ok y =>
        let l : Late := { unit := .fpu, off, a, b, ew := poisonVal, vl := 0, bank := y.bank }
        .ok (s.setNd n { y with u := { y.u with fp := if late then y.u.fp else r.2,
                                                late := if late then y.u.late ++ [l] else y.u.late } }) none

/-- VEC lane operations and setvl (R258-R261, R307). -/
def State.trigVec (s : State) (n k off : Nat) (busy : Nat → Bool) (a b c ew p vd : Val) : Trig :=
  let x := s.nd n
  if vecMem off then s.trigVecMem n k off busy a b ew p vd
  else if off = 8 then
    if !ew.tag.isInt || !b.tag.isInt then bad k cTag
    else
      let v := min b.lo.toNat (vlMax (vecW ew))
      s.setNd n { x with u := { x.u with vl := v } } |>.trigPush n k .vec (.ok (intVal v))
  else
    match vecOp off x.u.vl a b c ew with
    | .error e => bad k e
    | .ok v =>
      if vecLate off then
        match x.push .vec [{ qFlight v with late := true }] with
        | .error e => bad k e
        | .ok y =>
          let l : Late := { unit := .vec, off, a, b, ew, vl := y.u.vl, bank := y.bank }
          .ok (s.setNd n { y with u := { y.u with late := y.u.late ++ [l] } }) none
      else s.trigPush n k .vec (.ok v)

/-- BIGM (R245, R246, R256): inv is a long operation. -/
def State.trigBigm (s : State) (n k off : Nat) (sel b : Val) : Trig :=
  let f := s.fresh 576
  let s := f.2
  let x := s.nd n
  match bigmOp off f.1 sel b x.u with
  | .error c => bad k c
  | .ok (v, u) =>
    let y := { x with u := { u with bigmOps := u.bigmOps ++ [bigmPushes off],
                                    longOp := if off = 0x0F then u.longOp ++ [.bigm] else u.longOp } }
    match v with
    | none => .ok (s.setNd n y) none
    | some v =>
      match y.push .bigm [qFlight v] with
      | .ok z => .ok (s.setNd n z) none
      | .error c => bad k c

/-- SHAR (R248). -/
def State.trigShar (s : State) (n k off : Nat) (a b : Val) : Trig :=
  let f := s.fresh 512
  let s := f.2
  let x := s.nd n
  match sharOp off f.1 a b x.u.shar with
  | .error c => bad k c
  | .ok (v, h) =>
    let y := { x with u := { x.u with shar := h } }
    match v with
    | none => .ok (s.setNd n y) none
    | some v => (s.setNd n y).trigPush n k .shar (.ok v)

/-- NTT (R249): one or two entries. -/
def State.trigNtt (s : State) (n k off : Nat) (a b c w : Val) : Trig :=
  match nttOp off a b c w with
  | .error e => bad k e
  | .ok vs =>
    match (s.nd n).push .ntt (vs.map qFlight) with
    | .ok y => .ok (s.setNd n y) none
    | .error e => bad k e

/-! ## Control flow (R212-R219, R286) -/

/-- May a value be a branch target or loop end (R215)? -/
def Tag.target (t : Tag) : Bool := t == .code || t == .int

/-- Does the condition of a compare-and-branch hold (R212)? -/
def brTaken (off : Nat) (a v : Val) : Bool :=
  match off with
  | 0x08 => a.lo == v.lo
  | 0x09 => a.lo != v.lo
  | 0x0A => a.lo.slt v.lo
  | 0x0B => a.lo.ult v.lo
  | 0x0C => !a.lo.slt v.lo
  | 0x0D => !a.lo.ult v.lo
  | 0x0E => a.tag.num == v.lo.toNat % 16
  | 0x0F => a.tag.num != v.lo.toNat % 16
  | _ => true

/-- Compare and branch (R212-R215). -/
def State.trigBr (s : State) (n k off : Nat) (a t v : Val) : Trig :=
  let x := s.nd n
  let cmp (y : Val) : Bool := TagClass.compare.accepts y.tag
  let go (taken : Bool) (tgt : Val) : Trig :=
    let d := if taken then some (tgt.lo.toNat / 2 * 2) else none
    .ok (s.setNd n { x with branch := some { remain := 2, target := d } }) none
  if off = 0x10 then if v.tag.target then go true v else bad k cTag
  else if !t.tag.target || !cmp v || (decide (off ≤ 0x0D) && !cmp a) then bad k cTag
  else go (brTaken off a v) t

/-- LOOP.t.go (R217, R218, R286): `next` is the bundle after this one, `after` the one after LOOP.end. A count of 0 skips the
body; the address where execution continues is left in `skip`. -/
def State.trigLoop (s : State) (n k next : Nat) (after : Nat → Nat) (c e : Val) : Trig :=
  let x := s.nd n
  let count := c.lo.toNat % 2 ^ 32
  let last := e.lo.toNat / 2 * 2
  if !c.tag.isInt || !e.tag.target then bad k cTag
  else if last < next || decide (65534 < last - next) then bad k cDecodeForm
  else if count = 0 then .ok (s.setNd n { x with skip := some (after last) }) none
  else .ok (s.setNd n { x with loops := { count, start := next, last } :: x.loops }) none

/-! ## STRM, EVT, TIME, SYS (R252-R255) -/

/-- The bounds STRM.win gives a Tenant post (R191): those of a Bolt slot, or nothing. -/
def Needle.winBounds (x : Needle) (w : Val) : Nat × Nat :=
  let s := x.slot (ptrSlot w.lo)
  if s.kind = 2 ∧ s.minPriv ≤ x.priv then (s.base, s.limit) else (0, 0)

/-- Kind 1 of R315: is a store of the buffer over a byte range still to be performed? -/
def Needle.sbMeets (x : Needle) (a len : Nat) : Bool := x.m.sbuf.any (fun e => meets a len e.addr e.data.length)

/-- STRM.t.post (R253): at most four tokens outstanding in a bank's queue (R190), four posts in the Needle's post queue. -/
def State.trigStrm (s : State) (n k : Nat) (ring tag win blk : Val) : Trig :=
  let x := s.nd n
  let a := ptrAddr blk.lo
  let sl := x.slot (ptrSlot blk.lo)
  let hazard := x.debug && x.sbMeets a 112
  if blk.tag ≠ .ptr then bad k cTag
  else if sl.kind = 0 ∨ x.priv < sl.minPriv then bad k cPriv
  else if sl.kind ≠ 1 ∧ sl.kind ≠ 2 then .fault (mkFlt cBounds (some k) (some a))
  else if a < sl.base ∨ sl.limit < a + 64 then
    .fault (mkFlt cBounds (some k) (some (if sl.base ≤ a ∧ a % 64 = 0 then max a sl.limit else a)))
  else if !ring.tag.isInt || !tag.tag.isInt || (x.priv == 0 && win.tag != .ptr) then bad k cTag
  else if (x.q x.bank .strm).length ≥ 4 ∨ (s.sht.posts.filter (fun p => p.n == n)).length ≥ 4 then bad k cOverrun
  else if hazard then .fault (mkFlt cHazard none none 0)
  else
    let t := tag.lo.toNat % 65536
    let p : Post :=
      { n, ring := ring.lo.toNat % 16, tag := t, gen := x.u.evtGen, priv := x.priv, tenant := x.tenant, addr := a,
        kind := sl.kind, base := sl.base, limit := sl.limit, win := if x.priv = 0 then some (x.winBounds win) else none,
        bufs := match x.inv with | some i => i.bufs.map (fun b => (b.1, b.1 + b.2)) | none => [] }
    let s := s.setNd n (x.setQ x.bank .strm (x.q x.bank .strm ++ [{ qFlight (intVal 0) with mark := t }]))
    .ok (s.setSht { s.sht with posts := s.sht.posts ++ [p] }) none

/-- EVT (R254): raise sends the line's source with the current generation. -/
def State.trigEvt (s : State) (n k off : Nat) (v : Val) : Trig :=
  let x := s.nd n
  if off = 9 then .ok (s.setNd n { x with u := { x.u with evtGen := 0 } }) none
  else if !v.tag.isInt then bad k cTag
  else .ok (s.raiseTack ((if n < 64 then 2 * n else 128) + v.lo.toNat % 2) x.u.evtGen) none

/-- TIME (R252): root is device_time; cycle is the count of Needle cycles since engine reset, one for every BUNDLE_ISSUE of the
engine and a free number for the cycles between them (log 93). -/
def State.trigTime (s : State) (n k off : Nat) : Trig :=
  if off = 8 then
    let f := s.fresh 32
    let x := f.2.nd n
    let c := x.cycles + f.1
    (f.2.setNd n { x with cycles := c }).trigPush n k .time (.ok (intVal (c % 2 ^ 64)))
  else s.trigPush n k .time (.ok (intVal (s.time % 2 ^ 64)))

/-- SYS.t.enter at its trigger (R291). -/
def State.trigEnter (s : State) (n k : Nat) (v : Val) : Trig :=
  let x := s.nd n
  let svc := v.lo.toNat % 16
  let e := x.sysn (0xA0 + svc)
  if !bitOf e 24 || bitsOf e 20 2 == 3 then .fault (mkFlt cService (some k) none svc)
  else if x.priv < bitsOf e 22 2 then bad k cPriv
  else .ok (s.setNd n { x with x := { x.x with shadow := some (.enter svc) } }) none

/-- SYS.t.leave at its trigger (R290, step 1). -/
def State.trigLeave (s : State) (n k : Nat) : Trig :=
  let x := s.nd n
  let p := x.sysn 0x91 % 4
  if x.sysn 0x96 < p ∨ p = 3 then bad k cForge
  else if !x.x.epcTag.target then bad k cTag
  else .ok (s.setNd n { x with x := { x.x with shadow := some (.leave x.priv) } }) none

/-- SYS by trigger offset (R255, R299). -/
def State.trigSys (s : State) (n k off : Nat) (v : Val) : Trig :=
  let x := s.nd n
  if off = 9 then s.trigLeave n k
  else if !v.tag.isInt then bad k cTag
  else match off with
    | 8 => s.trigEnter n k v
    | 0x0A => .ok (if x.x.handler then s else s.setNd n (s.critOpen n v.lo.toNat x)) none
    | 0x0B => .ok (if x.x.handler then s else s.setNd n x.closeCrit) none
    | 0x0C => .ok (s.setNd n { x with u := { x.u with longOp := x.u.longOp ++ [.sys], fence := false } }) none
    | _ => .ok (s.setNd n { x with u := { x.u with longOp := x.u.longOp ++ [.sys], fence := true } }) none

/-! ## One trigger -/

/-- The trigger of move `k` into unit `u` at offset `off` with value `v`. -/
def State.trig (s : State) (n k next : Nat) (after : Nat → Nat) (busy : Nat → Bool) (u : NUnit) (off : Nat) (v : Val) : Trig :=
  let x := s.nd n
  let p (i : Nat) : Val := x.port x.bank (u.block + i)
  match u with
  | .alu0 | .alu1 => s.trigPush n k u (aluOp off (p 0) (p 1))
  | .shf => s.trigPush n k u (shfOp off (p 0) (p 1) (p 2))
  | .mul => s.trigPush n k u (mulOp off (p 0) (p 1))
  | .div => s.trigDiv n k off (p 0) (p 1)
  | .lsu => s.trigLsu n k off (p 0) (p 1) (p 2) (p 3)
  | .fpu => s.trigFpu n k off (p 0) (p 1) (p 2)
  | .vec => s.trigVec n k off busy (p 0) (p 1) (p 2) (p 3) (p 4) (p 5)
  | .bigm => s.trigBigm n k off (p 0) (p 1)
  | .aesr => s.trigPush n k u (aesOp off (p 0) (p 1) (p 2))
  | .shar => s.trigShar n k off (p 0) (p 1)
  | .ntt => s.trigNtt n k off (p 0) (p 1) (p 2) (p 3)
  | .tag => s.trigPush n k u (tagOp off (p 0) (p 1))
  | .br => s.trigBr n k off (p 0) (p 1) v
  | .loop => s.trigLoop n k next after (p 0) (p 1)
  | .strm => s.trigStrm n k (p 0) (p 1) (p 2) (p 3)
  | .evt => s.trigEvt n k off v
  | .time => s.trigTime n k off
  | .sys => s.trigSys n k off v

end Sys2Proof.Machine
end

