-- ==== Sys2Proof/Machine/NdlIssue.lean ====
section
/-! DEFINITION. Issuing one bundle of a Needle: boundary events, fetch, decode, holds, the three steps of R200, and where
execution goes (R199-R201, R210-R220, R289-R293, R304-R321). -/

namespace Sys2Proof.Machine

open Sys2Proof

/-! ## Fetch (R215, R317, R319) -/

/-- The halfword a fetch of engine `n` delivers at byte address `a` for the bundle `ahead` bundles after the next to issue;
none beyond the instruction store. The next bundle never sees the latest bundle's stores (R317). -/
def Needle.fetchAhead (x : Needle) (n ahead a : Nat) : Option Nat :=
  if a + 1 ≥ 0x40000 then none
  else if !x.remap && decide (a < 0x4000) then
    some ((Config.bootRom a).toNat + 256 * (Config.bootRom (a + 1)).toNat)
  else
    let v := x.versions a
    let old := if ahead = 0 then v.1.take (v.1.length - v.2) else v.1
    some (old.getD (Config.staleVersion n (x.seq + ahead) a % max 1 old.length) 0)

/-- The halfword a fetch delivers for the next bundle. -/
def Needle.fetchHalf (x : Needle) (n a : Nat) : Option Nat := x.fetchAhead n 0 a

/-- Is any halfword of a bundle stale (R315, kind 3)? -/
def Needle.staleIn (x : Needle) (a size : Nat) : Bool :=
  x.m.stale.any (fun e => decide (a ≤ e.1 ∧ e.1 < a + size) && (x.remap || decide (0x4000 ≤ e.1)))

/-! ## What this bundle may not trigger (R214, R218, R220, R292) -/

/-- Bundles from the one at `a` to the last one of a loop, when it is one of the last three; each is sized in the version its
own fetch delivers. -/
def Needle.toEnd (x : Needle) (n a last : Nat) : Option Nat :=
  if a = last then some 0
  else
    match bundleSize (x.fetchHalf n) a with
    | none => none
    | some k =>
      if a + k = last then some 1
      else match bundleSize (x.fetchAhead n 1) (a + k) with
        | some j => if a + k + j = last then some 2 else none
        | none => none

/-- Is the bundle at pc among the last `k` + 1 of an active loop body? -/
def Needle.nearEnd (x : Needle) (n k : Nat) : Bool :=
  x.loops.any (fun l => decide (l.start ≤ x.pc ∧ x.pc ≤ l.last) &&
    (match x.toEnd n x.pc l.last with | some d => decide (d ≤ k) | none => false))

/-- Destinations the control-flow restrictions forbid in this bundle. -/
def Needle.forbids (x : Needle) (n dst : Nat) : Bool :=
  let closed := x.branch.isSome || x.x.shadow.isSome
  match sockOf dst with
  | .trig .br _ => closed || x.nearEnd n 2
  | .trig .loop _ => closed || decide (2 ≤ x.loops.length) || x.nearEnd n 0
  | .trig .sys 8 => closed || x.x.handler || x.nearEnd n 1
  | .trig .sys 9 => closed || x.nearEnd n 1
  | _ => false

/-! ## Step 1: sources (R200, R223, R225, R242, R305) -/

/-- What reading a source gives. `wait` is the wait of STRM.r and EVT.r, which an interrupt ends. -/
inductive Rd where
  | val (v : Val)
  | hold
  | wait
  | fault (f : Flt) (ef : Option ElemFlt)

/-- The register a socket is: 0-63 G, 64-95 V. -/
def sockReg (x : Sock) : Option Nat :=
  match x with | .g i => some i | .v i => some (64 + i) | .f i => some (64 + i) | _ => none

/-- Is the count of a fault-first gather still open (R267)? -/
def Needle.ffOpen (x : Needle) : Bool :=
  ((x.q 0 .vec) ++ (x.q 1 .vec)).any (fun e => !e.ready && decide (1 ≤ e.mark))

/-- A read of a result port. -/
def Needle.readPort (x : Needle) (k : Nat) (u : NUnit) (off : Nat) : Rd :=
  match x.q x.bank u with
  | [] =>
    if u = .evt && x.bank == 0 && (x.port 0 NUnit.evt.block).lo.toNat % 16 != 0 then .wait
    else .fault (mkFlt cOverrun (some k)) none
  | e :: _ =>
    if !e.ready then if u = .strm then .wait else .hold
    else match e.flt with
      | some f => .fault { f with move := some k } none
      | none =>
        if u = .div then
          if bitOf e.halves (off - 6) then .fault (mkFlt cOverrun (some k)) none
          else .val (if off = 6 then e.val else e.rem)
        else .val e.val

/-- A read of a register: its recorded load fault, its scoreboard bit, its value. -/
def Needle.readReg (x : Needle) (k r : Nat) : Rd :=
  match x.failedLoad [r] with
  | some e => let f := loadFault k e; .fault f.1 f.2
  | none => if x.busyReg r then .hold else .val (x.reg r)

/-- The source of move `k`. -/
def Needle.readMove (x : Needle) (n k : Nat) (m : Move) : Rd :=
  match m.src with
  | .imm i =>
    if m.dst = 0x371 ∨ m.dst = 0x380 ∨ m.dst = 0x391 then
      .val (val64 (BitVec.ofInt 64 ((x.pc : Int) + 2 * i)) .code)
    else .val (int64 (BitVec.ofInt 64 i))
  | .limm v => .val (intVal (v % 2 ^ 64))
  | .sock id =>
    match sockOf id with
    | .g i => x.readReg k i
    | .v i => x.readReg k (64 + i)
    | .f i => match x.readReg k (64 + i) with | .val v => .val v.narrow | r => r
    | .sys i => if i = 0x98 && x.ffOpen then .hold else .val (x.sysRead n i)
    | .res u off => x.readPort k u off
    | _ => .val (intVal 0)

/-- Takes the entries that the moves read out of their queues; a record read from EVT.r sets the generation (R254). -/
def Needle.takeReads (x : Needle) (ms : List Move) : Needle :=
  ms.foldl (fun x m =>
    match m.srcSock.map sockOf with
    | some (.res .div off) =>
      match x.q x.bank .div with
      | e :: es =>
        let h := withBit e.halves (off - 6) true
        x.setQ x.bank .div (if h = 3 then es else { e with halves := h } :: es)
      | [] => x
    | some (.res u _) =>
      match x.q x.bank u with
      | e :: es =>
        let x := x.setQ x.bank u es
        if u = .evt then { x with u := { x.u with evtGen := e.val.lo.toNat / 4 % 8 + 1 } } else x
      | [] => x
    | _ => x) x

/-! ## Step 2: writes (R195, R196, R198, R227, R307) -/

/-- The units whose ports refuse KEY (R227). -/
def NUnit.noKey (u : NUnit) : Bool := u == .strm || u == .evt || u == .time || u == .sys || u == .loop

/-- A write to a port, at its width. -/
def Needle.putPort (x : Needle) (u : NUnit) (off : Nat) (v : Val) : Needle :=
  x.setPort x.bank (u.block + off) (if u.wide off then v else v.narrow)

/-- Is port `off` of a unit waiting to be latched in this bundle (R307)? -/
def Needle.lateAt (x : Needle) (u : NUnit) (off : Nat) : Bool :=
  off == 2 && x.u.late.any (fun l => l.unit == u && l.bank == x.bank)

/-- The write of move `k`. -/
def Needle.writeMove (x : Needle) (m : Move) (v : Val) : Except Nat Needle :=
  match sockOf m.dst with
  | .g i => .ok (x.setReg i v.narrow)
  | .v i => .ok (x.setReg (64 + i) v)
  | .f i =>
    let old := x.reg (64 + i)
    if old.tag = .key ∧ v.tag ≠ .key then .error cTag
    else .ok (x.setReg (64 + i) ⟨(old.v &&& ~~~lowMask 64) ||| (v.v &&& lowMask 64), v.tag⟩)
  | .sys id => x.sysWrite id v
  | .opnd u off =>
    if u.noKey && v.tag == .key then .error cTag
    else if x.lateAt u off && !(if u = .fpu then TagClass.fpu.accepts v.tag else TagClass.crypto.accepts v.tag) then
      .error cTag
    else .ok (x.putPort u off v)
  | .trig u off =>
    if u.noKey && v.tag == .key then .error cTag
    else match u.trigPort off with
      | some p => .ok (x.putPort u p v)
      | none => .ok x
  | _ => .ok x

/-- The writes of some moves, with the faults they raise. -/
def Needle.writeAll (x : Needle) (ms : List (Nat × Move × Val)) : Needle × List (Flt × Option ElemFlt) :=
  ms.foldl (fun (r : Needle × List (Flt × Option ElemFlt)) m =>
    match r.1.writeMove m.2.1 m.2.2 with
    | .ok y => (y, r.2)
    | .error c => (r.1, r.2 ++ [(mkFlt c (some m.1), none)])) (x, [])

/-- Is a move's destination a trigger port? -/
def Move.isTrig (m : Move) : Bool := match sockOf m.dst with | .trig _ _ => true | _ => false

/-- Step 2: the writes to registers, operand ports and system sockets; late ports are latched as they then stand (R307). The
values of the trigger ports come last, with their operations (R198, R200). -/
def Needle.writeBundle (x : Needle) (ms : List (Nat × Move × Val)) : Needle × List (Flt × Option ElemFlt) :=
  let w := x.writeAll (ms.filter (fun m => !m.2.1.isTrig))
  let t := w.1.latch.writeAll (ms.filter (fun m => m.2.1.isTrig))
  (t.1, w.2 ++ t.2)

/-! ## Step 3: triggers -/

/-- What the triggers of a bundle made together. -/
structure Fired where
  s    : State
  held : Bool
  wake : List Nat
  bad  : List (Flt × Option ElemFlt)
  own  : Option (Nat × Nat × List Nat)

/-- The triggers of a bundle in the order of their units, so that the order of moves does not matter (R200). -/
def trigsOf (ms : List (Nat × Move × Val)) : List (Nat × NUnit × Nat × Val) :=
  (List.range 19).filterMap (fun u =>
    match ms.find? (fun m => m.2.1.trigUnit.map NUnit.num == some u) with
    | some m => match sockOf m.2.1.dst with | .trig u off => some (m.1, u, off, m.2.2) | _ => none
    | none => none)

/-- Does a trigger put a store in the buffer? -/
def firesStore (u : NUnit) (off : Nat) : Bool :=
  match u with | .lsu => lsuStores off | .vec => vecStores off | _ => false

/-- Fires them. Those that store come last, so that a load, a post or a raise of the bundle finds the buffer as it stood
before the bundle; `busy` are the registers with a load pending before it (R305). -/
def State.fireAll (s : State) (n next : Nat) (after : Nat → Nat) (busy : Nat → Bool) (ts : List (Nat × NUnit × Nat × Val)) : Fired :=
  (ts.filter (fun t => !firesStore t.2.1 t.2.2.1) ++ ts.filter (fun t => firesStore t.2.1 t.2.2.1)).foldl
    (fun (r : Fired) t =>
    match r.s.trig n t.1 next after busy t.2.1 t.2.2.1 t.2.2.2 with
    | .ok s own => { r with s, own := r.own.or own }
    | .fault f ef => { r with bad := r.bad ++ [(f, ef)] }
    | .hold w => { r with held := true, wake := r.wake ++ w })
    { s, held := false, wake := [], bad := [], own := none }

/-! ## After the bundle (R213, R217-R220, R290, R291) -/

/-- The fault of the lowest move; one that names no move comes last. -/
def firstFault (l : List (Flt × Option ElemFlt)) : Option (Flt × Option ElemFlt) :=
  l.foldl (fun b f =>
    match b with
    | none => some f
    | some g => if (f.1.move.getD 9) < (g.1.move.getD 9) then some f else b) none

/-- Where a delay bundle or a branch leaves execution: pc, loops and the branch still pending. `old` is the branch pending
before the bundle; a loop of count 0 goes on behind its body, with the delay bundles of a branch of its bundle there (log 131). -/
def Needle.advance (x : Needle) (size : Nat) (old : Option Br) (oldLoops : List Loop) : Needle :=
  let newLoop := x.loops.take (x.loops.length - oldLoops.length)
  let b := loopBack x.pc (x.pc + size) oldLoops
  let loops := newLoop ++ b.2
  let pc := x.skip.getD b.1
  let x := { x with skip := none }
  match old with
  | some o =>
    if o.remain ≤ 1 then
      match o.target with
      | some t => { x with pc := t, loops := exitLoops t loops, branch := none }
      | none => { x with pc, loops, branch := none }
    else { x with pc, loops, branch := some { o with remain := o.remain - 1 } }
  | none => { x with pc, loops }

/-- SYS.t.enter at the end of its shadow (R291, steps 2 to 4); pc is the bundle after the shadow. -/
def State.doEnter (s : State) (n svc : Nat) (x : Needle) : Needle :=
  let e := x.sysn (0xA0 + svc)
  let y := x.setSys 0x90 (min x.pc 0xFFFFFFFE)
  let y := y.setSys 0x91 (x.priv + 256 * b2n x.debug + 512 * b2n x.remap)
  let y := ((y.setSys 0x96 x.priv).setSys 0x94 0).setSys 0x95 (packLoops x.loops)
  let y := { y with loops := [], branch := none, priv := bitsOf e 20 2, pc := bitsOf e 0 18 / 2 * 2,
                    x := { y.x with epcTag := .code, crit := none } }
  s.critOpen n (s.critCap n) y

/-- SYS.t.leave at the end of its shadow (R290, steps 3, 5 and 6). -/
def State.doLeave (s : State) (n : Nat) (x : Needle) : Needle :=
  let st := x.sysn 0x91
  let ebr := x.sysn 0x94
  let pend := bitOf st 2
  let y := if x.x.handler then x.clearBank1 else x
  let remain := ebr / 2 ^ 32 % 4
  { y with
      pc := x.sysn 0x90, priv := min 2 (st % 4), loops := unpackLoops (x.sysn 0x95),
      branch := if remain = 0 then none else some { remain, target := some (ebr % 2 ^ 32 / 2 * 2) },
      remap := if pend then bitOf st 9 else s.ctlRemap n, debug := if pend then bitOf st 8 else s.ctlDebug n,
      x := { y.x with handler := false, dlevel := false, crit := none,
                      shadow := if !pend then none else if bitOf st 3 then some (.enter (bitsOf st 4 4)) else some .mode } }

/-- What ends with the bundle that was a shadow. -/
def State.afterShadow (s : State) (n : Nat) (sh : Shadow) : State :=
  let x := s.nd n
  let x := { x with x := { x.x with shadow := none } }
  match sh with
  | .enter svc => s.setNd n (s.doEnter n svc x)
  | .mode => s.setNd n { x with remap := s.ctlRemap n, debug := s.ctlDebug n }
  | .leave _ =>
    let s := if x.x.handler then s.invLeave n else s
    let s := s.setNd n (s.doLeave n { s.nd n with x := { (s.nd n).x with shadow := none } })
    if (s.nd n).u.restart.isSome then s.resume n else s

/-- The stores of a bundle to the engine's own NDL_CTRL (R321): a change of remap or debug is a mode change whose shadow is
the next bundle. -/
def State.ownCtrl (s : State) (n : Nat) (own : Nat × Nat × List Nat) : State :=
  let x := s.nd n
  let was := (s.ctlRemap n, s.ctlDebug n)
  -- an engine reset that one of them performs ends the others with the bundle
  let s := own.2.2.foldl (fun s v =>
    if (s.nd n).seq ≠ x.seq then s
    else (s.regWrite { fn := 0, writer := .warden, offset := own.1, size := own.2.1, value := v }).1.count .hubStat_grants
      (ndlMaster n)) s
  let y := s.nd n
  if (s.ctlRemap n, s.ctlDebug n) = was ∨ y.seq ≠ x.seq then s
  else s.setNd n { y with modeReq := x.modeReq, x := { y.x with shadow := some .mode } }

/-- The end of a bundle that issued. -/
def State.issued (s : State) (n size : Nat) (old : Option Br) (oldLoops : List Loop) (sh : Option Shadow)
    (own : Option (Nat × Nat × List Nat)) : State :=
  let x := s.nd n
  let y := { x with done := x.pc, held := false }
  let y := y.advance size old oldLoops
  let s := s.setNd n { y with seq := y.seq + 1, cycles := y.cycles + 1 }
  let s := if n < 64 then s.count .ndlPerf_issued n else s
  let s := match sh with | some h => s.afterShadow n h | none => s
  match own with | some o => s.ownCtrl n o | none => s

/-! ## The bundle (R200, R201, R305) -/

/-- Cycles in which a bundle was held are counted: `least` of them and a free number more, since no command is a clock cycle
(R322, log 93). -/
def State.heldCycles (s : State) (n least : Nat) : State :=
  if n < 64 then
    let f := s.fresh 32
    f.2.count .ndlPerf_held n (least + f.1)
  else s

/-- A bundle is held at T: nothing takes effect, the held cycles are counted, one at least. -/
def State.heldAt (s : State) (n : Nat) (stays : Bool) : State :=
  (s.setNd n { s.nd n with held := stays, cycles := (s.nd n).cycles + 1 }).heldCycles n 1

/-- Raises the fault of a bundle: the failed entry a read of LSU.r names is removed, the record of a failed load that a
register's reader met is used up. -/
def State.raiseFlt (s : State) (n : Nat) (f : Flt) (ef : Option ElemFlt) : State :=
  let x := s.nd n
  let x := if f.pop then x.setQ x.bank .lsu ((x.q x.bank .lsu).drop 1) else x
  let x := match f.load with
    | some i => { x with m := { x.m with regFlts := x.m.regFlts.eraseIdx i } }
    | none => x
  (s.setNd n x).ndFault n { f with pop := false, load := none } ef

/-- A HAZARD of one kind (R315), counted wherever it is taken (R322). -/
def State.hazard (s : State) (n kind : Nat) (f : Flt) : State :=
  (if n < 64 then (s.wr .ndlStatus_hazardKind n kind).countSat .ndlCount_hazard n else s).ndFault n f none

/-- Holds of R305 that the moves show before their values are known. -/
def Needle.movesHold (x : Needle) (ms : List Move) : Bool :=
  ms.any (fun m =>
    let d := sockOf m.dst
    (match sockReg d with | some r => x.busyReg r | none => false)
      || (m.dst == 0x98 && x.ffOpen)
      || (match d with
          | .trig .vec _ => x.ffOpen
          | .trig .bigm off => !bigmPushes off && decide (8 ≤ x.u.bigmOps.length)
          | _ => false))

/-- Does a source read the entry of an operation whose late operand is not latched yet? -/
def Needle.readsLate (x : Needle) (m : Move) : Bool :=
  match m.srcSock.map sockOf with
  | some (.res u _) => (match x.q x.bank u with | e :: _ => e.late | [] => false)
  | _ => false

/-- The sources of a bundle as they read: move index, move, reading. -/
abbrev Reads := List (Nat × Move × Rd)

/-- Does a move of the bundle write the late port of `l` from a source that is held? -/
def lateHeldBy (l : Late) (rds : Reads) : Bool :=
  rds.any (fun r => decide (sockOf r.2.1.dst = .opnd l.unit 2) && (match r.2.2 with | .hold => true | _ => false))

/-- A refused tag among the writes of late ports whose values are known (R307). -/
def Needle.lateRefused (x : Needle) (rds : Reads) : Option Flt :=
  (rds.filterMap (fun r =>
    match sockOf r.2.1.dst, r.2.2 with
    | .opnd u off, .val v =>
      if x.lateAt u off then (match x.writeMove r.2.1 v with | .ok _ => none | .error c => some (mkFlt c (some r.1))) else none
    | _, _ => none)).head?

/-- A bundle held on the result of an operation whose late port is latched in that same bundle (R305, R307): the port takes
the content the bundle gives it, and the operation goes on while the bundle is held. DESIGN CHOICE: a port the bundle
rewrites with a result it waits for takes a free value. -/
def State.lateWhileHeld (s : State) (n : Nat) (rds : Reads) : State :=
  let x := s.nd n
  match x.lateRefused rds with
  | some f => s.raiseFlt n f none
  | none =>
    let now := x.u.late.filter (fun l => !lateHeldBy l rds)
    let circular := now.isEmpty && rds.all (fun r => match r.2.2 with | .hold => x.readsLate r.2.1 | _ => true)
    let f := s.fresh 128
    let s := if circular then f.2 else s
    let x := s.nd n
    let y := rds.foldl (fun (y : Needle) r =>
      match sockOf r.2.1.dst, r.2.2 with
      | .opnd u off, .val v => if x.lateAt u off then y.putPort u off v else y
      | .opnd u off, .hold => if circular && x.lateAt u off then y.putPort u off ⟨BitVec.ofNat 128 f.1, .int⟩ else y
      | _, _ => y) x
    let z := { y with u := { y.u with late := if circular then x.u.late else now } }.latch
    let later := if circular then [] else x.u.late.filter (fun l => lateHeldBy l rds)
    (s.setNd n { z with ports := x.ports, u := { z.u with late := later } }).heldAt n true

/-- The conditions of R315 that a bundle shows before its operands are known, with their kinds: checked at D. -/
def Needle.hazardAtD (x : Needle) (ms : List Move) : Option Nat :=
  if !x.debug then none
  else if ms.any (fun m => match sockOf m.dst with | .trig .evt 8 => true | _ => false)
      && x.m.sbuf.any (fun e => decide (2 ≤ e.kind ∧ e.kind ≤ 5)) then some 1
  else if ms.any (fun m => match sockOf m.dst with | .opnd u off => x.lateAt u off | _ => false) then some 2
  else none

/-- The bundle `ms` at pc: holds, then the three steps; any fault voids it (R201). -/
def State.runBundle (s : State) (n : Nat) (ms : List Move) : State :=
  let x := s.nd n
  let size := movesSize ms
  let idx := (List.range ms.length).zip ms
  let rds := idx.map (fun m => (m.1, m.2, x.readMove n m.1 m.2))
  let haz := x.hazardAtD ms
  let waits := rds.any (fun r => match r.2.2 with | .wait => true | _ => false)
  let holds := x.movesHold ms || rds.any (fun r => match r.2.2 with | .hold => true | _ => false)
  if haz.isSome then s.hazard n (haz.getD 0) (mkFlt cHazard)
  else if waits then s.heldAt n false
  else if holds then if ms.any x.readsLate then s.lateWhileHeld n rds else s.heldAt n true
  else
    let vals := rds.filterMap (fun r => match r.2.2 with | .val v => some (r.1, r.2.1, v) | _ => none)
    let bad1 := rds.filterMap (fun r => match r.2.2 with | .fault f ef => some (f, ef) | _ => none)
    let w := (x.takeReads ms).writeBundle vals
    let y := w.1.ageVersions
    let hw := x.fetchHalf n
    let after := fun a => match bundleSize hw a with | some k => a + k | none => 0x40000
    let r := (s.setNd n y).fireAll n (x.pc + size) after x.busyReg (trigsOf vals)
    -- a fault of step 1 or 2 leaves later steps no operands to judge
    if r.held && bad1.isEmpty && w.2.isEmpty then (r.wake.foldl State.hubWakeAt s).heldAt n true
    else
      match (firstFault bad1).or ((firstFault w.2).or (firstFault r.bad)) with
      | some (f, ef) => if f.cause = cHazard then s.hazard n 1 f else s.raiseFlt n f ef
      | none => r.s.issued n size x.branch x.loops x.x.shadow r.own

/-- Fetch, decode and run the bundle at pc. Outside the boot ROM nothing issues before its image is verified (R24). -/
def State.issueAt (s : State) (n : Nat) : State :=
  let x := s.nd n
  if (x.remap || decide (0x4000 ≤ x.pc)) && !s.imagesOk n then s
  else
  let fetch := mkFlt cFetch none (some (x.pc % 2 ^ 48))
  if x.pc ≥ 0x40000 then s.ndFault n fetch none
  else
    match decodeBundle (x.fetchHalf n) x.priv (x.forbids n) x.pc with
    | .fetchFault => s.ndFault n fetch none
    | d =>
      let size := (bundleSize (x.fetchHalf n) x.pc).getD 2
      if x.debug && x.staleIn x.pc size then s.hazard n 3 (mkFlt cHazard none (some x.pc))
      else match d with
        | .bundle ms => s.runBundle n ms
        | .fault k c => s.ndFault n (mkFlt c (some k)) none
        | .fetchFault => s

/-- The bundle at pc is fetched and tries to issue; `ecc` says that its bytes in the instruction store met an uncorrectable error
(R295), which counts in the engine's bucket (R433). -/
def State.fetchIssue (s : State) (n : Nat) (ecc : Bool) : State :=
  let x := s.nd n
  if ecc && (x.remap || decide (0x4000 ≤ x.pc)) && decide (x.pc < 0x40000) && s.imagesOk n then
    (s.ndEcc n (0x40000 + x.pc)).2.ndFault n (mkFlt cEcc none (some x.pc)) none
  else s.issueAt n

/-- BUNDLE_ISSUE: the engine's next bundle tries to issue. At a boundary the events that wait for one come first, and the
command is spent on the entry they make. -/
def actBundleIssue (n : Nat) (ecc : Bool) (s : State) : Host.Outcome State Fault Refusal :=
  let x := s.nd n
  if !s.ndRuns n then .next s
  else if x.x.entering.isSome then .next (s.tryEnter n)
  else if x.held then .next (s.issueAt n)
  else
    let x := if x.modeReq && x.x.shadow.isNone then
        { x with remap := s.ctlRemap n, debug := s.ctlDebug n, modeReq := false } else x
    let s := s.setNd n x
    match x.x.deferred with
    | some e =>
      -- a fault found at a trigger, for the boundary after its bundle
      .next (s.ndFault n (elemFault e.rec_ (e.element, e.cause, e.addr)).1 (some e))
    | none =>
      match x.x.storeFlt with
      | some (f, ef) => .next ((s.setNd n { x with x := { x.x with storeFlt := none } }).ndFault n f ef)
      | none =>
        match x.irqDue with
        | some c => .next (s.takeIrq n c)
        | none =>
          if x.x.resuming then .next (s.resume n)
          else if !x.u.longOp.isEmpty then .next (s.heldAt n false) else .next (s.fetchIssue n ecc)

/-! ## What units and time do between bundles -/

/-- Marks the oldest entry of a queue that is neither pushed nor waiting for a late operand or a count. -/
def pushOldest : List QEnt → Option (QEnt × List QEnt)
  | [] => none
  | e :: es =>
    if e.ready then (pushOldest es).map (fun r => (r.1, e :: r.2))
    else if e.late || decide (1 ≤ e.mark) then none
    else some (e, { e with ready := true } :: es)

/-- UNIT_RESULT_PUSH: a unit's oldest operation in flight finishes and its result enters the queue (R198, R305). LSU, STRM,
EVT and DIV results come by commands of their own. -/
def actUnitResultPush (n unit : Nat) (s : State) : Host.Outcome State Fault Refusal :=
  let x := s.nd n
  match unitOf unit with
  | none => .next s
  | some u =>
    if u = .lsu || u = .strm || u = .evt || u = .div || u.depth = 0 then .next s
    else
      let go (x : Needle) : Option (QEnt × Needle) :=
        match pushOldest (x.q 0 u) with
        | some r => some (r.1, x.setQ 0 u r.2)
        | none => (pushOldest (x.q 1 u)).map (fun r => (r.1, x.setQ 1 u r.2))
      if u = .bigm then
        match x.u.bigmOps with
        | [] => .next s
        | op :: ops =>
          if x.u.longOp.contains .bigm && ops.isEmpty then .next s
          else
            let y := { x with u := { x.u with bigmOps := ops } }
            .next (s.setNd n (if op then match go y with | some r => r.2 | none => y else y))
      else
        match go x with
        | none => .next s
        | some r => .next (if u = .fpu then (s.setNd n r.2).showFp n r.1.fp else s.setNd n r.2)

/-- Marks every entry of a queue pushed. -/
def pushAll (l : List QEnt) : List QEnt := l.map (fun e => { e with ready := true })

/-- LONG_OP_COMPLETE (R256): the first of the long operations of a bundle completes, and issue goes on with the last: DIV's pair is
in the queue, BIGM.inv and every operation before it are done, an ifence has drained the stores and prefetch, a fence finds
every earlier access done. The cycles that it held the next bundle are a free number (R322). -/
def actLongOpComplete (n : Nat) (s : State) : Host.Outcome State Fault Refusal :=
  let s := if (s.nd n).u.longOp.isEmpty then s else s.heldCycles n 0
  let x := s.nd n
  let y := { x with u := { x.u with longOp := x.u.longOp.tail } }
  match x.u.longOp with
  | [] => .next s
  | .div :: _ => .next (s.setNd n ((y.setQ 0 .div (pushAll (y.q 0 .div))).setQ 1 .div (pushAll (y.q 1 .div))))
  | .bigm :: _ =>
    let y := (y.setQ 0 .bigm (pushAll (y.q 0 .bigm))).setQ 1 .bigm (pushAll (y.q 1 .bigm))
    .next (s.setNd n { y with u := { y.u with bigmOps := [] } })
  | _ :: _ =>
    let y := { y with u := { y.u with fence := false } }
    if x.u.fence then
      if x.m.sbuf.isEmpty && x.loadsOut == 0 then .next (s.setNd n y) else .next s
    else
      let s := (s.setNd n y).storeAll n
      let z := s.nd n
      -- a store that must wait in the Hub holds the ifence too
      if z.m.sbuf.isEmpty then .next (s.setNd n { z with m := { z.m with stale := [] } })
      else .next (s.setNd n { z with u := { z.u with longOp := x.u.longOp } })

/-- BUDGET_EXPIRY (R296): source 2, for a running invocation. -/
def actBudgetExpiry (n : Nat) (s : State) : Host.Outcome State Fault Refusal :=
  if (s.nd n).inv.isSome then .next (s.raiseIrq n 2) else .next s

/-- FITTER_INTERRUPT: source 3. -/
def actFitterInterrupt (n : Nat) (s : State) : Host.Outcome State Fault Refusal :=
  if s.fitterAlive && decide (n ≤ 64) then .next (s.raiseIrq n 3) else .next s

/-- DEBUG_HALT: source 4, while the debug master's access is open (R349, R470). -/
def actDebugHalt (n : Nat) (s : State) : Host.Outcome State Fault Refusal :=
  if s.debugOpen && decide (n ≤ 64) then .next (s.raiseIrq n 4) else .next s

/-- WATCHDOG_EXPIRY (R295): the bundle that is held faults; Needles count it. -/
def actWatchdogExpiry (n : Nat) (s : State) : Host.Outcome State Fault Refusal :=
  let x := s.nd n
  if !s.ndRuns n || x.x.entering.isSome || !(x.held || !x.u.longOp.isEmpty) then .next s
  else
    let s := if n < 64 then s.countSat .ndlCount_watchdog n else s
    let s := if n < 64 && decide (1 ≤ x.priv) then s.bucketEvent n 1 else s
    .next (s.ndFault n (mkFlt cWatchdog) none)

/-- CRIT_WINDOW_EXPIRY (R299): the window closes; one that has reached the cap was ended by force. -/
def actCritWindowExpiry (n : Nat) (s : State) : Host.Outcome State Fault Refusal :=
  let x := s.nd n
  match x.x.crit with
  | none => .next s
  | some c =>
    let s := s.setNd n x.closeCrit
    if n < 64 && decide (s.critCap n ≤ s.cyclesIn n (c.since - c.opened) + c.asked) then
      .next (s.countSat .ndlCount_critOverrun n)
    else .next s

end Sys2Proof.Machine
end

