-- ==== Sys2Proof/Machine/PkOps.lean ====
section
/-! DEFINITION. Public-key operations (0x02xx) and MACs (R111-R113). -/

namespace Sys2Proof.Machine

open Sys2Proof

/-! ## Algorithms (R89, R112) -/

/-- The key types (R96) an algorithm takes. -/
def algTypes (alg : Nat) : List Nat :=
  if alg = 0x01 ∨ alg = 0x0E then [0x10] else if alg = 0x02 ∨ alg = 0x0F then [0x11]
  else if alg = 0x03 ∨ alg = 0x10 then [0x12] else if alg = 0x04 then [0x13]
  else if 0x05 ≤ alg ∧ alg ≤ 0x07 then [0x14, 0x15, 0x16, 0x17, 0x18]
  else if 0x08 ≤ alg ∧ alg ≤ 0x0A then [0x23 + (alg - 0x08)]
  else if 0x0B ≤ alg ∧ alg ≤ 0x0D then [0x20 + (alg - 0x0B)]
  else if 0x28 ≤ alg ∧ alg ≤ 0x2D then [0x07] else []

/-- Does a key type fit an algorithm? A private operation needs the private form. -/
def algFits (alg : Nat) (priv : Bool) (kt : Nat) : Bool :=
  (algTypes alg).contains (kt % 0x8000) && !(priv && isPublicOnly kt)

def isEcdsa (alg : Nat) : Bool := alg == 1 || alg == 2 || alg == 3
def isMlDsa (alg : Nat) : Bool := alg == 8 || alg == 9 || alg == 0x0A
def isRsaSig (alg : Nat) : Bool := alg == 5 || alg == 6

/-- Does an opcode take this algorithm? PUBKEY_EXPORT takes none and reads no algorithm. -/
def opTakes (op alg : Nat) : Bool :=
  if op = 0x0201 ∨ op = 0x0202 then isEcdsa alg || alg == 4 || isRsaSig alg || isMlDsa alg
  else if op = 0x0203 then decide (0x0E ≤ alg ∧ alg ≤ 0x10)
  else if op = 0x0204 ∨ op = 0x0205 then alg == 7
  else if op = 0x0206 ∨ op = 0x0207 then decide (0x0B ≤ alg ∧ alg ≤ 0x0D)
  else if op = 0x0304 then decide (0x28 ≤ alg ∧ alg ≤ 0x2C)
  else if op = 0x0305 then decide (0x28 ≤ alg ∧ alg ≤ 0x2D)
  else true

/-- The hash params[3:1] names. -/
def paramHash (p : Nat) : Hash.Alg :=
  match p / 2 % 8 with
  | 0 => .sha256 | 1 => .sha384 | 2 => .sha512 | 3 => .sha3_256 | _ => .sha3_512

/-- The hash of an HMAC algorithm. -/
def macHash (alg : Nat) : Hash.Alg :=
  if alg = 0x28 then .sha256 else if alg = 0x29 then .sha384 else if alg = 0x2A then .sha512
  else if alg = 0x2B then .sha3_256 else if alg = 0x2C then .sha3_512 else .sha1

/-- The params bits an operation uses (R112); all others are zero. -/
def paramsOk (op alg p : Nat) : Bool :=
  if op = 0x0201 ∨ op = 0x0202 then
    if alg = 4 ∨ isMlDsa alg then p == 0 else decide (p < 16 ∧ p / 2 % 8 ≤ 4)
  else if op = 0x0204 then decide (p < 16 ∧ p % 2 = 0 ∧ p / 2 % 8 ≤ 4)
  else if op = 0x0205 then decide (p < 32 ∧ p % 2 = 0 ∧ p / 2 % 8 ≤ 4)
  else p == 0

/-- The signature length of an algorithm under a key type. -/
def sigLen (alg kt : Nat) : Nat :=
  match alg with
  | 1 => 64 | 2 => 96 | 3 => 132 | 4 => 64 | 8 => 2420 | 9 => 3309 | 10 => 4627 | _ => rsaLen kt

/-! ## The common body (R111) -/

def Work.key (w : Work) : Nat := w.f 8 8
def Work.inA (w : Work) : Nat := w.f 16 8
def Work.outA (w : Work) : Nat := w.f 24 8
def Work.auxA (w : Work) : Nat := w.f 32 8
def Work.inN (w : Work) : Nat := w.f 40 4
def Work.cap (w : Work) : Nat := w.f 44 4
def Work.auxN (w : Work) : Nat := w.f 48 4
def Work.alg (w : Work) : Nat := w.f 52 1
def Work.pkKind (w : Work) : Nat := w.f 53 1 % 4
def Work.params (w : Work) : Nat := w.f 54 2

/-- RSA decryption to an entry. -/
def Work.toEntry (w : Work) : Bool := w.opcode == 0x0205 && bitOf w.params 4

/-- The kinds an opcode's key takes (R112). -/
def pkKinds (op : Nat) : List Nat :=
  if op = 0x0202 ∨ op = 0x0204 ∨ op = 0x0206 then [0, 2, 3] else if op = 0x0208 then [0] else [0, 2]

/-- Does the operation write out_addr? -/
def Work.hasOut (w : Work) : Bool :=
  w.opcode == 0x0201 || w.opcode == 0x0204 || (w.opcode == 0x0205 && !w.toEntry) || w.opcode == 0x0206
    || w.opcode == 0x0208 || w.opcode == 0x0304

/-- Does it read aux_addr? -/
def Work.hasAux (w : Work) : Bool :=
  (w.opcode == 0x0201 && isMlDsa w.alg) || w.opcode == 0x0202 || w.opcode == 0x0204 || w.opcode == 0x0205
    || w.opcode == 0x0305

/-- The greatest and least auxiliary length. -/
def Work.auxOk (w : Work) : Bool :=
  if w.opcode = 0x0201 then decide (w.auxN ≤ 255)
  else if w.opcode = 0x0204 ∨ w.opcode = 0x0205 then decide (w.auxN ≤ 1024)
  else if w.opcode = 0x0305 then
    if w.alg = 0x2D then decide (10 ≤ w.auxN ∧ w.auxN ≤ 20)
    else decide (16 ≤ w.auxN ∧ w.auxN ≤ Hash.outLen (macHash w.alg))
  else true

/-- The input length: a message of at most 1 MiB, or the digest when prehashed. -/
def Work.inOk (w : Work) : Bool :=
  if w.opcode = 0x0201 ∨ w.opcode = 0x0202 then
    if bitOf w.params 0 then w.inN == Hash.outLen (paramHash w.params)
    else w.opcode == 0x0202 || decide (w.inN ≤ 2 ^ 20)
  else w.opcode != 0x0304 || decide (w.inN ≤ 2 ^ 20)

/-- The output length where the algorithm alone gives it. -/
def Work.fixedOut (w : Work) : Nat :=
  if w.opcode = 0x0201 ∧ !isRsaSig w.alg then sigLen w.alg 0
  else if w.opcode = 0x0206 then Lattice.kemCtLen (kemOf (0x20 + (w.alg - 0x0B)))
  else if w.opcode = 0x0304 then Hash.outLen (macHash w.alg) else 0

/-- The checks of R98 step 4. -/
def Work.pkChecks (w : Work) : List (Nat × Bool) :=
  let takes := opTakes w.opcode w.alg
  w.header ++
    [(8, !(w.pkKind == 3 && w.key == 0 && (pkKinds w.opcode).contains 3)), (24, w.hasOut || w.outA == 0),
     (32, w.hasAux || w.auxA == 0), (40, w.inOk),
     (44, !takes || decide (w.fixedOut ≤ w.cap)), (48, if w.hasAux then !takes || w.auxOk else w.auxN == 0), (52, takes),
     (53, decide (w.f 53 1 < 4) && (pkKinds w.opcode).contains w.pkKind), (54, paramsOk w.opcode w.alg w.params),
     (56, w.f 56 8 == 0)]

/-- The modulus length a public RSA key given by address has: the signature's for VERIFY, else the longest that the output
capacity holds (log 31). -/
def Work.rsaAsked (w : Work) : Nat :=
  let n := if w.opcode = 0x0202 then w.auxN else w.cap
  let l := [0x8018, 0x8017, 0x8016, 0x8015].find? (fun t =>
    if w.opcode = 0x0202 then rsaLen t == n else decide (rsaLen t ≤ n))
  l.getD 0x8014

/-- The type of a public key given by address. -/
def Work.pubType (w : Work) : Nat :=
  match algTypes w.alg with
  | [t] => t + 0x8000
  | _ => w.rsaAsked

/-- Steps 4 to 6 of R98: the key operand, when everything is in order. -/
def State.pkKey (s : State) (w : Work) (quota priv : Bool) (use : List Nat) : Chk KeyMat := do
  let tenant := s.tenantOf w.sq
  needFields w.pkChecks
  needQuota (!quota || s.entryRoom tenant) 1
  let k ← s.keyOperand w.h tenant w.pkKind w.key 8 w.pubType
  checkTypeUse k 8 (algFits w.alg priv) use
  return k

/-! ## Operations -/

/-- The digest an operation signs: the input itself when prehashed. -/
def Work.digest (w : Work) (msg : Bs) : Bs := if bitOf w.params 0 then msg else Hash.digest (paramHash w.params) msg

/-- A signature under a key, with the DRBG's bytes where the algorithm draws some. -/
def signWith (w : Work) (k : KeyMat) (msg ctx : Bs) (rnd : Nat → Nat) : Bs :=
  let bytes := fun n => (List.range n).map (fun i => rnd i % 256)
  let a := paramHash w.params
  if isEcdsa w.alg then
    let c := curveOf k.keyType
    Pk.ecdsaSign c (valBe (k.material.take c.len)) (w.digest msg) (rnd 0 % (c.n - 1) + 1)
  else if w.alg = 4 then Pk.edSign (k.material.take 32) msg
  else if w.alg = 5 then Pk.pssSign a (Pk.rsaPrivOf (rsaLen k.keyType) k.material) (w.digest msg) (bytes (Hash.outLen a))
  else if w.alg = 6 then Pk.pkcs1Sign a (Pk.rsaPrivOf (rsaLen k.keyType) k.material) (w.digest msg)
  else Lattice.dsaSign (dsaOf k.keyType) k.material ctx msg (bytes 32)

/-- Does a signature verify under a public key? One of the wrong length does not. -/
def verifyWith (w : Work) (kt : Nat) (pub msg sig : Bs) : Bool :=
  let a := paramHash w.params
  sig.length == sigLen w.alg kt &&
    (if isEcdsa w.alg then Pk.ecdsaVerify (curveOf kt) pub (w.digest msg) sig
    else if w.alg = 4 then Pk.edVerify pub msg sig
    else if w.alg = 5 then Pk.pssVerify a (Pk.rsaPubOf (rsaLen kt) pub) (w.digest msg) sig
    else if w.alg = 6 then Pk.pkcs1Verify a (Pk.rsaPubOf (rsaLen kt) pub) (w.digest msg) sig
    else Lattice.dsaVerify (dsaOf kt) pub [] msg sig)

/-- The DRBG's draws from the current count on, and the state that has made `n` of them. -/
def State.draws (s : State) (n : Nat) : (Nat → Nat) × State :=
  let c := s.freeCtr
  (fun i => Config.free (c + i), { s with freeCtr := s.freeCtr + n })

/-- The host buffers a public-key operation reads: input, auxiliary bytes, key (R102). -/
def Work.pkBufs (w : Work) : List (Nat × Nat) :=
  [(w.inA, w.inN), (w.auxA, w.auxN)] ++ keyBuf w.h w.pkKind w.key ((matLen w.pubType).getD (0, 0)).1

/-- SIGN (0x0201). -/
def performSign (w : Work) (s : State) : State := s.settleChk w (do
  let k ← s.pkKey w false true [uSign]
  let n := sigLen w.alg k.keyType
  needField (decide (n ≤ w.cap)) 44
  let s := s.touchKey w.h w.pkKind w.key
  return s.readOr w w.inA w.inN (w.outA, n) (fun msg => s.readOr w w.auxA w.auxN (w.outA, n) (fun ctx =>
    let d := s.draws 64
    let sig := signWith w k (natsOf msg) (natsOf ctx) d.1
    ((d.2).hostOut w w.outA (bytesOf sig) w.pkBufs).complete w stOk n)))

/-- VERIFY (0x0202). -/
def performVerify (w : Work) (s : State) : State := s.settleChk w (do
  let k ← s.pkKey w false false [uVerify]
  let s := s.touchKey w.h w.pkKind w.key
  return s.readOr w w.inA w.inN (0, 0) (fun msg => s.readOr w w.auxA w.auxN (0, 0) (fun sig =>
    s.completeIf w (verifyWith w k.keyType (publicOf k.keyType k.material) (natsOf msg) (natsOf sig)) 0)))

/-- ECDH (0x0203, R95, R113). -/
def performEcdh (w : Work) (s : State) : State := s.settleChk w (do
  let k ← s.pkKey w true true [uAgree]
  let s := s.touchKey w.h w.pkKind w.key
  let c := curveOf k.keyType
  return s.readOr w w.inA w.inN (0, 0) (fun peer =>
    match Pk.ecdh c (valBe (k.material.take c.len)) (natsOf peer) with
    | some x => s.newSecret w k.shard x
    | none => s.complete w stVerifyFalse 0))

/-- RSA_ENCRYPT (0x0204). -/
def performRsaEncrypt (w : Work) (s : State) : State := s.settleChk w (do
  let k ← s.pkKey w false false [uEncrypt]
  let n := rsaLen k.keyType
  let a := paramHash w.params
  needField (decide (w.inN + 2 * Hash.outLen a + 2 ≤ n)) 40
  needField (decide (n ≤ w.cap)) 44
  let s := s.touchKey w.h w.pkKind w.key
  return s.readOr w w.inA w.inN (w.outA, n) (fun msg => s.readOr w w.auxA w.auxN (w.outA, n) (fun label =>
    let r := s.freshBytes (Hash.outLen a)
    let ct := Pk.oaepEncrypt a (Pk.rsaPubOf n (publicOf k.keyType k.material)) (natsOf label) (natsOf msg) (natsOf r.1)
    ((r.2).hostOut w w.outA (bytesOf ct) w.pkBufs).complete w stOk n)))

/-- What RSA_DECRYPT does with a plaintext: an entry for 16 to 64 bytes, or the output buffer. Another length for an entry is
BAD_DESCRIPTOR at params, which asked for the entry: DESIGN CHOICE (log 118). -/
def State.rsaPlain (s : State) (w : Work) (k : KeyMat) (p : Bs) : State :=
  if w.toEntry then
    if 16 ≤ p.length ∧ p.length ≤ 64 then s.newSecret w k.shard p else s.complete w stBadDescriptor (resultOf 54 0 0)
  else if p.length ≤ w.cap then
    (s.hostOut w w.outA (bytesOf p) w.pkBufs).complete w stOk p.length
  else s.complete w stBadDescriptor (resultOf 44 0 0)

/-- RSA_DECRYPT (0x0205, R113). -/
def performRsaDecrypt (w : Work) (s : State) : State := s.settleChk w (do
  let k ← s.pkKey w w.toEntry true [uDecrypt]
  let n := rsaLen k.keyType
  let s := s.touchKey w.h w.pkKind w.key
  let dst := if w.toEntry then (0, 0) else (w.outA, min w.cap n)
  return s.readOr w w.inA w.inN dst (fun ct => s.readOr w w.auxA w.auxN dst (fun label =>
    match (if ct.length = n then
        Pk.oaepDecrypt (paramHash w.params) (Pk.rsaPrivOf n k.material) (natsOf label) (natsOf ct) else none) with
    | some p => s.rsaPlain w k p
    | none => s.complete w stVerifyFalse 0)))

/-- Is there an index and extension room for a secret of `n` bytes in a shard (R95)? -/
def State.secretFits (s : State) (shard n : Nat) : Bool :=
  (s.extAlloc (extBlocksFor 8 n)).isSome && (s.allocIndex shard).isSome

/-- KEM_ENCAPS (0x0206): nothing is written when no entry can be made. -/
def performKemEncaps (w : Work) (s : State) : State := s.settleChk w (do
  let k ← s.pkKey w true false [uAgree]
  let par := kemOf k.keyType
  let ek := publicOf k.keyType k.material
  needField (Lattice.kemKeyOk par ek) 8
  let s := s.touchKey w.h w.pkKind w.key
  needQuota (s.secretFits k.shard 32) 1
  let r := s.freshBytes 32
  let e := Lattice.kemEncaps par ek (natsOf r.1)
  return ((r.2).hostOut w w.outA (bytesOf e.2) w.pkBufs).newSecret w k.shard e.1)

/-- KEM_DECAPS (0x0207): a malformed ciphertext yields the implicit-rejection secret. -/
def performKemDecaps (w : Work) (s : State) : State := s.settleChk w (do
  let k ← s.pkKey w true true [uAgree]
  let s := s.touchKey w.h w.pkKind w.key
  return s.readOr w w.inA w.inN (0, 0) (fun ct =>
    s.newSecret w k.shard (Lattice.kemDecaps (kemOf k.keyType) k.material (natsOf ct))))

/-- PUBKEY_EXPORT (0x0208): types with a public form. -/
def performPubkeyExport (w : Work) (s : State) : State := s.settleChk w (do
  needFields w.pkChecks
  let k ← s.keyOperand w.h (s.tenantOf w.sq) w.pkKind w.key 8 0
  checkTypeUse k 8 (fun kt => decide (0x10 ≤ kt % 0x8000)) []
  let pub := publicOf k.keyType k.material
  needField (decide (pub.length ≤ w.cap)) 44
  let s := s.touchKey w.h w.pkKind w.key
  return (s.hostOut w w.outA (bytesOf pub) w.pkBufs).complete w stOk pub.length)

/-- HMAC-SHA-1 may only be verified (R88). -/
def Work.macSupported (w : Work) : Chk Unit := need (w.alg != 0x2D) (fail stUnsupported 52 0 w.opcode)

/-- MAC (0x0304). -/
def performMac (w : Work) (s : State) : State := s.settleChk w (do
  w.macSupported
  let k ← s.pkKey w false true [uMac]
  let n := Hash.outLen (macHash w.alg)
  let s := s.touchKey w.h w.pkKind w.key
  return s.readOr w w.inA w.inN (w.outA, n) (fun msg =>
    (s.hostOut w w.outA (bytesOf (Hash.hmac (macHash w.alg) k.material (natsOf msg))) w.pkBufs).complete w stOk n))

/-- MAC_VERIFY (0x0305). -/
def performMacVerify (w : Work) (s : State) : State := s.settleChk w (do
  let k ← s.pkKey w false true [uMac]
  let s := s.touchKey w.h w.pkKind w.key
  return s.readOr w w.inA w.inN (0, 0) (fun msg => s.readOr w w.auxA w.auxN (0, 0) (fun exp =>
    s.completeIf w (((Hash.hmac (macHash w.alg) k.material (natsOf msg)).take w.auxN) == natsOf exp) 0)))

end Sys2Proof.Machine
end

