-- ==== Sys2Proof/Machine/ProgOps.lean ====
section
/-! DEFINITION. Tenant programs, 0x0601 to 0x0603 (R123, R124, R464, R465). -/

namespace Sys2Proof.Machine

open Sys2Proof

/-- A slot nothing has been loaded into: generation 1. -/
def progDefault (_ : Nat) : Prog :=
  { live := false, gen := 1, tenant := 0, entries := [], code := [], rodata := [], data := [], place := 0 }
def State.prog (s : State) (i : Nat) : Prog := Store.get progDefault s.thm.progs i
def State.setProg (s : State) (i : Nat) (p : Prog) : State :=
  s.setThm { s.thm with progs := Store.put progDefault s.thm.progs i p }

/-! ## LOAD (R464, R465) -/

/-- Lengths of a program image's header: code, rodata, data. -/
def progCode (hd : List Byte) : Nat := leAt hd 12 4
def progRo (hd : List Byte) : Nat := leAt hd 16 4
def progData (hd : List Byte) : Nat := leAt hd 20 4
def progEntries (hd : List Byte) : List Nat := (List.range 16).map (fun i => leAt hd (32 + 4 * i) 4)

/-- The header fields of R464, and the descriptor's length. -/
def progHeaderOk (hd : List Byte) (n : Nat) : Bool :=
  let c := progCode hd
  leAt hd 0 4 == 0x50494C4F && leAt hd 4 2 == 1 && leAt hd 8 4 == n && n == 256 + c + progRo hd + progData hd
    && decide (c ≤ 229376 ∧ c % 2 = 0 ∧ progRo hd ≤ 81664 ∧ progData hd ≤ 229376) && leAt hd 24 8 == 0
    && leAt hd 96 28 == 0
    && (progEntries hd).all (fun e => e == 0xFFFFFFFF || decide (e < c ∧ e % 2 = 0))

/-- The length of a program's image, and its first byte in DDR5. -/
def Prog.size (p : Prog) : Nat := 256 + p.code.length + p.rodata.length + p.data.length
def State.progAt (s : State) (p : Prog) : Nat := s.progBase * 2 ^ 22 + p.place

/-- The lowest place in the program store where an image of `n` bytes fits between those held. DESIGN CHOICE (log 119). -/
def State.progRoom (s : State) (n : Nat) : Option Nat :=
  let held := ((s.thm.progs.filter (fun p => p.2.live)).map (fun p => (p.2.place, p.2.size)))
  let fits := fun a => decide (a + n ≤ s.rd .thmProg_size4mib * 2 ^ 22)
    && held.all (fun r => decide (r.1 + r.2 ≤ a ∨ a + n ≤ r.1))
  ((0 :: held.map (fun r => r.1 + r.2)).filter fits).min?

/-- The lowest free slot, and the image's place, while the store lies in the usable DDR5 (R394, R465). -/
def State.freeSlot (s : State) (n : Nat) : Option (Nat × Nat) :=
  if s.progBase * 2 ^ 22 + s.rd .thmProg_size4mib * 2 ^ 22 ≤ s.ddrUsable then
    match (List.range 256).find? (fun i => !(s.prog i).live), s.progRoom n with
    | some i, some a => some (i, a)
    | _, _ => none
  else none

/-- An image's bytes in DDR5, as the device reads them: on a fenced channel RESOURCE_RETIRED, uncorrectable DMA_FAULT (R25,
R100). -/
def State.progRead (s : State) (p : Prog) : Chk (List Byte) :=
  let a := s.progAt p
  match s.fencedUnit a p.size with
  | some u => .error (fail stResourceRetired 0xFF 1 u)
  | none =>
    let r := s.ddrRead repThimble a p.size
    if r.1 = Resp.ecc then .error (fail stDmaFault 0xFF 1) else .ok (s.ddrView a p.size)

/-- Does an image's signature verify under a signer's key? It is zero-padded to 132 bytes. -/
def progSigned (k : KeyMat) (img : Bs) : Bool :=
  let c := curveOf k.keyType
  let sig := (img.drop 124).take 132
  Pk.ecdsaVerify c (publicOf k.keyType k.material) (Hash.sha512 (img.take 124 ++ img.drop 256)) (sig.take (2 * c.len))
    && (sig.drop (2 * c.len)).all (fun b => b == 0)

/-- LOAD (0x0601). -/
def performLoad (w : Work) (s : State) : State := s.settleChk w (do
  let tenant := s.tenantOf w.sq
  let n := w.f 24 4
  let kind := w.f 28 1
  needFields (w.header ++ [(24, decide (256 ≤ n ∧ n ≤ 540672)), (28, kind == 0 || kind == 2), (29, w.f 29 35 == 0)])
  let hd ← dmaRead w.h (w.f 8 8) 256
  needField (progHeaderOk hd n) 24
  let mine := (s.thm.progs.filter (fun p => p.2.live && p.2.tenant == tenant)).length
  match if mine < (s.quota tenant).programs then s.freeSlot n else none with
  | none => .error (fail stQuota 0xFF 3)
  | some (i, at_) =>
    let k ← s.keyOperand w.h tenant kind (w.f 16 8) 16 0
    checkTypeUse k 16 isEc [uSigner]
    let s := s.touchKey w.h kind (w.f 16 8)
    need (leAt hd 6 2 == tenant || leAt hd 6 2 == 0xFFFF) (fail stAccessDenied 0xFF 4)
    return s.readOr w (w.f 8 8) n (0, 0) (fun img =>
      if progSigned k (natsOf img) then
        let c := progCode hd
        let p : Prog :=
          { live := true, gen := (s.prog i).gen, tenant, entries := progEntries hd, code := sub img 256 c,
            rodata := sub img (256 + c) (progRo hd), data := img.drop (256 + c + progRo hd), place := at_ }
        match s.fencedUnit (s.progAt p) n with
        | some u => s.complete w stResourceRetired (resultOf 0xFF 1 u)
        | none => ((s.cacheWrite repThimble (s.progAt p) img).2.setProg i p).complete w stOk (i + 256 * p.gen)
      else s.complete w stVerifyFalse 0))

/-! ## INVOKE and UNLOAD -/

/-- A program ID of the caller's: slot and generation. -/
def State.progRef (s : State) (w : Work) : Chk Nat := do
  let id := w.f 8 2
  let p := s.prog (id % 256)
  need (p.live && p.gen == id / 256) (fail stHandleStale 8 3)
  need (p.tenant == s.tenantOf w.sq) (fail stAccessDenied 8 1)
  return id % 256

/-- A key operand of a program: none, a handle or a blob, usage program. -/
def State.progKey (s : State) (w : Work) (kind off : Nat) : Chk Unit :=
  if kind = 3 then .ok ()
  else do
    let k ← s.keyOperand w.h (s.tenantOf w.sq) kind (w.f off 8) off 0
    checkTypeUse k off (fun _ => true) [uProgram]

/-- May a Needle take an invocation: in service, of no other use, free (R123)? -/
def State.needleIdle (s : State) (n : Nat) : Bool :=
  s.needleThere n && s.flag .ndlCtrl_inService n && !s.flag .ndlCtrl_vaultAssign n && !s.ndInReset n && !s.ndLocked n
    && s.isReady (readyCluster (n / 8)) && (s.nd n).inv.isNone

/-- The lowest Needle that may take an invocation. -/
def State.idleNeedle (s : State) : Option Nat := (List.range 64).find? s.needleIdle

/-- Does a Needle's service queue do the work of this descriptor: public keys, passwords, sessions and programs (R22)? -/
def Work.byNeedle (w : Work) : Bool := [2, 3, 5, 6].contains (w.opcode / 256)

/-- The Needle that serves it: the lowest in service and free; an invocation takes one of no other use (R123). Which one is a
DESIGN CHOICE (log 133). -/
def State.servingNeedle (s : State) (w : Work) : Option Nat :=
  if w.opcode = 0x0602 then s.idleNeedle
  else if w.byNeedle then
    (List.range 64).find? (fun n => s.needleThere n && s.flag .ndlCtrl_inService n && !s.ndInReset n && !s.ndLocked n
      && s.isReady (readyCluster (n / 8)) && (s.nd n).inv.isNone)
  else none

/-- Before it starts, what the Needle holds of another tenant is cleared (R276). -/
def State.serveWork (s : State) (w : Work) : State :=
  { s with ndl := match s.servingNeedle w with
                  | some n => (s.ndServe n (s.tenantOf w.sq)).ndl
                  | none => s.ndl }

/-- Starts a program on a Needle from its image: its code at a place in the instruction store the spec does not give, its data
at the start of the D-store, Tenant privilege (log 21). -/
def State.startProg (s : State) (n : Nat) (p : Prog) (img : List Byte) (entry : Nat) (i : Inv) : State :=
  let s := s.ndServe n i.tenant
  let r := s.fresh 17
  let s := r.2
  let x := s.nd n
  let m := { x.m with istore := Store.putAll zeroByte x.m.istore (2 * r.1) (sub img 256 p.code.length),
                      dstore := Store.putAll zeroByte x.m.dstore 0 (img.drop (256 + p.code.length + p.rodata.length)) }
  s.setNd n
    { x with pc := 2 * r.1 + entry, priv := 0, loops := [], branch := none, held := false, inv := some i, m,
             x := { x.x with handler := false, dlevel := false, shadow := none, owed := false, entering := none,
                             deferred := none, resuming := false } }

/-- The checks of INVOKE: the program's slot and the code offset of its entry. -/
def State.invokeChecks (s : State) (w : Work) : Chk (Nat × Nat) := do
  let kinds := w.f 11 1
  let kOk := fun (k : Nat) => k != 1
  needFields (w.header ++
    [(10, decide (w.f 10 1 < 16)), (11, kOk (kinds % 4) && kOk (kinds / 4 % 4) && kinds / 16 == 0),
     (12, decide (1 ≤ w.f 12 4 ∧ w.f 12 4 ≤ 1000000)), (32, decide (w.f 32 4 ≤ 2 ^ 20)), (36, decide (w.f 36 4 ≤ 2 ^ 20)),
     (40, kinds % 4 != 3 || w.f 40 8 == 0), (48, kinds / 4 % 4 != 3 || w.f 48 8 == 0), (56, w.f 56 8 == 0)])
  let p ← s.progRef w
  s.progKey w (kinds % 4) 40
  s.progKey w (kinds / 4 % 4) 48
  let e := (s.prog p).entries.getD (w.f 10 1) 0xFFFFFFFF
  needField (e != 0xFFFFFFFF) 10
  return (p, e)

/-- INVOKE (0x0602): one that goes on running takes a free Needle, and waits for one; one that is at its end has written its
output. -/
def performInvoke (w : Work) (s : State) : State := s.settleChk w (do
  let (p, e) ← s.invokeChecks w
  let tenant := s.tenantOf w.sq
  let inB := (w.f 16 8, w.f 32 4)
  let outB := (w.f 24 8, w.f 36 4)
  let on := s.idleNeedle
  if w.fin = .running ∧ on = none then return s.moveWork w .fenced
  else
    let img ← s.progRead (s.prog p)
    let s := (s.touchKey w.h (w.f 11 1 % 4) (w.f 40 8)).touchKey w.h (w.f 11 1 / 4 % 4) (w.f 48 8)
    return s.readOr w inB.1 inB.2 outB (fun _ =>
      match w.fin with
      | .ok ret out =>
        let out := out.take outB.2
        (s.hostOut w outB.1 out (inB :: keyBuf w.h (w.f 11 1 % 4) (w.f 40 8) 0
          ++ keyBuf w.h (w.f 11 1 / 4 % 4) (w.f 48 8) 0)).complete w stOk (out.length + 2 ^ 32 * ret.toNat)
      | .running =>
        (s.moveWork w .running).startProg (on.getD 0) (s.prog p) img e
          { sq := w.sq, cid := w.d.cid.toNat, tenant, bufs := [inB, outB], out := outB, flt := none }))

/-- UNLOAD (0x0603): the slot is free and its generation advances, wrapping 255 to 1. -/
def performUnload (w : Work) (s : State) : State := s.settleChk w (do
  needFields (w.header ++ [(10, w.f 10 54 == 0)])
  let i ← s.progRef w
  let g := (s.prog i).gen
  return (s.setProg i { progDefault i with gen := if g ≥ 255 then 1 else g + 1 }).complete w stOk 0)

end Sys2Proof.Machine
end

