-- ==== Sys2Proof/Machine/PwOps.lean ====
section
/-! DEFINITION. Password hashing and derivation, 0x0301 to 0x0303 (R114-R117). -/

namespace Sys2Proof.Machine

open Sys2Proof

/-! ## The body (R114) -/

def Work.pwdA (w : Work) : Nat := w.f 8 8
def Work.saltA (w : Work) : Nat := w.f 16 8
def Work.tagA (w : Work) : Nat := w.f 24 8
def Work.pepper (w : Work) : Nat := w.f 32 8
def Work.costM (w : Work) : Nat := w.f 40 4
def Work.costT (w : Work) : Nat := w.f 44 4
def Work.pwdN (w : Work) : Nat := w.f 48 2
def Work.saltN (w : Work) : Nat := w.f 50 2
def Work.tagN (w : Work) : Nat := w.f 52 1
def Work.pepKind (w : Work) : Nat := w.f 53 1 % 4
def Work.residency (w : Work) : Nat := w.f 53 1 / 4 % 4
def Work.costP (w : Work) : Nat := w.f 54 1
def Work.pwAlg (w : Work) : Nat := w.f 55 1

def Work.isArgon (w : Work) : Bool := decide (0x20 ≤ w.pwAlg ∧ w.pwAlg ≤ 0x22)
def Work.isScrypt (w : Work) : Bool := w.pwAlg == 0x23
def Work.isPbkdf (w : Work) : Bool := decide (0x24 ≤ w.pwAlg ∧ w.pwAlg ≤ 0x26)

/-- Hash memory in bytes (R116); a log2 N past its limit counts as the limit. -/
def Work.hashMem (w : Work) : Nat :=
  if w.isArgon then w.costM * 1024 else if w.isScrypt then 128 * w.costT * 2 ^ (min w.costM 20) else 0

/-- Is the hash memory in the Bolt scratch region (R117)? -/
def Work.hashInBolt (w : Work) : Bool := w.residency == 1 || (w.residency == 0 && decide (w.hashMem ≤ 2 ^ 24))

/-- Does it need DDR5 (R22, R117)? -/
def Work.hashInDdr (w : Work) : Bool := decide (w.hashMem > 0) && !w.hashInBolt

/-- The limits of R116, by offset. -/
def Work.pwLimits (w : Work) : List (Nat × Bool) :=
  if w.isArgon then
    [(40, decide (8 * w.costP ≤ w.costM ∧ w.costM ≤ 2 ^ 20)), (44, decide (1 ≤ w.costT ∧ w.costT ≤ 64)),
     (50, decide (8 ≤ w.saltN ∧ w.saltN ≤ 1024)), (54, decide (1 ≤ w.costP ∧ w.costP ≤ 16))]
  else if w.isScrypt then
    [(40, decide (1 ≤ w.costM ∧ w.costM ≤ 20)
        && (decide (128 * w.costT * 2 ^ (min w.costM 20) ≤ 2 ^ 30) || decide (32 < w.costT))),
     (44, decide (1 ≤ w.costT ∧ w.costT ≤ 32)), (50, decide (8 ≤ w.saltN ∧ w.saltN ≤ 1024)),
     (54, decide (1 ≤ w.costP ∧ w.costP ≤ 16))]
  else
    [(40, decide (1000 ≤ w.costM)), (44, w.costT == 0), (50, decide (16 ≤ w.saltN ∧ w.saltN ≤ 1024)),
     (53, w.residency == 0), (54, w.costP == 0)]

/-- The checks of R98 step 4: only Argon2 takes a key operand (R115). -/
def Work.pwChecks (w : Work) : List (Nat × Bool) :=
  let known := w.isArgon || w.isScrypt || w.isPbkdf
  w.header ++ (if known then w.pwLimits else []) ++
    [(24, w.opcode != 0x0303 || w.tagA == 0),
     (32, if w.isArgon then w.pepKind != 3 || w.pepper == 0 else w.pepKind == 3 && w.pepper == 0),
     (48, decide (w.pwdN ≤ 1024)),
     (52, if w.opcode = 0x0303 then decide (16 ≤ w.tagN ∧ w.tagN ≤ 64) else decide (4 ≤ w.tagN)),
     (53, w.f 53 1 / 16 == 0 && w.residency != 3 && !(w.isArgon && w.pepKind == 1)), (55, known), (56, w.f 56 8 == 0)]

/-- scrypt of RFC 7914: PBKDF2, one ROMix for each of `p` blocks, PBKDF2. -/
def scrypt (pwd salt : Bs) (logN r p n : Nat) : Bs :=
  let b := Hash.pbkdf2 .sha256 pwd salt 1 (128 * r * p)
  Hash.pbkdf2 .sha256 pwd ((blocksOf (128 * r) b).map (Stream.romix logN)).flatten 1 n

/-- The tag of R115. -/
def Work.pwTag (w : Work) (pwd salt secret : Bs) : Bs :=
  if w.isArgon then Stream.argon2 (w.pwAlg - 0x20) pwd salt secret w.costM w.costT w.costP w.tagN
  else if w.isScrypt then scrypt pwd salt w.costM w.costT w.costP w.tagN
  else
    Hash.pbkdf2 (if w.pwAlg = 0x24 then .sha256 else if w.pwAlg = 0x25 then .sha384 else .sha512) pwd salt w.costM w.tagN

/-- Steps 4 to 6 of R98: the secret K, empty for none, and the shard a new entry goes to. -/
def State.pwKey (s : State) (w : Work) : Chk (Bs × Nat) := do
  let tenant := s.tenantOf w.sq
  needFields w.pwChecks
  needQuota (w.opcode != 0x0303 || s.entryRoom tenant) 1
  needQuota (!(w.hashInBolt && decide (w.hashMem > s.bolt.lay.scratchB.length * bankBytes))) 4
  if w.pepKind = 3 then return ([], 0)
  else do
    let k ← s.keyOperand w.h tenant w.pepKind w.pepper 32 0
    checkTypeUse k 32 (fun t => t == 7 || t == 8) [uKdf]
    return (k.material, k.shard)

/-- The place of an operation's hash memory in the scratch region: a free one, off the stream buffers where one is. -/
def State.hashBolt (s : State) (n : Nat) : Nat :=
  let l := s.bolt.lay
  let o := l.scratchLo + 128 * (Config.hashPlace s.freeCtr n % ((l.scratchLen - n) / 128 + 1))
  let after := s.sbufLo + sbufLen
  if !meets o n s.sbufLo sbufLen then o
  else if l.inScratch after n then after
  else if l.scratchLo + n ≤ s.sbufLo then l.scratchLo
  else o

/-- Its place in DDR5, outside every protected region (R394): a free one, else the first that fits; none where none does. -/
def State.hashDdr (s : State) (n : Nat) : Option Nat :=
  let o := 128 * (Config.hashPlace s.freeCtr n % ((s.ddrUsable - n) / 128 + 1))
  (o :: 0 :: s.ddrRegions.map (fun r => r.1 + r.2)).find? (fun a => decide (a + n ≤ s.ddrUsable) && !s.ddrProtected a n)

/-- Hash memory is taken, used and zeroed (R117); the place is free, and what the zeroing leaves is zero bytes (log 33). -/
def State.hashMemory (s : State) (w : Work) : Chk State :=
  let n := w.hashMem
  let t := { s with freeCtr := s.freeCtr + 1 }
  if n = 0 then .ok s
  else if w.hashInBolt then .ok (t.zeroBolt (s.hashBolt n) n)
  else
    match s.hashDdr n with
    | none => .error (fail stQuota 0xFF 4)
    | some a =>
      match s.fencedUnit a n with
      | some u => .error (fail stResourceRetired 0xFF 1 u)
      | none => .ok (t.zeroLines (fun l => !decide (a ≤ l * 128 ∧ l * 128 < a + n)))

/-- Reads password and salt, then goes on with the tag. -/
def State.withTag (s : State) (w : Work) (secret : Bs) (dst : Nat × Nat) (k : Bs → State → State) : State :=
  let s := s.touchKey w.h w.pepKind w.pepper
  s.readOr w w.pwdA w.pwdN dst (fun pwd => s.readOr w w.saltA w.saltN dst (fun salt =>
    k (w.pwTag (natsOf pwd) (natsOf salt) secret) s))

/-- PASSWORD_VERIFY (0x0301). -/
def performPasswordVerify (w : Work) (s : State) : State := s.settleChk w (do
  let k ← s.pwKey w
  let s ← s.hashMemory w
  return s.withTag w k.1 (0, 0) (fun tag s => s.readOr w w.tagA w.tagN (0, 0) (fun exp =>
    s.completeIf w (tag == natsOf exp) 0)))

/-- PASSWORD_HASH (0x0302). -/
def performPasswordHash (w : Work) (s : State) : State := s.settleChk w (do
  let k ← s.pwKey w
  let s ← s.hashMemory w
  return s.withTag w k.1 (w.tagA, w.tagN) (fun tag s =>
    (s.hostOut w w.tagA (bytesOf tag)
      ([(w.pwdA, w.pwdN), (w.saltA, w.saltN)] ++ keyBuf w.h w.pepKind w.pepper 0)).complete w stOk w.tagN))

/-- PASSWORD_DERIVE (0x0303). -/
def performPasswordDerive (w : Work) (s : State) : State := s.settleChk w (do
  let k ← s.pwKey w
  let s ← s.hashMemory w
  return s.withTag w k.1 (0, 0) (fun tag s => s.newSecret w k.2 tag))

end Sys2Proof.Machine
end

