-- ==== Sys2Proof/Machine/SessOps.lean ====
section
/-! DEFINITION. Sessions, 0x0501 to 0x0505 (R120-R122, R146-R148). -/

namespace Sys2Proof.Machine

open Sys2Proof

/-! ## The body (R120) -/

def Work.ref (w : Work) : Nat := w.f 8 8
def Work.seIn (w : Work) : Nat := w.f 16 8
def Work.seOut (w : Work) : Nat := w.f 24 8
def Work.seAux (w : Work) : Nat := w.f 32 8
def Work.seLen (w : Work) : Nat := w.f 40 4
def Work.seAlg (w : Work) : Nat := w.f 44 1
def Work.part (w : Work) : Nat := w.f 45 1
def Work.toPeer (w : Work) : Nat := w.f 46 2
def Work.seKind (w : Work) : Nat := w.f 48 1 % 4

/-- Does an UPDATE carry AAD; does an OPEN unseal? -/
def Work.isAad (w : Work) : Bool := bitOf w.part 0
def Work.unseals (w : Work) : Bool := bitOf w.part 1

/-- The checks of R98 step 4. -/
def Work.seChecks (w : Work) : List (Nat × Bool) :=
  let op := w.opcode
  w.header ++
    [(40, op != 0x0502 || decide (w.seLen ≤ 2 ^ 24)), (44, op != 0x0501 || w.seAlg == 0x30 || w.seAlg == 0x31),
     (45, if op = 0x0501 then w.part / 4 == 0 && w.part % 2 == 0
           else if op = 0x0502 then decide (w.part < 2) else w.part == 0),
     (46, decide (w.toPeer < 1024)),
     (48, w.f 48 1 / 4 == 0 && (if op = 0x0501 then w.seKind == 0 || w.seKind == 2 else w.seKind == 1)),
     (49, w.f 49 15 == 0)]

/-! ## OPEN (R121, R146) -/

/-- A key slot is free, or the source's sessions have one already (R146). -/
def State.slotFree (s : State) (source : Option (Nat × Nat)) : Bool :=
  (source.isSome && s.vault.sessions.any (fun e => e.2.isOpen && e.2.source == source)) || decide (s.slotsUsed < s.keySlots)

/-- OPEN (0x0501). -/
def performOpen (w : Work) (s : State) : State := s.settleChk w (do
  let tenant := s.tenantOf w.sq
  let chacha := w.seAlg == 0x31
  needFields w.seChecks
  needQuota (decide (s.sessionsOf tenant < (s.quota tenant).sessions)) 2
  let k ← s.keyOperand w.h tenant w.seKind w.ref 8 0
  checkTypeUse k 8 (fun t => if chacha then t == 5 else t == 1 || t == 2) [uSession]
  checkTypeUse k 8 (fun _ => true) [if w.unseals then uDecrypt else uEncrypt]
  let s := s.touchKey w.h w.seKind w.ref
  return s.readOr w w.seAux 12 (0, 0) (fun nonce =>
    match if s.slotFree k.source then s.freeCtx else none with
    | none => s.complete w stQuota (resultOf 0xFF 2 0)
    | some i =>
      let x : Sess :=
        { isOpen := true, gen := (s.sess i).gen, tenant, chacha, opening := w.unseals, dataPhase := false, ended := false,
          nonce, key := bytesOf k.material, aad := [], text := [], source := k.source, migrating := none }
      (s.putSess i x).complete w stOk (sessRef i x)))

/-! ## UPDATE, FINAL, CLOSE (R121) -/

/-- The most data an algorithm takes. -/
def Sess.most (x : Sess) : Nat := if x.chacha then 2 ^ 38 - 64 else 2 ^ 36 - 32

/-- The next chunk of data, en- or decrypted where the last one ended. -/
def Sess.crypt (x : Sess) (bs : Bs) : Bs :=
  let n := x.text.length
  let key := natsOf x.key
  let nonce := natsOf x.nonce
  if x.chacha then (Stream.chacha20 key nonce 1 (zeros n ++ bs)).drop n else (Aes.gcmCrypt key nonce (zeros n ++ bs)).drop n

/-- The tag over what the session has processed. -/
def Sess.tag (x : Sess) : Bs :=
  let f := if x.chacha then Stream.aeadTag else Aes.gcmTag
  f (natsOf x.key) (natsOf x.nonce) (natsOf x.aad) (natsOf x.text)

/-- The session a descriptor names, after steps 4 and 6. -/
def State.seRef (s : State) (w : Work) : Chk Nat := do
  needFields w.seChecks
  s.checkSess (s.tenantOf w.sq) w.ref 8

/-- UPDATE (0x0502). -/
def performUpdate (w : Work) (s : State) : State := s.settleChk w (do
  let i ← s.seRef w
  let x := s.sess i
  let n := w.seLen
  let whole := n % 64 == 0
  needField (!x.ended && (w.isAad || decide (x.text.length + n ≤ x.most))) 40
  needField (!(w.isAad && x.dataPhase)) 45
  if w.isAad then
    return s.readOr w w.seIn n (0, 0) (fun bs =>
      (s.putSess i { x with aad := x.aad ++ bs, ended := !whole }).complete w stOk 0)
  else
    return s.readOr w w.seIn n (w.seOut, n) (fun bs =>
      let out := bytesOf (x.crypt (natsOf bs))
      let s := s.putSess i
        { x with dataPhase := true, ended := !whole, text := x.text ++ (if x.opening then bs else out) }
      (s.hostOut w w.seOut out [(w.seIn, n)]).complete w stOk n))

/-- FINAL (0x0503). -/
def performFinal (w : Work) (s : State) : State := s.settleChk w (do
  let i ← s.seRef w
  let x := s.sess i
  let t := s.freeSess i
  if x.opening then
    return t.readOr w w.seAux 16 (0, 0) (fun tag => t.completeIf w (natsOf tag == x.tag) 0)
  else return (t.hostOut w w.seAux (bytesOf x.tag) []).complete w stOk 16)

/-- CLOSE (0x0504). -/
def performClose (w : Work) (s : State) : State := s.settleChk w (do
  let i ← s.seRef w
  return (s.freeSess i).complete w stOk 0)

/-! ## MIGRATE (R148) -/

/-- What a hand-off frame carries. -/
def Sess.image (x : Sess) : SessionImage :=
  { tenant := x.tenant, chacha := x.chacha, opening := x.opening, dataPhase := x.dataPhase, nonce := x.nonce,
    key := x.key, aad := x.aad, text := x.text, source := x.source }

/-- MIGRATE (0x0505): steps 1 and 2. A peer that is lost ends it as step 5 does (R426); one that is no member, or this device
itself, leaves the session unchanged (R128). It waits for an earlier hand-off to the same peer (log 37). -/
def performMigrate (w : Work) (s : State) : State := s.settleChk w (do
  let i ← s.seRef w
  let x := s.sess i
  need s.joined (fail stMeshUnavailable 0xFF 1 s.myId)
  let d := w.toPeer
  need (d != s.myId && (s.peer d).member) (fail stMeshUnavailable 0xFF 3 d)
  if (s.peer d).lost then return (s.freeSess i).complete w stMeshUnavailable (resultOf 0xFF 3 d)
  else if (s.openHandoff d).isSome then return s.moveWork w .fenced
  else
    let s := s.moveWork w .running
    let s := s.putSess i { x with migrating := some (w.sq, w.d.cid.toNat, d, (s.peer d).txSeq + 1) }
    return s.sendTo d 0 0 (.handoff x.image))

end Sys2Proof.Machine
end

