-- ==== Sys2Proof/Machine/Streams.lean ====
section
/-! DEFINITION. Stream descriptors, command blocks and posts read and checked (R103-R106, R160-R168, R189-R191), admission
and retirement (R179, R180, R190). -/

namespace Sys2Proof.Machine

open Sys2Proof

/-! ## Chains (R105, R106) -/

/-- The stage codes of a chain: those before the first 0x00. -/
def chainOf (codes : List Nat) : List Nat := codes.takeWhile (fun c => c != 0)

/-- One to four known stages, at most one cipher, zeros after the end; `at_` gives each stage byte's offset. -/
def stageChecks (codes : List Nat) (at_ : Nat → Nat) : List (Nat × Bool) :=
  let n := (chainOf codes).length
  (at_ 0, n != 0) :: (List.range 4).map (fun j =>
    let c := codes.getD j 0
    (at_ j, if j < n then stageKnown c && !(isCipher c && (codes.take j).any isCipher) else c == 0))

/-- The rules on unit lengths: at most 16,384 B with GCM-SIV or an AEAD decryption, multiples of 16 B with CBC, a final unit
of at least 16 B with XTS. -/
def unitOk (chain : List Nat) (len unitLen : Nat) : Bool :=
  let u := if unitLen = 0 then len else min unitLen len
  let last := len - (ceilDiv len u - 1) * u
  len == 0 || ((!chain.any (fun c => isSiv c || isOpenStage c) || decide (u ≤ 16384))
    && (!chain.any isCbc || (u % 16 == 0 && last % 16 == 0)) && (!chain.any isXts || decide (16 ≤ last)))

/-! ## Ranges (R165, R166, R191) -/

/-- Who names the vectors: the requester's function, the tenant of its keys, whether it is a VF's descriptor, the Needle's
post, and what host memory answers. -/
structure StrmBy where
  fn     : Nat
  tenant : Nat
  vf     : Bool
  post   : Option Post
  h      : HostView
  deriving DecidableEq, Repr

/-- The bounds a Tenant post is held to. -/
def StrmBy.bound (b : StrmBy) : Option Post := b.post.filter (fun p => p.priv == 0)

/-- May a stream name this range? What breaks R166 in a post is denied (R191). The ACCESS_DENIED of a forbidden space or range
stands among the checks of R98 step 4, by ascending offset; that of a VF's internal space in the inline form stands at step
3: DESIGN CHOICE (log 121). -/
def State.checkRange (s : State) (b : StrmBy) (space a n off : Nat) : Chk Unit := do
  let deny := fail stAccessDenied off 4
  let inside := fun (l : List (Nat × Nat)) => l.any (fun r => decide (r.1 ≤ a ∧ a + n ≤ r.2))
  if space = 0 then
    need (match b.bound with | some p => inside p.bufs | none => true) deny
  else if space = 1 then
    let o := a - boltBase
    need (decide (boltBase ≤ a) && s.bolt.lay.inScratch o n && !meets o n s.sbufLo sbufLen) deny
    need (match b.bound with | some p => inside p.win.toList | none => true) deny
  else
    need b.bound.isNone deny
    let o := a - ddrBase
    need (decide (ddrBase ≤ a ∧ o + n ≤ s.ddrUsable)) (if b.post.isSome then deny else fail stBadDescriptor off)
    need (!s.ddrProtected o n) deny
    need (b.post.isNone || (s.fencedUnit o n).isNone) deny

/-- A DDR5 vector on a fenced channel is refused at execution (R98 step 7, R166). -/
def State.checkFence (s : State) (v : Vec) (n : Nat) : Chk Unit :=
  if v.space < 2 then .ok ()
  else match (v.pieces n).findSome? (fun p => s.fencedUnit (p.1 - ddrBase) p.2) with
    | some u => .error (fail stResourceRetired 0xFF 1 u)
    | none => .ok ()

/-- The fences that a stream's vectors meet. -/
def State.checkFences (s : State) (src dst0 dst1 : Vec) (len side : Nat) : Chk Unit := do
  s.checkFence src len
  s.checkFence dst0 len
  s.checkFence dst1 side

/-- Every byte of a vector. -/
def State.checkVec (s : State) (b : StrmBy) (v : Vec) (n off : Nat) : Chk Unit :=
  (v.pieces n).foldl (fun r p => do r; s.checkRange b v.space p.1 p.2 off) (.ok ())

/-! ## Scatter-gather lists (R163) -/

/-- Bytes read in a space for a list. -/
def State.listBytes (s : State) (b : StrmBy) (space a n off : Nat) : Chk (List Byte) := do
  s.checkRange b space a n off
  if space = 0 then dmaRead b.h a n
  else
    let r := s.vecRead { Vec.none with space, base := a } 0 n
    if r.1 = Resp.ok then return r.2.1 else .error (fail stDmaFault 0xFF 1)

/-- What reading a list gives: its extents, and the addresses of the entries read. -/
structure SgRead where
  extents : List (Nat × Nat)
  at_     : List Nat
  deriving DecidableEq, Repr

/-- A list whose next entry is at `addr`: at most 64 extents, over at most 64 links; `rd` reads an entry, in the block while
`inl` holds. -/
def readList (rd : Bool → Nat → Chk (List Byte)) (off : Nat) : Nat → Bool → Nat → Nat → SgRead → Chk SgRead
  | 0, _, _, _, _ => .error (fail stBadDescriptor off)
  | fuel + 1, inl, addr, links, acc => do
    needField (addr % 16 == 0) off
    let e ← rd inl addr
    let a := leAt e 0 8
    let n := leAt e 8 4
    let fl := leAt e 12 1
    needField (decide (fl < 4) && leAt e 13 3 == 0 && (bitOf fl 0 == (n == 0))) off
    let acc := if inl then acc else { acc with at_ := acc.at_ ++ [addr] }
    if bitOf fl 0 then
      needField (decide (links < 64)) off
      readList rd off fuel false a (links + 1) acc
    else
      needField (decide (acc.extents.length < 64)) off
      let acc := { acc with extents := acc.extents ++ [(a, n)] }
      if bitOf fl 1 then return acc else readList rd off fuel inl (addr + 16) links acc

/-- A vector and the buffers that its list takes. -/
abbrev VecRead := Vec × List (Nat × Nat × Nat)

/-- A list vector of `n` bytes. -/
def listVec (rd : Bool → Nat → Chk (List Byte)) (space base n off : Nat) (inl : Bool) : Chk VecRead := do
  let l ← readList rd off 129 inl base 0 { extents := [], at_ := [] }
  needField ((l.extents.map (·.2)).foldl (· + ·) 0 == n) off
  return ({ space, base, esize := 1, stride := 1, isList := true, extents := l.extents },
    l.at_.map (fun a => (spaceKind space, a, 16)))

/-! ## Keys of a stream (R105, R161, R176, R178) -/

/-- The key of a chain's cipher stage: material, salt, schedule tag; nothing without one. -/
def State.strmKey (s : State) (b : StrmBy) (chain : List Nat) (kind value off : Nat) :
    Chk (List Byte × Nat × Option KsTag) := do
  match chain.find? isCipher with
  | none => return ([], 0, none)
  | some c =>
    let k ← s.keyOperand b.h b.tenant kind value off 0
    checkTypeUse k off (stageType c) (stageUse c)
    return (bytesOf k.material, k.salt,
      some (match k.source with | some (i, g) => KsTag.entry i g | none => KsTag.blob 0))

/-- A stream that nothing has run of. -/
def strmBlank : Strm :=
  { id := 0, ring := 0, poster := .desc 0 0, tenant := 0, fn := 0, chain := [], key := [], salt := 0, ks := none,
    ivBase := 0, length := 0, unitLen := 0, src := Vec.none, dst0 := Vec.none, dst1 := Vec.none, done := false, chunk := 0,
    nextOff := 0, reads := [], jobs := [], carry := [], early := [], badUnits := 0, badFirst := 0, ended := none }

/-! ## The inline form (R104, R106, R168) -/

/-- A vector of the inline form. -/
def State.inlineVec (s : State) (b : StrmBy) (addr : Nat) (internal isList : Bool) (n es off : Nat) : Chk VecRead := do
  let space := if !internal then 0 else if boltBase ≤ addr ∧ addr < boltBase + boltSize then 1
    else if s.flag .shtCtrl_inlineDdr then 2 else 3
  let v ← if isList then listVec (fun _ a => s.listBytes b space a 16 off) space addr n off false
    else .ok ({ space, base := addr, esize := es, stride := es, isList := false, extents := [] }, [])
  s.checkVec b v.1 n off
  return v

/-- The fields of a STREAM descriptor that need nothing read (R98 step 4). The unit-length rules turn on length and
unit_len16; the offset reported is that of unit_len16: DESIGN CHOICE (log 120). -/
def inlineChecks (w : Work) : List (Nat × Bool) :=
  let codes := (List.range 4).map (fun j => w.f (54 + j) 1)
  let chain := chainOf codes
  let kind := w.f 59 1 / 16 % 4
  let hasC := chain.any isCipher
  w.header ++ stageChecks codes (fun j => 54 + j)
    ++ [(24, (w.f 24 8 == 0) == (recLen chain == 0)), (32, hasC || (kind == 3 && w.f 32 8 == 0)), (48, w.f 48 4 != 0),
        (52, unitOk chain (w.f 48 4) (16 * w.f 52 2)), (58, (w.f 58 1 &&& 0x2A) == 0),
        (59, decide (w.f 59 1 < 64) && (!hasC || kind == 0 || kind == 2)), (60, w.f 60 4 == 0)]

/-- Who names the vectors of a descriptor. -/
def State.workBy (s : State) (w : Work) : StrmBy :=
  { fn := s.tenantOf w.sq, tenant := s.tenantOf w.sq, vf := s.tenantOf w.sq != 0, post := none, h := w.h }

/-- Vector `j` of a STREAM descriptor: src, dst0, dst1. -/
def State.inlineVecOf (s : State) (w : Work) (x : Strm) (j : Nat) : Chk VecRead :=
  let sp := w.f 58 1
  let r := recLen x.chain
  let b := s.workBy w
  if j = 0 then s.inlineVec b (w.f 8 8) (bitOf sp 0) (bitOf sp 6) x.length 1 8
  else if j = 1 then s.inlineVec b (w.f 16 8) (bitOf sp 2) (bitOf sp 7) x.length 1 16
  else if r = 0 then .ok (Vec.none, []) else s.inlineVec b (w.f 24 8) (bitOf sp 4) false (x.units * r) r 24

/-- A STREAM descriptor (0x0101) before its vectors are read. -/
def State.inlineHead (s : State) (w : Work) : Strm :=
  { strmBlank with ring := w.f 59 1 % 16, poster := .desc w.sq w.d.cid.toNat, tenant := s.tenantOf w.sq,
                   fn := s.tenantOf w.sq, chain := chainOf ((List.range 4).map (fun j => w.f (54 + j) 1)),
                   ivBase := w.f 40 8, length := w.f 48 4, unitLen := 16 * w.f 52 2 }

/-- Its checks and vectors (R98 steps 3 and 4). -/
def State.inlineVecs (s : State) (w : Work) : Chk Strm := do
  let sp := w.f 58 1
  need (s.tenantOf w.sq == 0 || (sp &&& 0x15) == 0) (fail stAccessDenied 58 4)
  needFields (inlineChecks w)
  let x := s.inlineHead w
  let src ← s.inlineVecOf w x 0
  let dst0 ← s.inlineVecOf w x 1
  let dst1 ← s.inlineVecOf w x 2
  return { x with src := src.1, dst0 := dst0.1, dst1 := dst1.1, reads := src.2 ++ dst0.2 ++ dst1.2 }

/-- Its key (R98 step 6). -/
def State.inlineStrm (s : State) (w : Work) (x : Strm) : Chk Strm := do
  let kind := w.f 59 1 / 16 % 4
  let (key, salt, ks) ← s.strmKey (s.workBy w) x.chain kind (w.f 32 8) 32
  let blob := (keyBuf w.h kind (w.f 32 8) 0).map (fun b => (0, b))
  return { x with key, salt, ks, reads := x.reads ++ blob }

/-! ## Command blocks (R160-R164) -/

/-- A block's header, read once: byte fields by offset. -/
abbrev BlockHdr := List Byte

def hdrCodes (h : BlockHdr) : List Nat := (List.range 4).map (fun j => leAt h (4 + j) 1)
def hdrKind (h : BlockHdr) (j : Nat) : Nat := leAt h 2 1 / 4 ^ j % 4
def hdrKey (h : BlockHdr) (j : Nat) : Nat := leAt h (32 + 8 * j) 8

/-- The header's rules: version, reserved bits, lengths, chain, at most 2^32 - 1 units, keys where the cipher stage is. -/
def headerOk (h : BlockHdr) : Bool :=
  let codes := hdrCodes h
  let chain := chainOf codes
  let len := leAt h 16 8
  let ul := leAt h 24 4
  let u := if ul = 0 then len else ul
  (leAt h 0 1 == 1) && decide (leAt h 1 1 < 2) && leAt h 3 1 == 0 && leAt h 28 4 == 0
    && decide (1 ≤ len ∧ len ≤ 2 ^ 34) && decide (ul ≤ 2 ^ 24) && decide (ceilDiv len u < 2 ^ 32)
    && (stageChecks codes id).all (·.2) && unitOk chain len ul
    && (List.range 4).all (fun j =>
      if j < chain.length ∧ isCipher (codes.getD j 0) then hdrKind h j == 0 || hdrKind h j == 2
      else hdrKind h j == 3 && hdrKey h j == 0)

/-- A vector record of the block at `o` (R162): `side` is the record size for dst1. -/
def State.blockVec (s : State) (b : StrmBy) (rb : Nat → Nat → Chk (List Byte)) (o n : Nat) (side : Option Nat) :
    Chk VecRead := do
  let r ← rb o 16
  let base := leAt r 0 8
  let cm := leAt r 8 4
  let stride := leAt r 12 2
  let sp := leAt r 14 1
  let el := leAt r 15 1
  let space := sp % 4
  let isL := bitOf sp 2
  let inl := bitOf sp 3
  needField (decide (sp < 16) && decide (el ≤ 4) && !(inl && !isL)) 8
  need (!(b.vf && space != 0)) (fail stAccessDenied 8 4)
  let v ← if isL then do
      needField (cm == 0 && el == 0) 8
      listVec (fun i a => if i then rb a 16 else s.listBytes b space a 16 8) space base n 8 inl
    else
      match side with
      | some sz => do
        needField (cm == 0 && el == 0 && (stride == 0 || decide (sz ≤ stride))) 8
        pure ({ space, base, esize := sz, stride := if stride = 0 then sz else stride, isList := false, extents := [] }, [])
      | none => do
        let es := 2 ^ el
        needField (base % es == 0 && (stride == 0 || (decide (es ≤ stride) && stride % es == 0))
          && (cm + 1) * es == n && decide (n ≤ 2 ^ 34)) 8
        pure ({ space, base, esize := es, stride := if stride = 0 then es else stride, isList := false, extents := [] }, [])
  needField (decide (n ≤ 2 ^ 34)) 8
  s.checkVec b v.1 n 8
  return v

/-- A block's header as a stream before its vectors are read. -/
def blockHead (b : StrmBy) (h : BlockHdr) (ring : Nat) (poster : Poster) : Strm :=
  { strmBlank with ring, poster, tenant := b.tenant, fn := b.fn, chain := chainOf (hdrCodes h), ivBase := leAt h 8 8,
                   length := leAt h 16 8, unitLen := leAt h 24 4, done := bitOf (leAt h 1 1) 0 }

/-- The two destination vectors of a block. -/
def State.blockDst (s : State) (b : StrmBy) (rb : Nat → Nat → Chk (List Byte)) (x : Strm) (j : Nat) : Chk VecRead :=
  let r := recLen x.chain
  if j = 0 then s.blockVec b rb 80 x.length none
  else if r = 0 then .ok (Vec.none, []) else s.blockVec b rb 96 (x.units * r) (some r)

/-- A command block's vectors; `blen` is the block length a descriptor gives. -/
def State.blockVecs (s : State) (b : StrmBy) (rb : Nat → Nat → Chk (List Byte)) (blen : Option Nat) (ring : Nat)
    (poster : Poster) : Chk Strm := do
  let h ← rb 0 64
  needField (headerOk h) 8
  let r := recLen (chainOf (hdrCodes h))
  needField (match blen with | some n => decide ((if r = 0 then 96 else 112) ≤ n) | none => true) 16
  let x := blockHead b h ring poster
  let src ← s.blockVec b rb 64 x.length none
  let dst0 ← s.blockDst b rb x 0
  let dst1 ← s.blockDst b rb x 1
  return { x with src := src.1, dst0 := dst0.1, dst1 := dst1.1, reads := src.2 ++ dst0.2 ++ dst1.2 }

/-- The key of a command block (R98 step 6). -/
def State.blockKey (s : State) (b : StrmBy) (rb : Nat → Nat → Chk (List Byte)) (x : Strm) : Chk Strm := do
  let h ← rb 0 64
  let j := (x.chain.takeWhile (fun c => !isCipher c)).length
  let (key, salt, ks) ← s.strmKey b x.chain (hdrKind h j) (hdrKey h j) 8
  let blob := (keyBuf b.h (hdrKind h j) (hdrKey h j) 0).map (fun b => (0, b))
  return { x with key, salt, ks, reads := x.reads ++ blob }

/-- The block of a STREAM_CMD as the ring engine reads it at first consideration (R103); a length outside 64 to 4,096 is not
read. -/
def Work.block (w : Work) : Option (List Byte) :=
  let n := w.f 16 2
  if 64 ≤ n ∧ n ≤ 4096 then viewRead w.h (w.f 8 8) n else some []

/-- Bytes of the block of a STREAM_CMD. -/
def Work.blockRead (w : Work) (o k : Nat) : Chk (List Byte) :=
  let blk := w.block.getD []
  if o + k ≤ blk.length then .ok (sub blk o k) else .error (fail stBadDescriptor 16)

/-- A STREAM_CMD descriptor (0x0102): its block's vectors, then its key. -/
def State.cmdVecs (s : State) (w : Work) : Chk Strm := do
  let n := w.f 16 2
  needFields (w.header ++ [(16, decide (64 ≤ n ∧ n ≤ 4096)), (18, decide (w.f 18 1 < 16)), (19, leAt w.d.body 11 45 == 0)])
  need w.block.isSome { fail stDmaFault 0xFF 1 with aer := true }
  let x ← s.blockVecs (s.workBy w) w.blockRead (some n) (w.f 18 1 % 16) (.desc w.sq w.d.cid.toNat)
  return { x with reads := (0, w.f 8 8, n) :: x.reads }

def State.cmdStrm (s : State) (w : Work) (x : Strm) : Chk Strm := s.blockKey (s.workBy w) w.blockRead x

/-- The destinations of a group 0x01 descriptor, as far as they can be named: vector and length. -/
def State.strmDests (s : State) (w : Work) : List (Vec × Nat) :=
  if w.opcode = 0x0101 then
    let x := s.inlineHead w
    let get := fun (j n : Nat) => match s.inlineVecOf w x j with | .ok v => [(v.1, n)] | .error _ => []
    if (w.header ++ inlineChecks w).all (·.2) then get 1 x.length ++ get 2 x.sideBytes else []
  else
    match w.blockRead 0 64 with
    | .error _ => []
    | .ok h =>
      let x := blockHead (s.workBy w) h 0 (.desc w.sq w.d.cid.toNat)
      let get := fun (j n : Nat) => match s.blockDst (s.workBy w) w.blockRead x j with | .ok v => [(v.1, n)] | .error _ => []
      if headerOk h then get 0 x.length ++ get 1 x.sideBytes else []

/-- The destinations of a descriptor whose list cannot be read are undefined (R128). -/
def State.spoilDests (s : State) (w : Work) : State :=
  (s.strmDests w).foldl (fun s v => s.spoilVec (s.tenantOf w.sq) v.1 v.2) s

/-- The destinations of any descriptor that a DMA_FAULT ends before its operation begins (R128). -/
def State.spoilTargets (s : State) (w : Work) : State :=
  if w.opcode / 256 = 1 then s.spoilDests w else s.spoilOuts w

/-- The retire ring a group 0x01 descriptor names (R179). -/
def Work.ring (w : Work) : Nat := if w.opcode = 0x0101 then w.f 59 1 % 16 else w.f 18 1 % 16

/-- The key of a command block's cipher stage, kind and value. -/
def hdrCipher (h : BlockHdr) : Nat × Nat :=
  let j := ((chainOf (hdrCodes h)).takeWhile (fun c => !isCipher c)).length
  (hdrKind h j, hdrKey h j)

/-- The use of a stream's key (R145): its entry, or its blob's KEK. -/
def State.touchStrm (s : State) (h : HostView) (x : Strm) (key : Nat × Nat) : State :=
  if x.ks.isSome then s.touchKey h key.1 key.2 else s

/-- A stream descriptor at its owner, by its vectors and then its key: it goes to the Shuttle, or completes with the check it
fails. A list that cannot be read and a vector on a fenced channel leave the destinations undefined (R128). -/
def State.startStream (s : State) (w : Work) (key : Nat × Nat) (vecs : Chk Strm) (whole : Strm → Chk Strm) : State :=
  match vecs with
  | .error f => (if f.status = stDmaFault then s.spoilDests w else s).failWork w f
  | .ok v =>
    match whole v with
    | .error f => s.failWork w f
    | .ok x =>
      match s.checkFences x.src x.dst0 x.dst1 x.length x.sideBytes with
      | .error f => (s.spoilStrm x).failWork w f
      | .ok _ => ((s.touchStrm w.h x key).moveWork w .running).enqueueStrm x

/-- STREAM (R104). -/
def performStream (w : Work) (s : State) : State :=
  s.startStream w (w.f 59 1 / 16 % 4, w.f 32 8) (s.inlineVecs w) (s.inlineStrm w)

/-- STREAM_CMD (R103). -/
def performStreamCmd (w : Work) (s : State) : State :=
  s.startStream w (hdrCipher (w.block.getD [])) (s.cmdVecs w) (s.cmdStrm w)

/-! ## Posts of Needles (R189-R191, R253) -/

/-- A byte of a post's block: where stores of the poster still in its buffer cover it, its old value or that of one of them;
which is free, byte by byte (R316). -/
def State.postByte (s : State) (p : Post) (a : Nat) (old : Byte) : Byte :=
  let new := (s.nd p.n).m.sbuf.filterMap (fun e =>
    if e.addr ≤ a ∧ a < e.addr + e.data.length then e.data[a - e.addr]? else none)
  (old :: new).getD (Config.free (s.freeCtr + (a - p.base)) % (new.length + 1)) old

/-- Reads of the post's block: the D-store or the Bolt, within the slot's bounds. -/
def State.postRead (s : State) (p : Post) (o n : Nat) : Chk (List Byte) := do
  let a := p.addr + o
  needField (decide (p.base ≤ a ∧ a + n ≤ p.limit)) 8
  let r := s.ndRead1 p.n p.kind p.priv a n
  if r.1 = Resp.ok then return r.2.1.mapIdx (fun j b => s.postByte p (a + j) b) else .error (fail stDmaFault 0xFF 1)

/-- The block of a post checked. -/
def State.postChk (s : State) (p : Post) (h : HostView) : Chk Strm :=
  let b : StrmBy := { fn := p.tenant, tenant := p.tenant, vf := false, post := some p, h }
  match s.blockVecs b (s.postRead p) none p.ring (.needle p.n p.tag p.gen) with
  | .error f => .error f
  | .ok x => s.blockKey b (s.postRead p) x

/-- A post as a stream: one that a check refuses has ended already, with the token's status and detail. -/
def State.postStrm (s : State) (p : Post) (h : HostView) : Strm :=
  match s.postChk p h with
  | .ok x => x
  | .error f =>
    { strmBlank with ring := p.ring, poster := .needle p.n p.tag p.gen, tenant := p.tenant, fn := p.tenant,
                     ended := some (f.status, f.result) }

/-! ## Admission (R179, R189) -/

/-- A post leaves its queue; the free values its reading may have used are spent. Its key is used (R145), or the check it
failed is noted (R133). -/
def State.takePost (s : State) (p : Post) (h : HostView) : State :=
  let t : State := { s.setSht { s.sht with posts := s.sht.posts.erase p } with freeCtr := s.freeCtr + (p.limit - p.base) }
  match s.postChk p h with
  | .ok x => t.touchStrm h x (match s.postRead p 0 64 with | .ok b => hdrCipher b | .error _ => (3, 0))
  | .error f => t.noteFail f

/-- STREAM_ADMIT of a Needle's oldest post: it joins its ring, waits in the ring's admission queue, or stays in the post
queue while that is full. Nothing of a Needle that the Fitter has fenced after its lockup is admitted (R301). -/
def State.admitPost (s : State) (n : Nat) (h : HostView) : State :=
  match s.sht.posts.find? (fun p => p.n == n) with
  | none => s
  | some p =>
    if !s.isReady readyShuttle || s.ndLocked n then s
    else
      let wait := s.sht.waiting.any (fun x => x.ring == p.ring)
      if s.ringRoom p.ring && !wait && s.banksWait s.ctxBanks then s.ctxBanks.foldl State.wakeBank s
      else if s.ringRoom p.ring && !wait then ((s.takePost p h).admitStrm (s.dispatched (s.postStrm p h)))
      else if s.queueRoom p.ring then (s.takePost p h).enqueueStrm (s.postStrm p h)
      else s

/-- STREAM_ADMIT (R179). -/
def actStreamAdmit (src : AdmitFrom) (s : State) : Host.Outcome State Fault Refusal :=
  match src with
  | .ring r => .next (s.admitRing r)
  | .needle n h => .next (s.admitPost n h)

/-! ## Retirement (R180, R190) -/

/-- The token of a post (R190). -/
def tokenOf (tag status result : Nat) : Nat :=
  let hi := if status = stOk ∨ status = stVerifyFalse then result % 2 ^ 32 else 0
  let det := if status = stOk ∨ status = stVerifyFalse then 0 else result / 256 % 256
  status + 256 * det + 65536 * (tag % 65536) + 2 ^ 32 * hi

/-- Entries that have come stand before those that wait. -/
def deliverToken (l : List QEnt) (tag v : Nat) : List QEnt :=
  let e : QEnt := { qFlight (intVal v) with ready := true, mark := tag }
  match l.find? (fun q => !q.ready && q.mark == tag) with
  | none => l
  | some q =>
    let rest := l.erase q
    rest.filter (fun q => q.ready) ++ [e] ++ rest.filter (fun q => !q.ready)

/-- The token reaches the STRM queue that has a post of this tag outstanding. -/
def State.giveToken (s : State) (n tag v : Nat) : State :=
  let x := s.nd n
  let bank := if (x.q 0 .strm).any (fun q => !q.ready && q.mark == tag) then 0 else 1
  s.setNd n (x.setQ bank .strm (deliverToken (x.q bank .strm) tag v))

/-- The slots of a blob key are cleared when its stream retires (R176). -/
def State.clearBlobSlots (s : State) (x : Strm) : State :=
  match x.ks with
  | some (.blob i) => s.each 16 (fun p s =>
      let q := s.pipe p
      s.setPipe p { q with slots := q.slots.filter (fun t => t != KsTag.blob i) })
  | _ => s

/-- The generation a stream's event carries (R360): its post's, or 0. -/
def Strm.tackGen (x : Strm) : Nat := match x.poster with | .needle _ _ g => g | .desc _ _ => 0

/-- A finished stream, the oldest of its ring, retires. -/
def State.retireStrm (s : State) (x : Strm) (status result : Nat) : State :=
  let s := s.setSht { s.sht with flight := s.sht.flight.filter (fun y => y.id != x.id) }
  let s := (s.clearBlobSlots x).count .shtRrState_retired x.ring
  let s := s.count .shtBytes_bytes 0 x.length
  let s := match x.poster with
    | .desc sq cid => s.finish sq cid status result
    | .needle n tag _ => s.giveToken n tag (tokenOf tag status result)
  let s := if x.done then s.raiseTack (130 + x.ring) x.tackGen else s
  (s.noteRing x.ring).shuttleRun

/-- STREAM_RETIRE (R180): the oldest stream of the ring, once it has finished; the next that waits may be admitted after. A
hot reset that waited for the last such stream begins (R377). -/
def actStreamRetire (r : Nat) (s : State) : Host.Outcome State Fault Refusal :=
  match s.sht.flight.find? (fun x => x.ring == r) with
  | none => .next s
  | some x =>
    match x.ended with
    | some (st, res) => .next (s.retireStrm x st res)
    | none => .next s

/-! ## Self-tests (R187) and aborts at seams (R17, R186, R354) -/

/-- What the end of a self-test leaves (R187, R360): a failed one makes the pipeline permanent (R185). -/
def State.testEnds (s : State) (p : Nat) (failed : Bool) : State :=
  let s := (s.wr .stcPipeState_selfTest p 0).wr .stcPipeState_lastTestFailed p (b2n failed)
  let s := s.raiseTack (146 + p) (s.pipe p).testGen
  let off := s.flag .stcPipeState_retired p || s.flag .stcPipeState_gated p
  let s := if failed then s.latch (0x100 + p) 2 else if off then s else (s.wr .stcPipeState_ready p 1).noteQuad (p / 4)
  -- the SELF_TEST descriptors that named the pipeline complete with it (R127)
  let l := (s.pipe p).testFor
  let s := s.setPipe p { s.pipe p with testFor := [] }
  (l.foldl (fun s w => s.finish w.1 w.2 stOk (b2n failed)) s).shuttleRun

/-- SELF_TEST_END. -/
def actSelfTestEnd (p : Nat) (failed : Bool) (s : State) : Host.Outcome State Fault Refusal :=
  if p < 16 && s.flag .stcPipeState_selfTest p then .next (s.testEnds p failed) else .next s

/-- Do `n` bytes of a vector from position `k` lie in part on a DDR5 channel whose seam discards its entries? -/
def State.vecShut (s : State) (v : Vec) (k n : Nat) : Bool :=
  decide (2 ≤ v.space) && (v.spans k n).any (fun e => s.ddrCut (e.1 - ddrBase) e.2)

/-- Has a job of a stream a read, or a write, in the seam of a DDR controller that discards its entries? -/
def State.ddrShut (s : State) (id : Nat) (write : Bool) : Bool :=
  (s.strm id).any (fun x => x.jobs.any (fun j =>
    if write then
      j.at_ == .draining && (s.vecShut x.dst0 j.outOff j.outLen || j.side.any (fun e => s.vecShut x.dst1 e.1 e.2))
    else
      j.at_ == .reading && (s.vecShut x.src j.off j.len || s.vecShut x.dst1 (j.unit * recLen x.chain) (x.recsOf j))))

/-- SEAM_ABORT (R17, R186, R354): while the receiver is held in island reset, jobs on an aborted quad run again without being
counted; a DDR5 abort ends its stream with DMA_FAULT; a Hub transaction is answered with an abort. -/
def actSeamAbort (a : AbortAt) (s : State) : Host.Outcome State Fault Refusal :=
  match a with
  | .quad q =>
    if q < 4 && s.seamShut (64 + q) then .next ((List.range 4).foldl (fun s i => s.unload (4 * q + i) false) s).shuttleRun
    else .next s
  | .ddrRead id => .next (if s.ddrShut id false then (s.endStrm id stDmaFault (resultOf 0xFF 1 0)).shuttleRun else s)
  | .ddrWrite id => .next (if s.ddrShut id true then (s.endStrm id stDmaFault (resultOf 0xFF 2 0)).shuttleRun else s)
  | .hub m id => .next (s.hubAbort m id)

end Sys2Proof.Machine
end

