-- ==== Sys2Proof/Machine/VtOps.lean ====
section
/-! DEFINITION. Vault Table management, 0x0401 to 0x040B (R118, R119, R138-R141, R149-R154). -/

namespace Sys2Proof.Machine

open Sys2Proof

/-! ## The body (R118) -/

def Work.vtHandle (w : Work) : Nat := w.f 8 8
def Work.kek (w : Work) : Nat := w.f 16 8
def Work.bufA (w : Work) : Nat := w.f 24 8
def Work.bufN (w : Work) : Nat := w.f 32 4
def Work.keyType (w : Work) : Nat := w.f 36 2
def Work.usage (w : Work) : Nat := w.f 38 2
def Work.expiry (w : Work) : Nat := w.f 40 8
def Work.vtShard (w : Work) : Nat := w.f 48 1
def Work.hKind (w : Work) : Nat := w.f 49 1 % 4
def Work.kKind (w : Work) : Nat := w.f 49 1 / 4 % 4

/-- What an operation uses (R119). -/
structure VtUse where
  handle : List Nat
  kek    : Bool
  buf    : Bool
  key    : Bool
  usage  : Bool
  fresh  : Bool
  deriving DecidableEq, Repr

/-- The uses column of R119: the kinds its handle takes, then kek, buf and buf_len, key_type, usage, expiry and shard. -/
def vtUse (op : Nat) : VtUse :=
  match op with
  | 0x0401 => ⟨[], false, false, true, true, true⟩
  | 0x0402 => ⟨[], false, true, false, true, true⟩
  | 0x0403 => ⟨[0], true, true, false, false, false⟩
  | 0x0404 => ⟨[0, 2], false, true, true, true, true⟩
  | 0x0405 => ⟨[0], false, false, false, false, false⟩
  | 0x0406 => ⟨[0], false, false, false, false, false⟩
  | 0x0407 => ⟨[0], false, true, false, false, false⟩
  | 0x040A => ⟨[], false, true, false, false, false⟩
  | 0x040B => ⟨[], false, true, false, false, false⟩
  | _ => ⟨[], false, false, false, false, false⟩

/-- The fields an operation does not use are zero, its key fields of kind 3 (R91, R119). -/
def Work.vtUnused (w : Work) : List (Nat × Bool) :=
  let u := vtUse w.opcode
  [(8, !u.handle.isEmpty || (w.vtHandle == 0 && w.hKind == 3)), (16, u.kek || (w.kek == 0 && w.kKind == 3)),
   (24, u.buf || w.bufA == 0), (32, u.buf || w.bufN == 0), (36, u.key || w.keyType == 0),
   (38, u.usage || w.usage == 0), (40, u.fresh || w.expiry == 0), (48, u.fresh || w.vtShard == 0),
   (49, (u.handle.isEmpty || u.handle.contains w.hKind) && (!u.kek || w.kKind == 0) && w.f 49 1 / 16 == 0),
   (50, w.f 50 14 == 0)]

/-- The limits of R119, R138, R139 and R141 that need no key. -/
def State.vtLimits (s : State) (w : Work) : List (Nat × Bool) :=
  let op := w.opcode
  let typeOk := if op = 0x0401 then (matLen w.keyType).isSome && !isPublicOnly w.keyType
    else op != 0x0404 || decide (1 ≤ w.keyType ∧ w.keyType ≤ 8)
  let usageOk := if op = 0x0401 ∨ op = 0x0404 then usageFits w.keyType w.usage
    else op != 0x0402 || decide (w.usage < 2 ^ 14)
  [(8, op != 0x0407 || w.vtHandle / 2 ^ 24 % 2 ^ 16 != 0 || w.vtHandle / 2 ^ 40 % 2 ^ 8 == 0),
   (32, (op != 0x0404 || decide (w.bufN ≤ 1024)) && (op != 0x0407 || decide (64 ≤ w.bufN))),
   (36, typeOk), (38, usageOk),
   (40, op != 0x0401 || w.expiry == 0 || decide (s.tableTime < w.expiry)),
   (48, !(vtUse op).fresh || s.rd .vtShard_size w.vtShard != 0),
   (0xFF, !(op == 0x0408 || op == 0x040A || op == 0x040B) || !s.vault.sweeping)]

/-- Steps 3 to 5 of R98. -/
def State.vtChecks (s : State) (w : Work) : Chk Unit := do
  let tenant := s.tenantOf w.sq
  needFn (decide (w.opcode < 0x0408) || tenant == 0)
  needFields (w.header ++ w.vtUnused ++ s.vtLimits w)
  needQuota (!(vtUse w.opcode).fresh || s.entryRoom tenant) 1

/-! ## New material (R139) -/

/-- Two different halves: the second is drawn among the values the first leaves. -/
def State.drawHalves (s : State) (h : Nat) : Bs × State :=
  let a := s.fresh (8 * h)
  let b := a.2.fresh (8 * h)
  let v := b.1 % (2 ^ (8 * h) - 1)
  (toBe h a.1 ++ toBe h (if v < a.1 then v else v + 1), b.2)

/-- The inverse of `a` modulo `m`, by the extended Euclidean algorithm. -/
def invOf (a m : Nat) : Nat := (Nat.gcdA a m % (m : Int)).toNat

/-- RSA in CRT form from two primes (R96), public exponent 65,537. -/
def rsaMaterial (len p q : Nat) : Bs :=
  let h := len / 2
  toBe len (p * q) ++ toBe 4 65537 ++ toBe h p ++ toBe h q ++ toBe h (invOf 65537 (p - 1)) ++ toBe h (invOf 65537 (q - 1))
    ++ toBe h (invOf q p)

/-- Material of a type, with randomness from the DRBG (R139). -/
def State.drawKey (s : State) (kt : Nat) : Bs × State :=
  if kt = 3 ∨ kt = 4 then s.drawHalves (createLen kt / 2)
  else if isEc kt then
    let c := curveOf kt
    let r := s.fresh (8 * c.len)
    let d := r.1 % (c.n - 1) + 1
    (toBe c.len d ++ Pk.ecPublic c d, r.2)
  else if isEd kt then
    let r := s.freshBytes 32
    (natsOf r.1 ++ Pk.edPublic (natsOf r.1), r.2)
  else if isRsa kt then
    let bits := 4 * rsaLen kt
    (rsaMaterial (rsaLen kt) (Config.prime bits s.freeCtr) (Config.prime bits (s.freeCtr + 1)),
      { s with freeCtr := s.freeCtr + 2 })
  else if isKem kt then
    let r := s.freshBytes 64
    (Lattice.kemKeyGen (kemOf kt) (natsOf (r.1.take 32)) (natsOf (r.1.drop 32)), r.2)
  else if isDsa kt then
    let r := s.freshBytes 32
    ((Lattice.dsaKeyGen (dsaOf kt) (natsOf r.1)).2, r.2)
  else
    let r := s.freshBytes (createLen kt)
    (natsOf r.1, r.2)

/-! ## CREATE, IMPORT, DERIVE -/

/-- CREATE (0x0401). -/
def performCreate (w : Work) (s : State) : State := s.settleChk w (do
  s.vtChecks w
  let r := s.drawKey w.keyType
  return r.2.newEntry w { shard := w.vtShard, keyType := w.keyType, usage := w.usage, expiry := w.expiry, material := r.1 })

/-- A private EC key's point is `d`·G (R139). -/
def pairOk (kt : Nat) (m : Bs) : Bool :=
  !isEc kt || isPublicOnly kt ||
    (let c := curveOf kt
     m.drop c.len == Pk.ecPublic c (valBe (m.take c.len)))

/-- The key IMPORT reads from its buffer: a wrapped blob, or a public key behind an 8-byte header (R139). -/
def State.importKey (s : State) (w : Work) : Chk KeyMat := do
  let hd ← dmaRead w.h w.bufA 8
  let kt := leAt hd 0 2
  let n := leAt hd 4 2
  let plain := leAt hd 6 1 == 1 && leAt hd 7 1 == 0 && (matLen kt).isSome && lenFits kt n
  if isPublicOnly kt then do
    needField plain 24
    needField (w.bufN == 8 + n) 32
    let m ← dmaRead w.h (w.bufA + 8) n
    needField (publicValid kt (natsOf m)) 24
    return { keyType := kt, usage := some (leAt hd 2 2), material := natsOf m, salt := 0, expiry := 0, shard := 0,
             source := none }
  else do
    needField (plain && w.bufA % 8 == 0) 24
    needField (w.bufN == 16 + 8 * ceilDiv (16 + n) 8 + 8) 32
    let k ← s.openBlob w.h (s.tenantOf w.sq) w.bufA 24
    needField (pairOk k.keyType k.material) 24
    return k

/-- IMPORT (0x0402). -/
def performImport (w : Work) (s : State) : State := s.settleChk w (do
  s.vtChecks w
  let k ← s.importKey w
  let own := k.usage.getD 0
  let u := if w.usage = 0 then own else w.usage
  needField ((u &&& own) == u && usageFits k.keyType u) 38
  let s := if isPublicOnly k.keyType then s else s.touchKey w.h 2 w.bufA
  return s.newEntry w { shard := w.vtShard, keyType := k.keyType, usage := u, expiry := w.expiry, material := k.material })

/-- The child's expiry: capped by its parent's. -/
def childExpiry (child parent : Nat) : Nat :=
  if parent = 0 then child else if child = 0 then parent else min child parent

/-- DERIVE (0x0404). -/
def performDerive (w : Work) (s : State) : State := s.settleChk w (do
  s.vtChecks w
  let k ← s.keyOperand w.h (s.tenantOf w.sq) w.hKind w.vtHandle 8 0
  checkTypeUse k 8 (fun _ => true) [uDerive]
  needField (!bitOf w.usage uExport || bitOf (k.usage.getD 0) uExport) 38
  let s := s.touchKey w.h w.hKind w.vtHandle
  return s.readOr w w.bufA w.bufN (0, 0) (fun info =>
    s.newEntry w
      { shard := w.vtShard, keyType := w.keyType, usage := w.usage, expiry := childExpiry w.expiry k.expiry,
        material := Hash.hkdf .sha512 k.material (toLe 2 w.keyType ++ toLe 2 w.usage) (natsOf info) (createLen w.keyType) }))

/-! ## EXPORT_WRAPPED, ROTATE, DESTROY, QUERY -/

/-- The blob of R93. -/
def blobOf (k : KeyMat) (kek : Nat) (kekMat : Bs) : Bs :=
  let hd := toLe 2 k.keyType ++ toLe 2 (k.usage.getD 0) ++ toLe 2 k.material.length ++ [1, 0] ++ toLe 8 kek
  hd ++ Aes.kwp kekMat (hd ++ k.material)

/-- EXPORT_WRAPPED (0x0403). -/
def performExportWrapped (w : Work) (s : State) : State := s.settleChk w (do
  s.vtChecks w
  let tenant := s.tenantOf w.sq
  let k ← s.keyOperand w.h tenant 0 w.vtHandle 8 0
  checkTypeUse k 8 (fun t => !isPublicOnly t) [uExport]
  let e ← s.keyOperand w.h tenant 0 w.kek 16 0
  checkTypeUse e 16 (fun t => t == 6) [uWrap]
  let blob := blobOf k w.kek e.material
  needField (decide (blob.length ≤ w.bufN)) 32
  let s := (s.touchKey w.h 0 w.vtHandle).touchKey w.h 0 w.kek
  return (s.hostOut w w.bufA (bytesOf blob) []).complete w stOk blob.length)

/-- ROTATE (0x0405): new material and salt, the next generation. -/
def performRotate (w : Work) (s : State) : State := s.settleChk w (do
  s.vtChecks w
  let (i, e) ← s.checkHandle (s.tenantOf w.sq) w.vtHandle 8
  needField (!isPublicOnly e.keyType) 8
  let r := s.drawKey e.keyType
  let salt := r.2.fresh 32
  let t : TableWrite :=
    { index := i, live := true, generation := nextGen e.generation, tenant := e.tenant, keyType := e.keyType,
      usage := e.usage, nonceSalt := salt.1, created := e.created, expiry := e.expiry, material := bytesOf r.1 }
  return (salt.2.adopt i e).tableWrite w t e.shard (handleOf i { e with generation := t.generation }))

/-- DESTROY (0x0406): stops at no failed tag and at no expiry, and compares the stored clear bytes (R133, R141). -/
def performDestroy (w : Work) (s : State) : State := s.settleChk w (do
  s.vtChecks w
  let i ← s.handleIndex (s.tenantOf w.sq) w.vtHandle 8
  let e := s.entryClear i
  s.needUnfenced i (s.entry i)
  need (handleCurrent e w.vtHandle) (fail stHandleStale 8 1)
  let t : TableWrite :=
    { index := i, live := false, generation := (e.generation + 1) % 65536, tenant := 0, keyType := 0, usage := 0,
      nonceSalt := 0, created := 0, expiry := 0, material := [] }
  return (s.adopt i e).tableWrite w t e.shard 0)

/-- The next index above `i` that holds a live entry of a tenant. -/
def State.nextOf (s : State) (tenant i : Nat) : Nat :=
  (((s.vault.entries.filter (fun e => decide (i < e.1) && e.2.live && e.2.tenant == tenant)).map (·.1)).min?).getD
    0xFFFFFFFF

/-- The attribute record of R140; `e` is none when no live entry of the tenant is at the index. -/
def State.attrRecord (s : State) (tenant i : Nat) (e : Option Entry) : Bs :=
  let tail := zeros 8 ++ toLe 4 (s.nextOf tenant i) ++ zeros 4
  match e with
  | none => zeros 48 ++ tail
  | some e =>
    let flags := b2n e.epoch + 2 * b2n (e.extCount != 0) + 4 * b2n (s.isPrimary e.shard && s.rd .vtShard_size e.shard != 0)
      + 8 * b2n (s.expired e)
    let check := if isPublicOnly e.keyType then zeros 8 else (Hash.hmac .sha256 (natsOf e.material) [0x4B]).take 8
    toLe 8 (handleOf i e) ++ toLe 2 e.keyType ++ toLe 2 e.usage ++ toLe 2 e.material.length ++ [e.shard % 256, flags]
      ++ toLe 8 e.created ++ toLe 8 e.expiry ++ toLe 4 e.nonceSalt ++ zeros 4 ++ check ++ tail

/-- QUERY (0x0407): a current handle, expired or not, or a lookup of an index (R141). -/
def performQuery (w : Work) (s : State) : State := s.settleChk w (do
  s.vtChecks w
  let tenant := s.tenantOf w.sq
  let h := w.vtHandle
  let lookup := h / 2 ^ 24 % 2 ^ 16 == 0
  let i ← s.handleIndex tenant h 8
  s.needUnfenced i (s.entry i)
  let e ← s.needEntry i 8
  need (lookup || handleCurrent e h) (fail stHandleStale 8 1)
  let mine := if e.live && e.tenant == tenant then some e else none
  return (s.hostOut w w.bufA (bytesOf (s.attrRecord tenant i mine)) []).complete w stOk 64)

/-! ## The rewrap sweep (R149) -/

/-- REWRAP_START (0x0408): the next key ID, sealed over the previous key's slot and placed; the sweep starts. -/
def performRewrapStart (w : Work) (s : State) : State := s.settleChk w (do
  s.vtChecks w
  let r := s.freshBytes 32
  let v := r.2.vault
  let old := (v.keyId, v.key)
  let s := r.2.setVault
    { v with keyId := (v.keyId + 1) % 2 ^ 32, key := r.1, prev := some old, sealedPrev := some old, sweeping := true,
             fromZero := false }
  let s := ((s.sealRecord 1 s.vault.keyId s.vault.key).checkpoint 0).showSweep 0
  return s.complete w stOk (b2n s.epochNow))

/-- REWRAP_STATUS (0x0409). -/
def performRewrapStatus (w : Work) (s : State) : State := s.settleChk w (do
  s.vtChecks w
  return s.complete w stOk
    (s.rd .vtStatus_sweepNext % 2 ^ 25 + 2 ^ 25 * b2n s.vault.sweeping + 2 ^ 26 * b2n s.epochNow))

/-! ## Backup images (R153, R154, R457) -/

/-- The device identity key's scalar (R457). -/
def State.identityKey (s : State) : Nat :=
  -- ASCII "isaric-identity-p521"
  let info := [105, 115, 97, 114, 105, 99, 45, 105, 100, 101, 110, 116, 105, 116, 121, 45, 112, 53, 50, 49]
  valBe (Hash.hkdf .sha512 s.identitySeed (zeros 64) info 74) % (Pk.p521.n - 1) + 1

/-- The live entries, in index order. -/
def State.liveEntries (s : State) : List (Nat × Entry) :=
  (s.vault.entries.map (fun e => (e.1, (s.entryRead e.1).getD e.2))).filter (fun e => e.2.live)

/-- An image but for its signature. -/
def State.imageBody (s : State) : Bs :=
  let live := s.liveEntries
  let key := fun (e : Entry) => (s.tableKey e.epoch).getD []
  toLe 2 1 ++ [s.vault.t, 0] ++ toLe 4 live.length ++ toLe 8 s.thm.serial ++ toLe 8 s.tableTime ++ toLe 4 s.vault.keyId
    ++ zeros 36 ++ (live.map (fun e => entryStored (key e.2) e.1 e.2 ++ extStored (key e.2) e.1 e.2)).flatten

/-- BACKUP_SEAL (0x040A). -/
def performBackupSeal (w : Work) (s : State) : State := s.settleChk w (do
  s.vtChecks w
  let body := s.imageBody
  let n := body.length + 132
  needField (decide (n ≤ w.bufN)) 32
  match s.liveEntries.findSome? (fun e => s.entryFenced e.1 e.2) with
  | some u => .error (fail stResourceRetired 0xFF 1 u)
  | none =>
  match s.liveEntries.find? (fun e => s.entryBad e.1) with
  | some e => .error { fail stAccessDenied 0xFF 3 with integrity := some e.1 }
  | none =>
    let r := s.fresh 521
    let sig := Pk.ecdsaSign Pk.p521 s.identityKey (Hash.sha512 body) (r.1 % (Pk.p521.n - 1) + 1)
    return (r.2.hostOut w w.bufA (bytesOf (body ++ sig)) []).complete w stOk n)

/-- The verified records of an image, in order. -/
def imageRecords (key : Bs) : Nat → Bs → List (Nat × Entry)
  | 0, _ => []
  | n + 1, bs =>
    match entryParse key bs with
    | some (i, e, used) => (i, e) :: imageRecords key n (bs.drop used)
    | none =>
      imageRecords key n (bs.drop (128 + 128 * extBlocksFor (valLe ((bs.drop 8).take 2)) (valLe ((bs.drop 12).take 2))))

/-- The write of a record of an image. -/
def recordWrite (r : Nat × Entry) : TableWrite :=
  { index := r.1, live := true, generation := r.2.generation, tenant := r.2.tenant, keyType := r.2.keyType,
    usage := r.2.usage, nonceSalt := r.2.nonceSalt, created := r.2.created, expiry := r.2.expiry, material := r.2.material }

/-- A record whose index is live, or lies outside the table, is skipped (R154). -/
def State.recordSkipped (s : State) (r : Nat × Entry) : Bool :=
  decide (r.1 ≥ s.tableSize) || (s.entry r.1).live || !r.2.live

/-- May a record be written: RESOURCE_RETIRED on a fenced granule (R25), QUOTA without room for its material (R130)? -/
def State.recordFits (s : State) (r : Nat × Entry) : Chk Unit :=
  match s.writeFenced (recordWrite r) (!s.alone r.2.shard) with
  | some u => .error (fail stResourceRetired 0xFF 1 u)
  | none => need (s.extAlloc (writeBlocks (recordWrite r))).isSome (fail stQuota 0xFF 1)

/-- All records written here under the current epoch, and how many: nothing is written where one of them does not fit (R128,
R154). -/
def State.restoreAll (s : State) : List (Nat × Entry) → Nat → Chk (State × Nat)
  | [], n => .ok (s, n)
  | r :: rs, n =>
    if s.recordSkipped r then s.restoreAll rs n
    else
      match s.recordFits r with
      | .error f => .error f
      | .ok _ => (s.applyWrite (recordWrite r) r.2.shard false).restoreAll rs (n + 1)

/-- The descriptor at its next stage. -/
def State.rework (s : State) (w w' : Work) : State :=
  { s with rings := { s.rings with work := s.rings.work.replace w w' } }

/-- The records of an image one after another: a write to a shard of the mesh goes to its primary and commits before the next
(R143); the descriptor waits for it. -/
def State.restoreFrom (s : State) (w : Work) : List (Nat × Entry) → Nat → State
  | [], n => s.complete w stOk n
  | r :: rs, n =>
    if s.recordSkipped r then s.restoreFrom w rs n
    else
      match s.recordFits r with
      | .error f => s.complete w f.status f.result
      | .ok _ =>
        if s.alone r.2.shard then (s.applyWrite (recordWrite r) r.2.shard false).restoreFrom w rs (n + 1)
        else
          let w' := { w with resume := some (r :: rs, n) }
          let t := (s.rework w w').tableWrite w' (recordWrite r) r.2.shard 0
          match t.rings.work.find? (fun x => x.sq == w.sq && x.d == w.d && x.at_ == .fenced && x.resume == some (rs, n + 1)) with
          | some x => t.restoreFrom x rs (n + 1)
          | none => t

/-- The table key an image names: the current one, or the previous one unsealed for it. -/
def State.imageKey (s : State) (id : Nat) : Option Bs :=
  if id = s.vault.keyId then some (natsOf s.vault.key)
  else match s.vault.sealedPrev with
    | some p => if p.1 = id then some (natsOf p.2) else none
    | none => none

/-- BACKUP_RESTORE (0x040B); one whose writes go through the mesh goes on where it stands. A device that stands alone for the
shards of all records writes them at once. -/
def performBackupRestore (w : Work) (s : State) : State := s.settleChk w (do
  if let some (rs, n) := w.resume then return s.restoreFrom w rs n
  s.vtChecks w
  needField (decide (64 + 132 ≤ w.bufN)) 32
  return s.readOr w w.bufA w.bufN (0, 0) (fun bs => s.settleChk w (do
    let img := natsOf bs
    let body := img.take (img.length - 132)
    let pub := Pk.ecPublic Pk.p521 s.identityKey
    let denied := fail stAccessDenied 0xFF 3
    need (Pk.ecdsaVerify Pk.p521 pub (Hash.sha512 body) (img.drop (img.length - 132))) denied
    need (valLe (img.take 2) == 1 && valLe ((img.drop 8).take 8) == s.thm.serial) denied
    match s.imageKey (valLe ((img.drop 24).take 4)) with
    | none => .error denied
    | some key =>
      let rs := imageRecords key (valLe ((img.drop 4).take 4)) (body.drop 64)
      let (t, n) ← s.restoreAll rs 0
      if rs.all (fun r => s.alone r.2.shard) then return t.complete w stOk n
      else return s.restoreFrom w rs 0)))

end Sys2Proof.Machine
end

