-- ==== Sys2Proof/Machine/Services.lean ====
section
/-! DEFINITION. Dispatch of descriptors (R22, R73, R74, R98): readiness, holds, fences, and what every command leaves the
block to do: classify latched units, dispatch what waited. -/

namespace Sys2Proof.Machine

open Sys2Proof

/-! ## What a descriptor needs (R22) -/

/-- A cipher stage among the stages of a group 0x01 descriptor, and a vector in DDR5 space. -/
def Work.strmNeeds (w : Work) : Bool × Bool :=
  if w.opcode = 0x0101 then
    let chain := chainOf ((List.range 4).map (fun j => w.f (54 + j) 1))
    let sp := w.f 58 1
    let inDdr := fun (bit off : Nat) =>
      bitOf sp bit && !decide (boltBase ≤ w.f off 8 ∧ w.f off 8 < boltBase + boltSize)
    (chain.any isCipher, inDdr 0 8 || inDdr 2 16 || (recLen chain != 0 && inDdr 4 24))
  else if w.opcode = 0x0102 then
    let b := w.block.getD []
    let chain := chainOf (hdrCodes b)
    let inDdr := fun (o : Nat) => decide (2 ≤ leAt b (o + 14) 1 % 4)
    (chain.any isCipher, inDdr 64 || inDdr 80 || (recLen chain != 0 && inDdr 96))
  else (false, false)

/-- Every DDR5 channel that is not retired. -/
def State.ddrSets (s : State) : List (List Nat) :=
  ((List.range 8).filter (fun c => !s.flag .ddrcState_retired c)).map (fun c => [readyDdr c])

/-- The readiness sets of a descriptor: at least one bit of each (R22). -/
def State.needSets (s : State) (w : Work) : List (List Nat) :=
  let needle := List.range' 16 8
  let one := fun (b : Bool) (k : Nat) => if b then [[k]] else []
  let op := w.opcode
  let group : List (List Nat) :=
    match op / 256 with
    | 1 =>
      let n := w.strmNeeds
      [[readyShuttle], List.range' 24 4, [readyTier 0], [readyTier 1], [readyTier 2]] ++ (if n.2 then s.ddrSets else [])
        ++ one n.1 readyVault
    | 2 => [needle, [readyVault], [readyTrng]]
    | 3 =>
      let pw := decide (0x0301 ≤ op ∧ op ≤ 0x0303)
      let keyed := decide (0x0303 ≤ op ∧ op ≤ 0x0305) || (pw && (w.pepKind == 0 || w.pepKind == 2))
      [needle, [readyShuttle]] ++ one keyed readyVault ++ one (op == 0x0303) readyTrng
        ++ (if pw && w.hashInDdr then s.ddrSets else [])
    | 4 => [readyVault] :: one (op == 0x0401 || op == 0x0402 || op == 0x0404 || op == 0x0405 || op == 0x0408) readyTrng
    | 5 => [needle, [readySessions], [readyVault]]
    | 6 => [needle, [readyVault]]
    | 7 => List.range' 32 4 :: one (op != 0x0701) readyMesh
    | 0x0F => [[readyFitter]]
    | _ => []
  [readyRings] :: [readyHub] :: group

/-- The required bits that are clear, as a NOT_READY record reports them (R100): a set without a ready bit shows whole. -/
def State.unmet (s : State) (w : Work) : Nat :=
  (s.needSets w).foldl (fun m l => if l.any s.isReady then m else l.foldl (fun m b => withBit m b true) m) 0

/-! ## Dispatch (R73, R74, R98) -/

/-- The operations by opcode; any other is UNSUPPORTED (R98 step 2). -/
def performByOpcode (w : Work) (s : State) : State :=
  match w.opcode with
  | 0x0101 => performStream w s
  | 0x0102 => performStreamCmd w s
  | 0x0201 => performSign w s
  | 0x0202 => performVerify w s
  | 0x0203 => performEcdh w s
  | 0x0204 => performRsaEncrypt w s
  | 0x0205 => performRsaDecrypt w s
  | 0x0206 => performKemEncaps w s
  | 0x0207 => performKemDecaps w s
  | 0x0208 => performPubkeyExport w s
  | 0x0301 => performPasswordVerify w s
  | 0x0302 => performPasswordHash w s
  | 0x0303 => performPasswordDerive w s
  | 0x0304 => performMac w s
  | 0x0305 => performMacVerify w s
  | 0x0401 => performCreate w s
  | 0x0402 => performImport w s
  | 0x0403 => performExportWrapped w s
  | 0x0404 => performDerive w s
  | 0x0405 => performRotate w s
  | 0x0406 => performDestroy w s
  | 0x0407 => performQuery w s
  | 0x0408 => performRewrapStart w s
  | 0x0409 => performRewrapStatus w s
  | 0x040A => performBackupSeal w s
  | 0x040B => performBackupRestore w s
  | 0x0501 => performOpen w s
  | 0x0502 => performUpdate w s
  | 0x0503 => performFinal w s
  | 0x0504 => performClose w s
  | 0x0505 => performMigrate w s
  | 0x0601 => performLoad w s
  | 0x0602 => performInvoke w s
  | 0x0603 => performUnload w s
  | 0x0701 => performJoin w s
  | 0x0702 => performLeave w s
  | 0x0703 => performShardConfig w s
  | 0x0704 => performMemberQuery w s
  | 0x0705 => performTakeover w s
  | 0x0F00 => performNop w s
  | 0x0F01 => performErrorRingSetup w s
  | 0x0F02 => performProfileChange w s
  | 0x0F03 => performRetire w s
  | 0x0F04 => performRestore w s
  | 0x0F05 => performSelfTest w s
  | 0x0F06 => performRingRestart w s
  | 0x0F07 => performRingClass w s
  | 0x0F08 => performVectorRetarget w s
  | 0x0F09 => performTenantLimits w s
  | op => s.complete w stUnsupported (resultOf 0 0 op)

/-- Is the opcode one of the table's (R98 step 2)? -/
def opAssigned (op : Nat) : Bool :=
  let lo := op % 256
  match op / 256 with
  | 1 => lo == 1 || lo == 2
  | 2 => decide (1 ≤ lo ∧ lo ≤ 8)
  | 3 => decide (1 ≤ lo ∧ lo ≤ 5)
  | 4 => decide (1 ≤ lo ∧ lo ≤ 0x0B)
  | 5 => decide (1 ≤ lo ∧ lo ≤ 5)
  | 6 => decide (1 ≤ lo ∧ lo ≤ 3)
  | 7 => decide (1 ≤ lo ∧ lo ≤ 5)
  | 0x0F => decide (lo ≤ 9)
  | _ => false

/-- Does the descriptor wait for something other than readiness: the end of Bolt maintenance, which holds every request of the
engines (R331), room in its ring's admission queue (R179), or the end of a
hand-off of the session it names (R122)? -/
def State.mustWait (s : State) (w : Work) : Bool :=
  if s.flag .boltMode_maint && decide (w.opcode / 256 ≤ 6) then true
  else if w.opcode / 256 = 1 then !s.queueRoom w.ring
  else if w.opcode / 256 = 5 ∧ w.opcode ≠ 0x0501 then
    let x := s.sess (w.ref % 65536)
    w.seKind == 1 && x.migrating.isSome && x.gen == w.ref / 65536
  else false

/-- Holds a descriptor that readiness does not dispatch (R74): NOT_READY at once with a limit of 0 or a full store. -/
def State.hold (s : State) (w : Work) (m : Nat) : State :=
  match w.at_ with
  | .held _ => s
  | _ =>
    if s.holdLimitNs = 0 ∨ 4096 ≤ s.heldCount then s.complete w stNotReady m else s.moveWork w (.held s.time)

/-- Considers a fetched descriptor for dispatch. The block of a STREAM_CMD is read first: a read that fails completes at
once (R103). -/
def State.consider (s : State) (w : Work) : State :=
  if s.isFenced w then s.moveWork w .fenced
  else if w.opcode = 0x0102 ∧ w.block = none then s.failWork w { fail stDmaFault 0xFF 1 with aer := true }
  else
    let m := s.unmet w
    if m ≠ 0 then s.hold w m
    else if opAssigned w.opcode && s.mustWait w then s.moveWork w .fenced
    else performByOpcode w ((s.operandReads w).serveWork w)

/-- A descriptor command: its fetched descriptor is the oldest one of this SQ with these bytes that waits for its command,
or a new one. -/
def State.submit (s : State) (opcode sq : Nat) (d : Desc) (h : HostView) (fin : InvokeEnd) (flag : Bool) : State :=
  let w : Work := { sq, opcode, d, h, fin, flag, at_ := .landed }
  match s.rings.work.find? (fun x => x.sq == sq && x.opcode == opcode && x.d == d && x.at_ == .landed) with
  | some x => State.consider { s with rings := { s.rings with work := s.rings.work.replace x w } } w
  | none => State.consider (s.addWork w) w

/-! ## What every command is followed by -/

/-- Is generation `g` of an entry what a write of it replaces whose commit is pending? -/
def State.oldPending (s : State) (i g : Nat) : Bool :=
  s.mesh.shards.any (fun x => x.2.pend.any (fun p => p.w.index == i && p.old.live && p.old.generation == g))

/-- Key-schedule slots of an entry whose generation is no longer current, when no stream is bound to them (R176). -/
def State.purgeSlots (s : State) : State :=
  if s.sht.pipes.all (fun p => p.2.slots.isEmpty) then s
  else
    let bound := fun (t : KsTag) => (s.sht.flight ++ s.sht.waiting).any (fun x => x.ks == some t)
    let keep := fun (t : KsTag) => match t with
      | .entry i g => bound t || ((s.entry i).live && (s.entry i).generation == g) || s.oldPending i g
      | .blob _ => true
    s.each 16 (fun p s => let x := s.pipe p; s.setPipe p { x with slots := x.slots.filter keep })

/-- Does a descriptor wait for dispatch? -/
def Work.waits (w : Work) : Bool := match w.at_ with | .fenced => true | .held _ => true | _ => false

/-- Descriptors that wait are considered again, in fetch order. -/
def State.reconsider (s : State) : State :=
  (s.rings.work.filter Work.waits).foldl (fun s w => if s.rings.work.contains w then s.consider w else s) s

/-- Shows a number in a status field. -/
def State.showCount (s : State) (f : Fld) (i n : Nat) : State :=
  if s.rd f i = n % 2 ^ f.spec.width then s else s.wr f i n

/-- The open session contexts, the streams of a retire ring in flight and those waiting, the filled key-schedule slots. -/
def State.openSessions (s : State) : Nat := (s.vault.sessions.filter (fun e => e.2.isOpen)).length
def State.ringInFlight (s : State) (r : Nat) : Nat := (s.sht.flight.filter (fun x => x.ring == r)).length
def State.ringWaiting (s : State) (r : Nat) : Nat := (s.sht.waiting.filter (fun x => x.ring == r)).length
def State.filledSlots (s : State) (p : Nat) : Nat := (s.pipe p).slots.length

/-- The status fields that count what the block holds: RING_STAT.held, VT_SESSIONS.open, SHT_RR_STATE.in_flight and
.waiting, STC_PIPE_STATE.ks_slots. -/
def State.showStatus (s : State) : State :=
  let s := s.showCount .ringStat_held 0 s.heldCount
  let s := s.showCount .vtSessions_open 0 s.openSessions
  let s := s.each 16 (fun r s => s.showCount .shtRrState_inFlight r (s.ringInFlight r))
  let s := s.each 16 (fun r s => s.showCount .shtRrState_waiting r (s.ringWaiting r))
  s.each 16 (fun p s => s.showCount .stcPipeState_ksSlots p (s.filledSlots p))

/-- What the block does by itself after a command: begins a hot reset that waited (R48), goes on with an update (R463), classifies latched units (R429,
R435), clears slots (R176), completes configurations (R419), dispatches what waited (R73, R74), serves the Hub's waiting
transactions. The status fields that count follow. -/
def State.settle (s : State) : State :=
  let s := State.rollOn 9 s.hotWhenDone
  let s := State.classifyLatched (s.fit.latched.length + 64) s
  s.purgeSlots.finishConfs.reconsider.showStatus.hubDrain.showStatus

/-- A handler followed by `settle`. -/
def settled (o : Host.Outcome State Fault Refusal) : Host.Outcome State Fault Refusal :=
  match o with
  | .next s => .next s.settle
  | o => o

end Sys2Proof.Machine
end

