-- ==== Sys2Proof/Machine/Readiness.lean ====
section
/-! DEFINITION. Readiness bits that no command of their own sets, descriptors that land, holds and timeouts that end, AER
errors, and the delivery of Tack events (R22, R31, R60, R74, R359, R365, R383, R433, R487). -/

namespace Sys2Proof.Machine

open Sys2Proof

/-! ## READY_BIT_SET (R383) -/

/-- Does a bank stand in the way of its tier's bit no more: it is retired, or cleared and on, or kept in retention (R342,
R346)? -/
def State.bankUp (s : State) (b : Nat) : Bool := s.flag .boltBankState_retired b || decide (s.rd .boltBankState_power b ≤ 1)

/-- Does the condition of readiness bit `b` hold, for the bits that no other command sets? -/
def State.readyCond (s : State) (b : Nat) : Bool :=
  let serving := s.power.rootLock && s.clocked && !s.heldInReset
  if b = readyHub then serving && s.flag .clkIsland_running 68 && !s.flag .clkIsland_inReset 68
  else if b = readyTier 0 ∨ b = readyTier 1 ∨ b = readyTier 2 then
    serving && s.isReady readyHub && s.tierLeft (b - readyTier 0)
      && (List.range 16).all (fun i => s.bankUp (16 * (b - readyTier 0) + i))
  else if b = readyBoltVault then
    s.isReady (readyTier 0) && !s.bolt.lay.vaultB.isEmpty && !s.bolt.wiping && !s.debugOpen
  else if b = readyShuttle ∨ b = readyTack then s.locked && s.isReady readyHub
  else if b = readySessions then s.locked && s.lifeServes && s.isReady (readyTier 0) && (s.scanCtx [] 65536 0).isSome
  else false

/-- READY_BIT_SET: the bit sets, and what waits for it goes on. Maintenance mode ends when the last tier is cleared (R331,
R342); BOLT_VAULT lets the table keys be placed (R462). -/
def actReadyBitSet (b : Nat) (s : State) : Host.Outcome State Fault Refusal :=
  if s.isReady b || !s.readyCond b then .next s
  else
    let s := s.setReady b true
    let tiers := (List.range 3).all (fun t => s.isReady (readyTier t))
    let s := if readyTier 0 ≤ b ∧ b ≤ readyTier 2 ∧ tiers then s.wr .boltMode_maint 0 0 else s
    .next (if b = readyBoltVault then s.placeKeys else s)

/-! ## Descriptors (R60, R74, R98) -/

/-- One descriptor of a fetch arrives: the head moves past it; an opcode that is not assigned is dispatched at once, any
other waits for its command. -/
def State.landOne (s : State) (sq : Nat) (x : W16 × Desc × HostView) : State :=
  let q := s.sq sq
  if q.fetching = 0 then s
  else
    let s := s.setSq sq { q with fetching := q.fetching - 1 }
    let s := s.wr .ringSqState_head sq ((s.rd .ringSqState_head sq + 1) % s.sqSize sq)
    let w : Work :=
      { sq, opcode := x.1.toNat, d := x.2.1, h := x.2.2, fin := .running, flag := false, at_ := .landed }
    let s := s.addWork w
    if opAssigned w.opcode then s else s.consider w

/-- DESCRIPTOR_LAND (R60): more descriptors than the fetch asked for do not exist. -/
def actDescriptorLand (sq : Nat) (ds : List (W16 × Desc × HostView)) (s : State) : Host.Outcome State Fault Refusal :=
  if (s.sq sq).fetching = 0 then .next s
  else .next ((ds.foldl (fun s x => s.landOne sq x) s).noteConsumed sq)

/-- HOLD_LIMIT_EXPIRY (R74): a held descriptor completes NOT_READY, naming the bits it waits for. -/
def actHoldLimitExpiry (sq : Nat) (cid : W16) (s : State) : Host.Outcome State Fault Refusal :=
  match s.rings.work.find? (fun w => w.is sq cid && (match w.at_ with | .held _ => true | _ => false)) with
  | some w => .next (s.complete w stNotReady (s.unmet w))
  | none => .next s

/-- The DMA_FAULT of a read of host memory that failed (R31, R100). -/
def readFault : Nat := resultOf 0xFF 1 0

/-- COMPLETION_TIMEOUT (R31): the descriptor that owns the read ends with DMA_FAULT, and AER reports it. A descriptor that
reads nothing at this moment is untouched, and nothing times out while Completion Timeout Disable is set. -/
def actCompletionTimeout (sq : Nat) (cid : W16) (s : State) : Host.Outcome State Fault Refusal :=
  if (s.fnCfg 0).ctl.ctoDisable then .next s
  else
    match s.rings.work.find? (fun w => w.is sq cid && (w.at_ == .landed || w.at_ == .running)) with
    | none => .next s
    | some w =>
      if w.at_ = .landed then .next (((s.emit (.aerRead .timeout)).spoilTargets w).complete w stDmaFault readFault)
      else
        match s.sht.flight.find? (fun x => x.poster == .desc sq cid.toNat && x.ended.isNone) with
        | some x => .next ((s.emit (.aerRead .timeout)).endStrm x.id stDmaFault readFault).shuttleRun
        | none =>
          match (List.range 64).find? (fun n => match (s.nd n).inv with
            | some i => i.sq == sq && i.cid == cid.toNat
            | none => false) with
          | some n => .next ((s.emit (.aerRead .timeout)).endInv n stDmaFault readFault)
          | none => .next s

/-- MIGRATE_TIMEOUT (R148): the hand-off ends with no peer copy known. -/
def actMigrateTimeout (peer seq : Nat) (s : State) : Host.Outcome State Fault Refusal := .next (s.endHandoff peer seq)

/-- AER_ERROR (R433): an event of the PCIe link's bucket. -/
def actAerError (uncorrectable : Bool) (s : State) : Host.Outcome State Fault Refusal :=
  .next (s.bucketEvent 0x500 (if uncorrectable then 16 else 1))

/-! ## TACK_DELIVERY (R254, R359, R360, R365, R487) -/

/-- A trigger that its consumer does not take (R365). -/
def State.tackDrop (s : State) (input : Nat) : State := s.countSat .tckDrop_count input

/-- The INT record of an accepted event (R254). -/
def tackRecord (task gen src : Nat) : Nat := task + 4 * gen + 256 * src

/-- A Needle's task input: judged against the mask and pushed to the queue of operand bank 0, at every level. -/
def State.tackNeedle (s : State) (input src gen : Nat) : State :=
  let n := input / 4
  let x := s.nd n
  let l := x.q 0 .evt
  let on := bitOf (x.port 0 NUnit.evt.block).lo.toNat (input % 4)
  if !s.ndReady n || !on || decide (NUnit.evt.depth ≤ l.length) then s.tackDrop input
  else
    let e : QEnt := { qFlight (intVal (tackRecord (input % 4) gen src)) with ready := true }
    s.setNd n (x.setQ 0 .evt (l ++ [e]))

/-- A trigger reaches its consumer, which takes it or is busy. -/
def State.tackArrive (s : State) (input src gen : Nat) : State :=
  if input < 256 then s.tackNeedle input src gen
  else if input < 260 then
    -- the record enters the Fitter engine's EVT queue, and its firmware reads it, which sets the engine's generation, and
    -- reports it at once (R254, R360, R487, log 63)
    if s.fitterAlive && decide (((s.nd 64).q 0 .evt).length < NUnit.evt.depth) then
      let x := s.nd 64
      (s.setNd 64 { x with u := { x.u with evtGen := gen + 1 } }).report 0x0602 0x17 0 (tackRecord (input - 256) gen src) repNone
    else s.tackDrop input
  else if input < 276 then
    if s.testable (input - 260) then s.startTest (input - 260) (gen + 1) else s.tackDrop input
  else if input = 276 then
    if !s.isReady readyVault || s.vault.mirroring then s.tackDrop input
    else if s.vault.sweeping then s.ckptRequest gen else s
  else if s.rd .periTimer_periodUs (input - 277) = 0 then s.tackDrop input
  else s.restartTimer (input - 277) gen

/-- Do two inputs lie behind one seam? An input without a seam has an order of its own. -/
def sameSeam (i j : Nat) : Bool := i == j || (inputIsland i).isSome && inputIsland i == inputIsland j

/-- The triggers that leave a seam up to the first one for `input`, oldest first: entries leave in the order they entered
(R17). None where no trigger for it is on its way. -/
def seamPrefix (input : Nat) : List (Nat × Nat × Nat) → List (Nat × Nat × Nat)
  | [] => []
  | e :: es => if e.1 = input then [e] else e :: seamPrefix input es

/-- TACK_DELIVERY: the oldest trigger on its way to this input arrives, after those that entered its seam before it. -/
def actTackDelivery (input : Nat) (s : State) : Host.Outcome State Fault Refusal :=
  let line := s.tack.flying.filter (fun e => sameSeam e.1 input)
  if line.any (fun e => e.1 == input) then
    .next ((seamPrefix input line).foldl (fun s e =>
      (s.setTack { s.tack with flying := s.tack.flying.erase e }).tackArrive e.1 e.2.1 e.2.2) s)
  else .next s

end Sys2Proof.Machine
end

