-- ==== Sys2Proof/Machine/EngineCmds.lean ====
section
/-! DEFINITION. The commands of the engines: Shuttle, Stitch, Vault Table, Needles, Bolt, Hub, Tack, DDR5. -/

namespace Sys2Proof.Machine

open Sys2Proof

/-- NDL_ENGINE_RESET (R318). -/
def execNdlEngineReset (n : Nat) (s : State) : Host.Outcome State Fault Refusal := settled (actNdlEngineReset n s)

/-- NDL_MODE_WRITE (R321). -/
def execNdlModeWrite (n : Nat) (remap : Bool) (debug : Bool) (s : State) : Host.Outcome State Fault Refusal :=
  settled (actNdlModeWrite n remap debug s)

/-- STREAM_ADMIT (R179). -/
def execStreamAdmit (src : AdmitFrom) (s : State) : Host.Outcome State Fault Refusal :=
  settled (actStreamAdmit src s)

/-- CHUNK_SOURCE_LAND (R172). -/
def execChunkSourceLand (stream : Nat) (data : Option (List Byte)) (ecc : EccEvent) (s : State) : Host.Outcome State Fault Refusal :=
  settled (actChunkSourceLand stream data ecc s)

/-- KEY_SCHEDULE_BUILT (R176). -/
def execKeyScheduleBuilt (pipe : Nat) (s : State) : Host.Outcome State Fault Refusal :=
  settled (actKeyScheduleBuilt pipe s)

/-- JOB_FINISH (R183). -/
def execJobFinish (pipe : Nat) (fault : Bool) (s : State) : Host.Outcome State Fault Refusal :=
  settled (actJobFinish pipe fault s)

/-- OUTPUT_DRAIN_DONE (R172). -/
def execOutputDrainDone (stream : Nat) (bolt : MemAnswer) (s : State) : Host.Outcome State Fault Refusal :=
  settled (actOutputDrainDone stream bolt s)

/-- STREAM_RETIRE (R180). -/
def execStreamRetire (ring : Nat) (s : State) : Host.Outcome State Fault Refusal := settled (actStreamRetire ring s)

/-- SEAM_ABORT (R17). -/
def execSeamAbort (at_ : AbortAt) (s : State) : Host.Outcome State Fault Refusal := settled (actSeamAbort at_ s)

/-- SELFTEST_INTERVAL (R187). -/
def execSelftestInterval (s : State) : Host.Outcome State Fault Refusal := settled (actSelftestInterval s)

/-- SELF_TEST_END (R187). -/
def execSelfTestEnd (pipe : Nat) (failed : Bool) (s : State) : Host.Outcome State Fault Refusal :=
  settled (actSelfTestEnd pipe failed s)

/-- STITCH_QUAD_DRAINED (R188). -/
def execStitchQuadDrained (s : State) : Host.Outcome State Fault Refusal := settled (actStitchQuadDrained s)

/-- REWRAP_SWEEP_STEP (R150). -/
def execRewrapSweepStep (s : State) : Host.Outcome State Fault Refusal := settled (actRewrapSweepStep s)

/-- FREE_LIST_REBUILD_DONE (R156). -/
def execFreeListRebuildDone (s : State) : Host.Outcome State Fault Refusal := settled (actFreeListRebuildDone s)

/-- BUNDLE_ISSUE (R200). -/
def execBundleIssue (f : BundleFetch) (s : State) : Host.Outcome State Fault Refusal := settled (actBundleIssue f.n f.ecc s)

/-- UNIT_RESULT_PUSH (R222). -/
def execUnitResultPush (n : Nat) (unit : Nat) (s : State) : Host.Outcome State Fault Refusal :=
  settled (actUnitResultPush n unit s)

/-- LONG_OP_COMPLETE (R256). -/
def execLongOpComplete (n : Nat) (s : State) : Host.Outcome State Fault Refusal := settled (actLongOpComplete n s)

/-- LOAD_RETURN (R242). -/
def execLoadReturn (n : Nat) (ans : MemAnswer) (s : State) : Host.Outcome State Fault Refusal :=
  settled (actLoadReturn n ans s)

/-- DIRECT_LOAD_WRITE (R306). -/
def execDirectLoadWrite (n : Nat) (ans : MemAnswer) (s : State) : Host.Outcome State Fault Refusal :=
  settled (actDirectLoadWrite n ans s)

/-- STORE_PERFORM (R241). -/
def execStorePerform (n : Nat) (s : State) : Host.Outcome State Fault Refusal := settled (actStorePerform n s)

/-- STORE_FAULT_REPORT (R242). -/
def execStoreFaultReport (n : Nat) (ecc : Bool) (s : State) : Host.Outcome State Fault Refusal :=
  settled (actStoreFaultReport n ecc s)

/-- GATHER_ELEMENT_FAULT (R266). -/
def execGatherElementFault (n : Nat) (element : Nat) (ecc : Bool) (s : State) : Host.Outcome State Fault Refusal :=
  settled (actGatherElementFault n element ecc s)

/-- VGATHER_FF_COUNT (R267). -/
def execVgatherFfCount (n : Nat) (s : State) : Host.Outcome State Fault Refusal := settled (actVgatherFfCount n s)

/-- BUDGET_EXPIRY (R296). -/
def execBudgetExpiry (n : Nat) (s : State) : Host.Outcome State Fault Refusal := settled (actBudgetExpiry n s)

/-- FITTER_INTERRUPT (R296). -/
def execFitterInterrupt (n : Nat) (s : State) : Host.Outcome State Fault Refusal := settled (actFitterInterrupt n s)

/-- DEBUG_HALT (R296). -/
def execDebugHalt (n : Nat) (s : State) : Host.Outcome State Fault Refusal := settled (actDebugHalt n s)

/-- WATCHDOG_EXPIRY (R295). -/
def execWatchdogExpiry (n : Nat) (s : State) : Host.Outcome State Fault Refusal := settled (actWatchdogExpiry n s)

/-- CRIT_WINDOW_EXPIRY (R299). -/
def execCritWindowExpiry (n : Nat) (s : State) : Host.Outcome State Fault Refusal :=
  settled (actCritWindowExpiry n s)

/-- BOLT_CYCLE (R329). -/
def execBoltCycle (reqs : List BoltReq) (s : State) : Host.Outcome State Fault Refusal :=
  settled (actBoltCycle reqs s)

/-- BOLT_SCRUB_READ (R339). -/
def execBoltScrubRead (ecc : EccEvent) (clientWrote : Bool) (s : State) : Host.Outcome State Fault Refusal :=
  settled (actBoltScrubRead ecc clientWrote s)

/-- BANK_IDLE_TIMEOUT (R341). -/
def execBankIdleTimeout (bank : Nat) (s : State) : Host.Outcome State Fault Refusal :=
  settled (actBankIdleTimeout bank s)

/-- BANK_WAKE_DONE (R342). -/
def execBankWakeDone (bank : Nat) (s : State) : Host.Outcome State Fault Refusal := settled (actBankWakeDone bank s)

/-- VAULT_READBACK_DONE (R344). -/
def execVaultReadbackDone (nonZero : List (Nat × Nat)) (s : State) : Host.Outcome State Fault Refusal :=
  settled (actVaultReadbackDone nonZero s)

/-- DONOR_COPY_DONE (R345). -/
def execDonorCopyDone (bank : Nat) (s : State) : Host.Outcome State Fault Refusal :=
  settled (actDonorCopyDone bank s)

/-- CACHE_WRITEBACK_DONE (R346). -/
def execCacheWritebackDone (s : State) : Host.Outcome State Fault Refusal := settled (actCacheWritebackDone s)

/-- HUB_REQUEST (R349). -/
def execHubRequest (r : HubReq) (s : State) : Host.Outcome State Fault Refusal := settled (actHubRequest r s)

/-- HUB_RESPONSE (R354). -/
def execHubResponse (master : Nat) (id : Nat) (s : State) : Host.Outcome State Fault Refusal :=
  settled (actHubResponse master id s)

/-- TACK_DELIVERY (R365). -/
def execTackDelivery (input : Nat) (s : State) : Host.Outcome State Fault Refusal :=
  settled (actTackDelivery input s)

/-- CHECKPOINT_MIRROR_DONE (R358). -/
def execCheckpointMirrorDone (s : State) : Host.Outcome State Fault Refusal := settled (actCheckpointMirrorDone s)

/-- DDR_TRAINING_DONE (R395). -/
def execDdrTrainingDone (ch : Nat) (found : DdrFound) (s : State) : Host.Outcome State Fault Refusal :=
  settled (actDdrTrainingDone ch found s)

/-- DDR_RESTORE_DONE (R396). -/
def execDdrRestoreDone (r : ChanRestore) (s : State) : Host.Outcome State Fault Refusal :=
  settled (actDdrRestoreDone r.ch r.sweeps s)

/-- DQS_OSC_INTERVAL (R397). -/
def execDqsOscInterval (ch : Nat) (rank : Nat) (drift64 : Int) (s : State) : Host.Outcome State Fault Refusal :=
  settled (actDqsOscInterval ch rank drift64 s)

/-- ZQ_CAL_INTERVAL (R397). -/
def execZqCalInterval (ch : Nat) (rank : Nat) (s : State) : Host.Outcome State Fault Refusal :=
  settled (actZqCalInterval ch rank s)

/-- DDR_REFRESH (R388). -/
def execDdrRefresh (ch : Nat) (above85 : Bool) (s : State) : Host.Outcome State Fault Refusal :=
  settled (actDdrRefresh ch above85 s)

/-- RANK_SWEEP_BURST (R398). -/
def execRankSweepBurst (ch : Nat) (rank : Nat) (s : State) : Host.Outcome State Fault Refusal :=
  settled (actRankSweepBurst ch rank s)

/-- RANK_SWEEP_END (R399). -/
def execRankSweepEnd (ch : Nat) (rank : Nat) (lanes : List LaneMargin) (s : State) : Host.Outcome State Fault Refusal :=
  settled (actRankSweepEnd ch rank lanes s)

/-- PATROL_SCRUB_STEP (R397). -/
def execPatrolScrubStep (ch : Nat) (ecc : EccEvent) (clientWrote : Bool) (s : State) : Host.Outcome State Fault Refusal :=
  settled (actPatrolScrubStep ch ecc clientWrote s)

/-- DDR_ACCESS (R401). -/
def execDdrAccess (r : DdrReq) (s : State) : Host.Outcome State Fault Refusal := settled (actDdrAccess r s)

/-- DDR_SPPR_DONE (R403). -/
def execDdrSpprDone (r : RowRepair) (s : State) : Host.Outcome State Fault Refusal := settled (actDdrSpprDone r.ch r.lost s)

/-- MIGRATION_GRANULE_COPY (R406). -/
def execMigrationGranuleCopy (uncorrectable : Bool) (s : State) : Host.Outcome State Fault Refusal :=
  settled (actMigrationGranuleCopy uncorrectable s)

/-- TACK_CYCLE (R363). -/
def execTackCycle (s : State) : Host.Outcome State Fault Refusal :=
  settled (actTackCycle s)

/-- GPIO_EDGE (R358). -/
def execGpioEdge (pin : Nat) (rising : Bool) (s : State) : Host.Outcome State Fault Refusal :=
  settled (actGpioEdge pin rising s)

/-- PERI_TIMER_EXPIRY (R358). -/
def execPeriTimerExpiry (t : Nat) (s : State) : Host.Outcome State Fault Refusal :=
  settled (actPeriTimerExpiry t s)

/-- LOCKUP_CLEAR_DONE (R301). -/
def execLockupClearDone (n : Nat) (s : State) : Host.Outcome State Fault Refusal :=
  settled (actLockupClearDone n s)

end Sys2Proof.Machine
end

