-- ==== Sys2Proof/Machine/HostCmds.lean ====
section
/-! DEFINITION. The commands of the host link, resets and set-up: each is its effect, then what the block does by itself (settle). -/

namespace Sys2Proof.Machine

open Sys2Proof

/-- POWER_ON_RESET (R476). -/
def execPowerOnReset (s : State) : Host.Outcome State Fault Refusal := settled (actPowerOnReset s)

/-- POWER_ON_RESET_RELEASE (R476). -/
def execPowerOnResetRelease (s : State) : Host.Outcome State Fault Refusal := settled (actPowerOnResetRelease s)

/-- SYS_RST_N_ASSERT (R377). -/
def execSysRstNAssert (below100 : Bool) (s : State) : Host.Outcome State Fault Refusal :=
  settled (actSysRstNAssert below100 s)

/-- PERST_N_ASSERT (R377). -/
def execPerstNAssert (s : State) : Host.Outcome State Fault Refusal := settled (actPerstNAssert s)

/-- PERST_N_RELEASE (R43). -/
def execPerstNRelease (s : State) : Host.Outcome State Fault Refusal := settled (actPerstNRelease s)

/-- HOT_RESET (R377). -/
def execHotReset (s : State) : Host.Outcome State Fault Refusal := settled (actHotReset s)

/-- DL_DOWN (R48). -/
def execDlDown (s : State) : Host.Outcome State Fault Refusal := settled (actDlDown s)

/-- LINK_TRAINED (R383). -/
def execLinkTrained (s : State) : Host.Outcome State Fault Refusal := settled (actLinkTrained s)

/-- FLR_PF0 (R47). -/
def execFlrPf0 (s : State) : Host.Outcome State Fault Refusal := settled (actFlrPf0 s)

/-- FLR_VF (R47). -/
def execFlrVf (n : Nat) (s : State) : Host.Outcome State Fault Refusal := settled (actFlrVf n s)

/-- D3HOT_TO_D0 (R47). -/
def execD3hotToD0 (s : State) : Host.Outcome State Fault Refusal := settled (actD3hotToD0 s)

/-- BUS_MASTER_ENABLE_SET (R379). -/
def execBusMasterEnableSet (fn : Nat) (cfg : CfgControls) (s : State) : Host.Outcome State Fault Refusal :=
  settled (actBusMasterEnableSet fn cfg s)

/-- BAR0_BAD_ACCESS (R35). -/
def execBar0BadAccess (a : RegAccess) (write : Bool) (s : State) : Host.Outcome State Fault Refusal :=
  settled (actBar0BadAccess a write s)

/-- GATED_BLOCK_ACCESS (R357). -/
def execGatedBlockAccess (a : RegAccess) (write : Bool) (s : State) : Host.Outcome State Fault Refusal :=
  settled (actGatedBlockAccess a write s)

/-- REGISTER_WRITE (R10). -/
def execRegisterWrite (a : RegAccess) (s : State) : Host.Outcome State Fault Refusal :=
  settled (actRegisterWrite a s)

/-- SETUP_LOCK_REQUEST (R44). -/
def execSetupLockRequest (s : State) : Host.Outcome State Fault Refusal := settled (actSetupLockRequest s)

/-- LOCK_CHECK_DONE (R43). -/
def execLockCheckDone (s : State) : Host.Outcome State Fault Refusal := settled (actLockCheckDone s)

/-- RING_VF_LOCK_REQUEST (R55). -/
def execRingVfLockRequest (fn : Nat) (s : State) : Host.Outcome State Fault Refusal :=
  settled (actRingVfLockRequest fn s)

/-- VF_LOCK_CHECK_DONE (R55). -/
def execVfLockCheckDone (fn : Nat) (s : State) : Host.Outcome State Fault Refusal :=
  settled (actVfLockCheckDone fn s)

/-- LC_REQ_DEPLOY (R456). -/
def execLcReqDeploy (value : W32) (s : State) : Host.Outcome State Fault Refusal := settled (actLcReqDeploy value s)

/-- DESCRIPTOR_LAND (R60). -/
def execDescriptorLand (sq : Nat) (ds : List (W16 × Desc × HostView)) (s : State) : Host.Outcome State Fault Refusal :=
  settled (actDescriptorLand sq ds s)

/-- READY_BIT_SET (R41). -/
def execReadyBitSet (bit : Nat) (s : State) : Host.Outcome State Fault Refusal := settled (actReadyBitSet bit s)

/-- HOLD_LIMIT_EXPIRY (R74). -/
def execHoldLimitExpiry (sq : Nat) (cid : W16) (s : State) : Host.Outcome State Fault Refusal :=
  settled (actHoldLimitExpiry sq cid s)

/-- COMPLETION_TIMEOUT (R31). -/
def execCompletionTimeout (sq : Nat) (cid : W16) (s : State) : Host.Outcome State Fault Refusal :=
  settled (actCompletionTimeout sq cid s)

/-- SYS_RST_N_RELEASE (R477). -/
def execSysRstNRelease (s : State) : Host.Outcome State Fault Refusal := settled (actSysRstNRelease s)

/-- AER_ERROR (R433). -/
def execAerError (uncorrectable : Bool) (s : State) : Host.Outcome State Fault Refusal :=
  settled (actAerError uncorrectable s)

/-- SWEEP_ISSUE (R60). -/
def execSweepIssue (s : State) : Host.Outcome State Fault Refusal :=
  settled (actSweepIssue s)

/-- SWEEP_RETURN (R60). -/
def execSweepReturn (words : List W64) (s : State) : Host.Outcome State Fault Refusal :=
  settled (actSweepReturn words s)

/-- DOORBELL_READ_RETURN (R65). -/
def execDoorbellReadReturn (n : Nat) (word : W64) (s : State) : Host.Outcome State Fault Refusal :=
  settled (actDoorbellReadReturn n word s)

/-- CAS_RETURN (R61). -/
def execCasReturn (word : Nat) (res : CasResult) (s : State) : Host.Outcome State Fault Refusal :=
  settled (actCasReturn word res s)

/-- CLEAR_REREAD_RETURN (R62). -/
def execClearRereadReturn (n : Nat) (word : W64) (s : State) : Host.Outcome State Fault Refusal :=
  settled (actClearRereadReturn n word s)

/-- FETCH_FAIL (R75). -/
def execFetchFail (n addr : Nat) (why : ReadFail) (s : State) : Host.Outcome State Fault Refusal :=
  settled (actFetchFail n addr why s)

/-- SUMMARY_READ_FAIL (R75). -/
def execSummaryReadFail (addr : Nat) (why : ReadFail) (s : State) : Host.Outcome State Fault Refusal :=
  settled (actSummaryReadFail addr why s)

/-- MSIX_UNMASK (R81). -/
def execMsixUnmask (fn v : Nat) (s : State) : Host.Outcome State Fault Refusal :=
  settled (actMsixUnmask fn v s)

/-- CQ_COAL_TIMER (R80). -/
def execCqCoalTimer (c : Nat) (s : State) : Host.Outcome State Fault Refusal :=
  settled (actCqCoalTimer c s)

/-- STATUS_PAGE_WRITE (R83). -/
def execStatusPageWrite (s : State) : Host.Outcome State Fault Refusal :=
  settled (actStatusPageWrite s)

/-- ERR_CONSUMER_READ_RETURN (R86). -/
def execErrConsumerReadReturn (count : W32) (s : State) : Host.Outcome State Fault Refusal :=
  settled (actErrConsumerReadReturn count s)

end Sys2Proof.Machine
end

