-- ==== Sys2Proof/Machine/MeshCmds.lean ====
section
/-! DEFINITION. The commands of the Selvage mesh: frames received, timers, ports (chapter 17). -/

namespace Sys2Proof.Machine

open Sys2Proof

/-- A frame that carries no sequence of its own, KEEPALIVE or ACK: a valid one makes its path live and releases what its ack
covers; any other is discarded (R413, R414, R418). -/
def State.heard (s : State) (f : FrameHdr) (b : MeshBody) : State :=
  if s.frameOk f b then (s.hear f b).takeAck f.src f.ack else s.discardFrame f b

/-- The sequences of a pair have begun again at the peer: its first frame arrives as one not sent before, where later ones have
been received. A join frame, of which each port carries a copy, does so only of a device that is no member or was lost: no rule
of R414 says how a member that was reset is heard (log 43). -/
def State.renews (s : State) (f : FrameHdr) (b : MeshBody) : Bool :=
  let p := s.peer f.src
  s.frameOk f b && f.seq == 1 && !f.resent && decide (1 < p.rxSeq)
    && (match b with | .membership (.join _ _) => !p.member || p.lost | _ => true)

/-- The pair begins again at this end too; after a join frame nothing of the old one is left. -/
def State.renew (s : State) (f : FrameHdr) (b : MeshBody) : State :=
  if !s.renews f b then s
  else match b with
    | .membership (.join _ _) => s.forgetPair f.src
    | _ => s.restartPair f.src

/-- A reliable frame of either beginning (R414). -/
def State.arrive (s : State) (f : FrameHdr) (b : MeshBody) (act : State → State) : State := (s.renew f b).receive f b act

/-- MIGRATE_TIMEOUT (R148). -/
def execMigrateTimeout (peer : Nat) (seq : Nat) (s : State) : Host.Outcome State Fault Refusal :=
  settled (actMigrateTimeout peer seq s)

/-- KEEPALIVE (R418). -/
def execKeepalive (f : FrameHdr) (deviceTime ports : Nat) (s : State) : Host.Outcome State Fault Refusal :=
  .next (s.heard f (.keepalive deviceTime ports)).settle

/-- MEMBERSHIP (R417). -/
def execMembership (f : FrameHdr) (b : MemberBody) (s : State) : Host.Outcome State Fault Refusal :=
  .next (s.arrive f (.membership b) (fun s => s.onMembership f b)).settle

/-- SHARD_WRITE (R420). -/
def execShardWrite (f : FrameHdr) (b : ShardBody) (s : State) : Host.Outcome State Fault Refusal :=
  .next (s.arrive f (.shardWrite b) (fun s => s.onShardWrite f b)).settle

/-- SHARD_REPLY (R422). -/
def execShardReply (f : FrameHdr) (accept : Bool) (heldEpoch : Nat) (s : State) : Host.Outcome State Fault Refusal :=
  .next (s.arrive f (.shardReply accept heldEpoch) (fun s => s.onShardReply f accept heldEpoch)).settle

/-- FORWARD (R143). -/
def execForward (f : FrameHdr) (w : TableWrite) (s : State) : Host.Outcome State Fault Refusal :=
  .next (s.arrive f (.forward w) (fun s => s.onForward f w)).settle

/-- CLAIM (R420). -/
def execClaim (f : FrameHdr) (claimant : Nat) (s : State) : Host.Outcome State Fault Refusal :=
  .next (s.arrive f (.claim claimant) (fun s => s.onClaim f claimant)).settle

/-- CLAIM_REPLY (R420). -/
def execClaimReply (f : FrameHdr) (accept : Bool) (value : Nat) (s : State) : Host.Outcome State Fault Refusal :=
  .next (s.arrive f (.claimReply accept value) (fun s => s.onClaimReply f accept value)).settle

/-- RELOAD (R424). -/
def execReload (f : FrameHdr) (b : ReloadBody) (s : State) : Host.Outcome State Fault Refusal :=
  .next (s.arrive f (.reload b) (fun s => s.onReload f b)).settle

/-- HANDOFF (R148). -/
def execHandoff (f : FrameHdr) (m : SessionImage) (s : State) : Host.Outcome State Fault Refusal :=
  .next (s.arrive f (.handoff m) (fun s => s.onHandoff f m)).settle

/-- HANDOFF_REPLY (R148). -/
def execHandoffReply (f : FrameHdr) (reference : W64) (s : State) : Host.Outcome State Fault Refusal :=
  .next (s.arrive f (.handoffReply reference.toNat) (fun s => s.onHandoffReply f reference.toNat)).settle

/-- ACK (R414). -/
def execAck (f : FrameHdr) (s : State) : Host.Outcome State Fault Refusal := .next (s.heard f .ack).settle

/-- KEEPALIVE_TIMER (R418). -/
def execKeepaliveTimer (s : State) : Host.Outcome State Fault Refusal := .next (s.keepaliveTimer).settle

/-- PEER_LOST_TIMEOUT (R418). -/
def execPeerLostTimeout (device : Nat) (s : State) : Host.Outcome State Fault Refusal :=
  .next (s.peerLost device).settle

/-- RETRANSMIT_TIMER (R414). -/
def execRetransmitTimer (peer : Nat) (s : State) : Host.Outcome State Fault Refusal :=
  .next (s.retransmit peer).settle

/-- ACK_TIMER (R414). -/
def execAckTimer (peer : Nat) (s : State) : Host.Outcome State Fault Refusal := .next (s.ackTimer peer).settle

/-- JOIN_TIMEOUT (R417). -/
def execJoinTimeout (s : State) : Host.Outcome State Fault Refusal := .next (s.joinTimeout).settle

/-- CLAIM_RETRY_TIMER (R420). -/
def execClaimRetryTimer (shard : Nat) (s : State) : Host.Outcome State Fault Refusal :=
  .next (s.claimRetry shard).settle

/-- BER_WINDOW_END (R427). -/
def execBerWindowEnd (port : Nat) (corrected : List Nat) (uncorrected : Nat) (s : State) :
    Host.Outcome State Fault Refusal := settled (actBerWindowEnd port corrected uncorrected s)

/-- RENEGOTIATION_DONE (R427). -/
def execRenegotiationDone (port : Nat) (ok : Bool) (s : State) : Host.Outcome State Fault Refusal :=
  settled (actRenegotiationDone port ok s)

/-- SV_LINK_UP (R416). -/
def execSvLinkUp (l : LinkUp) (s : State) : Host.Outcome State Fault Refusal := settled (actSvLinkUp l.port l.hundred s)

/-- SV_LINK_DOWN (R41). -/
def execSvLinkDown (port : Nat) (s : State) : Host.Outcome State Fault Refusal := settled (actSvLinkDown port s)

end Sys2Proof.Machine
end

