-- ==== Sys2Proof/Machine/ServiceCmds.lean ====
section
/-! DEFINITION. The work descriptors by opcode (R99): each is dispatched by R22, R73, R74 and R98, then the block settles. -/

namespace Sys2Proof.Machine

open Sys2Proof

/-- STREAM (R104). -/
def execStream (sq : Nat) (d : Desc) (h : HostView) (s : State) : Host.Outcome State Fault Refusal :=
  .next (s.submit 0x0101 sq d h .running false).settle

/-- STREAM_CMD (R103). -/
def execStreamCmd (sq : Nat) (d : Desc) (h : HostView) (s : State) : Host.Outcome State Fault Refusal :=
  .next (s.submit 0x0102 sq d h .running false).settle

/-- SIGN (R112). -/
def execSign (sq : Nat) (d : Desc) (h : HostView) (s : State) : Host.Outcome State Fault Refusal :=
  .next (s.submit 0x0201 sq d h .running false).settle

/-- VERIFY (R112). -/
def execVerify (sq : Nat) (d : Desc) (h : HostView) (s : State) : Host.Outcome State Fault Refusal :=
  .next (s.submit 0x0202 sq d h .running false).settle

/-- ECDH (R112). -/
def execEcdh (sq : Nat) (d : Desc) (h : HostView) (s : State) : Host.Outcome State Fault Refusal :=
  .next (s.submit 0x0203 sq d h .running false).settle

/-- RSA_ENCRYPT (R112). -/
def execRsaEncrypt (sq : Nat) (d : Desc) (h : HostView) (s : State) : Host.Outcome State Fault Refusal :=
  .next (s.submit 0x0204 sq d h .running false).settle

/-- RSA_DECRYPT (R112). -/
def execRsaDecrypt (sq : Nat) (d : Desc) (h : HostView) (s : State) : Host.Outcome State Fault Refusal :=
  .next (s.submit 0x0205 sq d h .running false).settle

/-- KEM_ENCAPS (R112). -/
def execKemEncaps (sq : Nat) (d : Desc) (h : HostView) (s : State) : Host.Outcome State Fault Refusal :=
  .next (s.submit 0x0206 sq d h .running false).settle

/-- KEM_DECAPS (R112). -/
def execKemDecaps (sq : Nat) (d : Desc) (h : HostView) (s : State) : Host.Outcome State Fault Refusal :=
  .next (s.submit 0x0207 sq d h .running false).settle

/-- PUBKEY_EXPORT (R112). -/
def execPubkeyExport (sq : Nat) (d : Desc) (h : HostView) (s : State) : Host.Outcome State Fault Refusal :=
  .next (s.submit 0x0208 sq d h .running false).settle

/-- MAC (R112). -/
def execMac (sq : Nat) (d : Desc) (h : HostView) (s : State) : Host.Outcome State Fault Refusal :=
  .next (s.submit 0x0304 sq d h .running false).settle

/-- MAC_VERIFY (R112). -/
def execMacVerify (sq : Nat) (d : Desc) (h : HostView) (s : State) : Host.Outcome State Fault Refusal :=
  .next (s.submit 0x0305 sq d h .running false).settle

/-- PASSWORD_VERIFY (R115). -/
def execPasswordVerify (sq : Nat) (d : Desc) (h : HostView) (s : State) : Host.Outcome State Fault Refusal :=
  .next (s.submit 0x0301 sq d h .running false).settle

/-- PASSWORD_HASH (R115). -/
def execPasswordHash (sq : Nat) (d : Desc) (h : HostView) (s : State) : Host.Outcome State Fault Refusal :=
  .next (s.submit 0x0302 sq d h .running false).settle

/-- PASSWORD_DERIVE (R115). -/
def execPasswordDerive (sq : Nat) (d : Desc) (h : HostView) (s : State) : Host.Outcome State Fault Refusal :=
  .next (s.submit 0x0303 sq d h .running false).settle

/-- CREATE (R139). -/
def execCreate (sq : Nat) (d : Desc) (h : HostView) (s : State) : Host.Outcome State Fault Refusal :=
  .next (s.submit 0x0401 sq d h .running false).settle

/-- IMPORT (R139). -/
def execImportKey (sq : Nat) (d : Desc) (h : HostView) (s : State) : Host.Outcome State Fault Refusal :=
  .next (s.submit 0x0402 sq d h .running false).settle

/-- EXPORT_WRAPPED (R139). -/
def execExportWrapped (sq : Nat) (d : Desc) (h : HostView) (s : State) : Host.Outcome State Fault Refusal :=
  .next (s.submit 0x0403 sq d h .running false).settle

/-- DERIVE (R139). -/
def execDerive (sq : Nat) (d : Desc) (h : HostView) (s : State) : Host.Outcome State Fault Refusal :=
  .next (s.submit 0x0404 sq d h .running false).settle

/-- ROTATE (R139). -/
def execRotate (sq : Nat) (d : Desc) (h : HostView) (s : State) : Host.Outcome State Fault Refusal :=
  .next (s.submit 0x0405 sq d h .running false).settle

/-- DESTROY (R139). -/
def execDestroy (sq : Nat) (d : Desc) (h : HostView) (s : State) : Host.Outcome State Fault Refusal :=
  .next (s.submit 0x0406 sq d h .running false).settle

/-- QUERY (R141). -/
def execQuery (sq : Nat) (d : Desc) (h : HostView) (s : State) : Host.Outcome State Fault Refusal :=
  .next (s.submit 0x0407 sq d h .running false).settle

/-- REWRAP_START (R149). -/
def execRewrapStart (sq : Nat) (d : Desc) (h : HostView) (s : State) : Host.Outcome State Fault Refusal :=
  .next (s.submit 0x0408 sq d h .running false).settle

/-- REWRAP_STATUS (R119). -/
def execRewrapStatus (sq : Nat) (d : Desc) (h : HostView) (s : State) : Host.Outcome State Fault Refusal :=
  .next (s.submit 0x0409 sq d h .running false).settle

/-- BACKUP_SEAL (R153). -/
def execBackupSeal (sq : Nat) (d : Desc) (h : HostView) (s : State) : Host.Outcome State Fault Refusal :=
  .next (s.submit 0x040A sq d h .running false).settle

/-- BACKUP_RESTORE (R154). -/
def execBackupRestore (sq : Nat) (d : Desc) (h : HostView) (s : State) : Host.Outcome State Fault Refusal :=
  .next (s.submit 0x040B sq d h .running false).settle

/-- OPEN (R121). -/
def execOpenSession (sq : Nat) (d : Desc) (h : HostView) (s : State) : Host.Outcome State Fault Refusal :=
  .next (s.submit 0x0501 sq d h .running false).settle

/-- UPDATE (R121). -/
def execUpdate (sq : Nat) (d : Desc) (h : HostView) (s : State) : Host.Outcome State Fault Refusal :=
  .next (s.submit 0x0502 sq d h .running false).settle

/-- FINAL (R121). -/
def execFinal (sq : Nat) (d : Desc) (h : HostView) (s : State) : Host.Outcome State Fault Refusal :=
  .next (s.submit 0x0503 sq d h .running false).settle

/-- CLOSE (R121). -/
def execClose (sq : Nat) (d : Desc) (h : HostView) (s : State) : Host.Outcome State Fault Refusal :=
  .next (s.submit 0x0504 sq d h .running false).settle

/-- MIGRATE (R148). -/
def execMigrate (sq : Nat) (d : Desc) (h : HostView) (s : State) : Host.Outcome State Fault Refusal :=
  .next (s.submit 0x0505 sq d h .running false).settle

/-- LOAD (R465). -/
def execLoad (sq : Nat) (d : Desc) (h : HostView) (s : State) : Host.Outcome State Fault Refusal :=
  .next (s.submit 0x0601 sq d h .running false).settle

/-- INVOKE (R123). -/
def execInvoke (sq : Nat) (d : Desc) (h : HostView) (fin : InvokeEnd) (s : State) : Host.Outcome State Fault Refusal :=
  .next (s.submit 0x0602 sq d h fin false).settle

/-- UNLOAD (R123). -/
def execUnload (sq : Nat) (d : Desc) (h : HostView) (s : State) : Host.Outcome State Fault Refusal :=
  .next (s.submit 0x0603 sq d h .running false).settle

/-- JOIN (R417). -/
def execJoin (sq : Nat) (d : Desc) (h : HostView) (s : State) : Host.Outcome State Fault Refusal :=
  .next (s.submit 0x0701 sq d h .running false).settle

/-- LEAVE (R418). -/
def execLeave (sq : Nat) (d : Desc) (h : HostView) (s : State) : Host.Outcome State Fault Refusal :=
  .next (s.submit 0x0702 sq d h .running false).settle

/-- SHARD_CONFIG (R419). -/
def execShardConfig (sq : Nat) (d : Desc) (h : HostView) (s : State) : Host.Outcome State Fault Refusal :=
  .next (s.submit 0x0703 sq d h .running false).settle

/-- MEMBER_QUERY (R418). -/
def execMemberQuery (sq : Nat) (d : Desc) (h : HostView) (s : State) : Host.Outcome State Fault Refusal :=
  .next (s.submit 0x0704 sq d h .running false).settle

/-- TAKEOVER (R423). -/
def execTakeover (sq : Nat) (d : Desc) (h : HostView) (s : State) : Host.Outcome State Fault Refusal :=
  .next (s.submit 0x0705 sq d h .running false).settle

/-- NOP (R127). -/
def execNop (sq : Nat) (d : Desc) (h : HostView) (s : State) : Host.Outcome State Fault Refusal :=
  .next (s.submit 0x0F00 sq d h .running false).settle

/-- ERROR_RING_SETUP (R84). -/
def execErrorRingSetup (sq : Nat) (d : Desc) (h : HostView) (s : State) : Host.Outcome State Fault Refusal :=
  .next (s.submit 0x0F01 sq d h .running false).settle

/-- PROFILE_CHANGE (R449). -/
def execProfileChange (sq : Nat) (d : Desc) (h : HostView) (s : State) : Host.Outcome State Fault Refusal :=
  .next (s.submit 0x0F02 sq d h .running false).settle

/-- RETIRE (R435). -/
def execRetire (sq : Nat) (d : Desc) (h : HostView) (s : State) : Host.Outcome State Fault Refusal :=
  .next (s.submit 0x0F03 sq d h .running false).settle

/-- RESTORE (R439). -/
def execRestore (sq : Nat) (d : Desc) (h : HostView) (testPassed : Bool) (s : State) : Host.Outcome State Fault Refusal :=
  .next (s.submit 0x0F04 sq d h .running testPassed).settle

/-- SELF_TEST (R187). -/
def execSelfTest (sq : Nat) (d : Desc) (h : HostView) (failed : Bool) (s : State) : Host.Outcome State Fault Refusal :=
  .next (s.submit 0x0F05 sq d h .running failed).settle

/-- RING_RESTART (R59). -/
def execRingRestart (sq : Nat) (d : Desc) (h : HostView) (s : State) : Host.Outcome State Fault Refusal :=
  .next (s.submit 0x0F06 sq d h .running false).settle

/-- RING_CLASS (R68). -/
def execRingClass (sq : Nat) (d : Desc) (h : HostView) (s : State) : Host.Outcome State Fault Refusal :=
  .next (s.submit 0x0F07 sq d h .running false).settle

/-- VECTOR_RETARGET (R38). -/
def execVectorRetarget (sq : Nat) (d : Desc) (h : HostView) (s : State) : Host.Outcome State Fault Refusal :=
  .next (s.submit 0x0F08 sq d h .running false).settle

/-- TENANT_LIMITS (R447). -/
def execTenantLimits (sq : Nat) (d : Desc) (h : HostView) (s : State) : Host.Outcome State Fault Refusal :=
  .next (s.submit 0x0F09 sq d h .running false).settle

end Sys2Proof.Machine
end

