-- ==== Sys2Proof/Machine/SystemCmds.lean ====
section
/-! DEFINITION. The commands of clocks, the Fitter and the Thimble. -/

namespace Sys2Proof.Machine

open Sys2Proof

/-- MISSING_EDGE (R375). -/
def execMissingEdge (s : State) : Host.Outcome State Fault Refusal := settled (actMissingEdge s)

/-- XTAL_JUDGED_STABLE (R369). -/
def execXtalJudgedStable (s : State) : Host.Outcome State Fault Refusal := settled (actXtalJudgedStable s)

/-- ROOT_PLL_LOCK (R370). -/
def execRootPllLock (s : State) : Host.Outcome State Fault Refusal := settled (actRootPllLock s)

/-- DIVISOR_SWITCH (R372). -/
def execDivisorSwitch (island : Nat) (divisor : Nat) (s : State) : Host.Outcome State Fault Refusal :=
  settled (actDivisorSwitch island divisor s)

/-- DROOP_STRETCH (R373). -/
def execDroopStretch (island : Nat) (edges : Nat) (s : State) : Host.Outcome State Fault Refusal :=
  settled (actDroopStretch island edges s)

/-- ISLAND_RESET (R377). -/
def execIslandReset (island : Nat) (s : State) : Host.Outcome State Fault Refusal :=
  settled (actIslandReset island s)

/-- TAPE_SAMPLE (R430). -/
def execTapeSample (x : TapeInputs) (s : State) : Host.Outcome State Fault Refusal :=
  settled (actTapeSample x.island x.values s)

/-- HB_OUT_TOGGLE (R428). -/
def execHbOutToggle (s : State) : Host.Outcome State Fault Refusal := settled (actHbOutToggle s)

/-- LIVENESS_DEADLINE_MISS (R429). -/
def execLivenessDeadlineMiss (lockup : Bool) (s : State) : Host.Outcome State Fault Refusal :=
  settled (actLivenessDeadlineMiss lockup s)

/-- FITTER_RESTART (R429). -/
def execFitterRestart (s : State) : Host.Outcome State Fault Refusal := settled (actFitterRestart s)

/-- FITTER_ALIVE (R429). -/
def execFitterAlive (s : State) : Host.Outcome State Fault Refusal := settled (actFitterAlive s)

/-- BUCKET_SLICE_ADVANCE (R432). -/
def execBucketSliceAdvance (unit : Nat) (s : State) : Host.Outcome State Fault Refusal :=
  settled (actBucketSliceAdvance unit s)

/-- RETIREMENT_LOG_WRITE (R438). -/
def execRetirementLogWrite (s : State) : Host.Outcome State Fault Refusal := settled (actRetirementLogWrite s)

/-- COAL_WINDOW_CLOSE (R442). -/
def execCoalWindowClose (origin : Nat) (cls : Nat) (s : State) : Host.Outcome State Fault Refusal :=
  settled (actCoalWindowClose origin cls s)

/-- POLICY_INTERVAL (R445). -/
def execPolicyInterval (s : State) : Host.Outcome State Fault Refusal := settled (actPolicyInterval s)

/-- ADAPT_PERIOD (R448). -/
def execAdaptPeriod (use : List QueueUse) (s : State) : Host.Outcome State Fault Refusal :=
  settled (actAdaptPeriod use s)

/-- THERMAL_SAMPLE (R451). -/
def execThermalSample (celsius : Nat) (s : State) : Host.Outcome State Fault Refusal :=
  settled (actThermalSample celsius s)

/-- POWER_WINDOW (R452). -/
def execPowerWindow (watts : Nat) (s : State) : Host.Outcome State Fault Refusal := settled (actPowerWindow watts s)

/-- PROFILE_SWITCH_DONE (R449). -/
def execProfileSwitchDone (s : State) : Host.Outcome State Fault Refusal := settled (actProfileSwitchDone s)

/-- STAGE1_VERIFIED (R462). -/
def execStage1Verified (active : ImageJudge) (other : ImageJudge) (s : State) : Host.Outcome State Fault Refusal :=
  settled (actStage1Verified active other s)

/-- IMAGE_VERIFIED (R462). -/
def execImageVerified (kind : Nat) (j : ImageJudge) (s : State) : Host.Outcome State Fault Refusal :=
  settled (actImageVerified kind j s)

/-- TRNG_STARTUP_DONE (R467). -/
def execTrngStartupDone (s : State) : Host.Outcome State Fault Refusal := settled (actTrngStartupDone s)

/-- TRNG_HEALTH_FAIL (R467). -/
def execTrngHealthFail (adaptive : Bool) (s : State) : Host.Outcome State Fault Refusal :=
  settled (actTrngHealthFail adaptive s)

/-- DRBG_RESEED (R467). -/
def execDrbgReseed (s : State) : Host.Outcome State Fault Refusal := settled (actDrbgReseed s)

/-- TAMPER_TRIP (R469). -/
def execTamperTrip (sensor : Nat) (celsius : Nat) (s : State) : Host.Outcome State Fault Refusal :=
  settled (actTamperTrip sensor celsius s)

/-- THIMBLE_WATCHDOG_EXPIRY (R469). -/
def execThimbleWatchdogExpiry (s : State) : Host.Outcome State Fault Refusal := settled (actThimbleWatchdogExpiry s)

/-- THERMAL_TRIP (R486). -/
def execThermalTrip (s : State) : Host.Outcome State Fault Refusal := settled (actThermalTrip s)

/-- DEBUG_UNLOCK (R470). -/
def execDebugUnlock (signatureOk : Bool) (s : State) : Host.Outcome State Fault Refusal :=
  settled (actDebugUnlock signatureOk s)

/-- SPDM_REQUEST (R466). -/
def execSpdmRequest (r : SpdmReq) (s : State) : Host.Outcome State Fault Refusal := settled (actSpdmRequest r s)

/-- FW_WRITE (R463). -/
def execFwWrite (auth : VendorAuth) (offset : Nat) (data : List Byte) (s : State) : Host.Outcome State Fault Refusal :=
  settled (actFwWrite auth offset data s)

/-- FW_ACTIVATE (R463). -/
def execFwActivate (auth : VendorAuth) (j : ImageJudge) (s : State) : Host.Outcome State Fault Refusal :=
  settled (actFwActivate auth j s)

/-- FW_COMMIT (R463). -/
def execFwCommit (auth : VendorAuth) (s : State) : Host.Outcome State Fault Refusal := settled (actFwCommit auth s)

/-- FW_REVERT (R463). -/
def execFwRevert (auth : VendorAuth) (s : State) : Host.Outcome State Fault Refusal := settled (actFwRevert auth s)

/-- MESH_KEY_INSTALL (R466). -/
def execMeshKeyInstall (auth : VendorAuth) (key : List Byte) (number : W32) (s : State) : Host.Outcome State Fault Refusal :=
  settled (actMeshKeyInstall auth key number.toNat s)

/-- LC_RETIRE (R456). -/
def execLcRetire (auth : VendorAuth) (s : State) : Host.Outcome State Fault Refusal := settled (actLcRetire auth s)

/-- JTAG_PROVISION_REQUEST (R456). -/
def execJtagProvisionRequest (s : State) : Host.Outcome State Fault Refusal := settled (actJtagProvisionRequest s)

end Sys2Proof.Machine
end

