-- ==== Sys2Proof/Machine/Dispatch.lean ====
section
/-! DEFINITION. The meaning of each command: its effect on everything but the queue. -/

namespace Sys2Proof.Machine

open Sys2Proof

def exec (i : Instr) (s : State) : Host.Outcome State Fault Refusal :=
  match i with
  | .powerOnReset => Sys2Proof.Machine.execPowerOnReset s
  | .powerOnResetRelease => Sys2Proof.Machine.execPowerOnResetRelease s
  | .sysRstNAssert below100 => Sys2Proof.Machine.execSysRstNAssert below100 s
  | .perstNAssert => Sys2Proof.Machine.execPerstNAssert s
  | .perstNRelease => Sys2Proof.Machine.execPerstNRelease s
  | .hotReset => Sys2Proof.Machine.execHotReset s
  | .dlDown => Sys2Proof.Machine.execDlDown s
  | .linkTrained => Sys2Proof.Machine.execLinkTrained s
  | .flrPf0 => Sys2Proof.Machine.execFlrPf0 s
  | .flrVf n => Sys2Proof.Machine.execFlrVf n s
  | .d3hotToD0 => Sys2Proof.Machine.execD3hotToD0 s
  | .busMasterEnableSet fn cfg => Sys2Proof.Machine.execBusMasterEnableSet fn cfg s
  | .bar0BadAccess a write => Sys2Proof.Machine.execBar0BadAccess a write s
  | .gatedBlockAccess a write => Sys2Proof.Machine.execGatedBlockAccess a write s
  | .registerWrite a => Sys2Proof.Machine.execRegisterWrite a s
  | .setupLockRequest => Sys2Proof.Machine.execSetupLockRequest s
  | .lockCheckDone => Sys2Proof.Machine.execLockCheckDone s
  | .ringVfLockRequest fn => Sys2Proof.Machine.execRingVfLockRequest fn s
  | .vfLockCheckDone fn => Sys2Proof.Machine.execVfLockCheckDone fn s
  | .lcReqDeploy value => Sys2Proof.Machine.execLcReqDeploy value s
  | .ndlEngineReset n => Sys2Proof.Machine.execNdlEngineReset n s
  | .ndlModeWrite n remap debug => Sys2Proof.Machine.execNdlModeWrite n remap debug s
  | .msixUnmask fn vector => Sys2Proof.Machine.execMsixUnmask fn vector s
  | .sweepIssue => Sys2Proof.Machine.execSweepIssue s
  | .sweepReturn words => Sys2Proof.Machine.execSweepReturn words s
  | .doorbellReadReturn sq word => Sys2Proof.Machine.execDoorbellReadReturn sq word s
  | .descriptorLand sq ds => Sys2Proof.Machine.execDescriptorLand sq ds s
  | .casReturn word res => Sys2Proof.Machine.execCasReturn word res s
  | .clearRereadReturn sq word => Sys2Proof.Machine.execClearRereadReturn sq word s
  | .fetchFail sq addr why => Sys2Proof.Machine.execFetchFail sq addr why s
  | .summaryReadFail addr why => Sys2Proof.Machine.execSummaryReadFail addr why s
  | .readyBitSet bit => Sys2Proof.Machine.execReadyBitSet bit s
  | .holdLimitExpiry sq cid => Sys2Proof.Machine.execHoldLimitExpiry sq cid s
  | .cqCoalTimer cq => Sys2Proof.Machine.execCqCoalTimer cq s
  | .statusPageWrite => Sys2Proof.Machine.execStatusPageWrite s
  | .errConsumerReadReturn count => Sys2Proof.Machine.execErrConsumerReadReturn count s
  | .stream sq d h => Sys2Proof.Machine.execStream sq d h s
  | .streamCmd sq d h => Sys2Proof.Machine.execStreamCmd sq d h s
  | .sign sq d h => Sys2Proof.Machine.execSign sq d h s
  | .verify sq d h => Sys2Proof.Machine.execVerify sq d h s
  | .ecdh sq d h => Sys2Proof.Machine.execEcdh sq d h s
  | .rsaEncrypt sq d h => Sys2Proof.Machine.execRsaEncrypt sq d h s
  | .rsaDecrypt sq d h => Sys2Proof.Machine.execRsaDecrypt sq d h s
  | .kemEncaps sq d h => Sys2Proof.Machine.execKemEncaps sq d h s
  | .kemDecaps sq d h => Sys2Proof.Machine.execKemDecaps sq d h s
  | .pubkeyExport sq d h => Sys2Proof.Machine.execPubkeyExport sq d h s
  | .mac sq d h => Sys2Proof.Machine.execMac sq d h s
  | .macVerify sq d h => Sys2Proof.Machine.execMacVerify sq d h s
  | .passwordVerify sq d h => Sys2Proof.Machine.execPasswordVerify sq d h s
  | .passwordHash sq d h => Sys2Proof.Machine.execPasswordHash sq d h s
  | .passwordDerive sq d h => Sys2Proof.Machine.execPasswordDerive sq d h s
  | .create sq d h => Sys2Proof.Machine.execCreate sq d h s
  | .importKey sq d h => Sys2Proof.Machine.execImportKey sq d h s
  | .exportWrapped sq d h => Sys2Proof.Machine.execExportWrapped sq d h s
  | .derive sq d h => Sys2Proof.Machine.execDerive sq d h s
  | .rotate sq d h => Sys2Proof.Machine.execRotate sq d h s
  | .destroy sq d h => Sys2Proof.Machine.execDestroy sq d h s
  | .query sq d h => Sys2Proof.Machine.execQuery sq d h s
  | .rewrapStart sq d h => Sys2Proof.Machine.execRewrapStart sq d h s
  | .rewrapStatus sq d h => Sys2Proof.Machine.execRewrapStatus sq d h s
  | .backupSeal sq d h => Sys2Proof.Machine.execBackupSeal sq d h s
  | .backupRestore sq d h => Sys2Proof.Machine.execBackupRestore sq d h s
  | .openSession sq d h => Sys2Proof.Machine.execOpenSession sq d h s
  | .update sq d h => Sys2Proof.Machine.execUpdate sq d h s
  | .final sq d h => Sys2Proof.Machine.execFinal sq d h s
  | .close sq d h => Sys2Proof.Machine.execClose sq d h s
  | .migrate sq d h => Sys2Proof.Machine.execMigrate sq d h s
  | .migrateTimeout peer seq => Sys2Proof.Machine.execMigrateTimeout peer seq s
  | .load sq d h => Sys2Proof.Machine.execLoad sq d h s
  | .invoke sq d h fin => Sys2Proof.Machine.execInvoke sq d h fin s
  | .unload sq d h => Sys2Proof.Machine.execUnload sq d h s
  | .join sq d h => Sys2Proof.Machine.execJoin sq d h s
  | .leave sq d h => Sys2Proof.Machine.execLeave sq d h s
  | .shardConfig sq d h => Sys2Proof.Machine.execShardConfig sq d h s
  | .memberQuery sq d h => Sys2Proof.Machine.execMemberQuery sq d h s
  | .takeover sq d h => Sys2Proof.Machine.execTakeover sq d h s
  | .nop sq d h => Sys2Proof.Machine.execNop sq d h s
  | .errorRingSetup sq d h => Sys2Proof.Machine.execErrorRingSetup sq d h s
  | .profileChange sq d h => Sys2Proof.Machine.execProfileChange sq d h s
  | .retire sq d h => Sys2Proof.Machine.execRetire sq d h s
  | .restore sq d h testPassed => Sys2Proof.Machine.execRestore sq d h testPassed s
  | .selfTest sq d h failed => Sys2Proof.Machine.execSelfTest sq d h failed s
  | .ringRestart sq d h => Sys2Proof.Machine.execRingRestart sq d h s
  | .ringClass sq d h => Sys2Proof.Machine.execRingClass sq d h s
  | .vectorRetarget sq d h => Sys2Proof.Machine.execVectorRetarget sq d h s
  | .tenantLimits sq d h => Sys2Proof.Machine.execTenantLimits sq d h s
  | .streamAdmit src => Sys2Proof.Machine.execStreamAdmit src s
  | .chunkSourceLand stream data ecc => Sys2Proof.Machine.execChunkSourceLand stream data ecc s
  | .keyScheduleBuilt pipe => Sys2Proof.Machine.execKeyScheduleBuilt pipe s
  | .jobFinish pipe fault => Sys2Proof.Machine.execJobFinish pipe fault s
  | .outputDrainDone stream bolt => Sys2Proof.Machine.execOutputDrainDone stream bolt s
  | .streamRetire ring => Sys2Proof.Machine.execStreamRetire ring s
  | .seamAbort at_ => Sys2Proof.Machine.execSeamAbort at_ s
  | .selftestInterval => Sys2Proof.Machine.execSelftestInterval s
  | .selfTestEnd pipe failed => Sys2Proof.Machine.execSelfTestEnd pipe failed s
  | .stitchQuadDrained => Sys2Proof.Machine.execStitchQuadDrained s
  | .rewrapSweepStep => Sys2Proof.Machine.execRewrapSweepStep s
  | .freeListRebuildDone => Sys2Proof.Machine.execFreeListRebuildDone s
  | .bundleIssue n => Sys2Proof.Machine.execBundleIssue n s
  | .lockupClearDone n => Sys2Proof.Machine.execLockupClearDone n s
  | .unitResultPush n unit => Sys2Proof.Machine.execUnitResultPush n unit s
  | .longOpComplete n => Sys2Proof.Machine.execLongOpComplete n s
  | .loadReturn n ans => Sys2Proof.Machine.execLoadReturn n ans s
  | .directLoadWrite n ans => Sys2Proof.Machine.execDirectLoadWrite n ans s
  | .storePerform n => Sys2Proof.Machine.execStorePerform n s
  | .storeFaultReport n ecc => Sys2Proof.Machine.execStoreFaultReport n ecc s
  | .gatherElementFault n element ecc => Sys2Proof.Machine.execGatherElementFault n element ecc s
  | .vgatherFfCount n => Sys2Proof.Machine.execVgatherFfCount n s
  | .budgetExpiry n => Sys2Proof.Machine.execBudgetExpiry n s
  | .fitterInterrupt n => Sys2Proof.Machine.execFitterInterrupt n s
  | .debugHalt n => Sys2Proof.Machine.execDebugHalt n s
  | .watchdogExpiry n => Sys2Proof.Machine.execWatchdogExpiry n s
  | .critWindowExpiry n => Sys2Proof.Machine.execCritWindowExpiry n s
  | .boltCycle reqs => Sys2Proof.Machine.execBoltCycle reqs s
  | .boltScrubRead ecc clientWrote => Sys2Proof.Machine.execBoltScrubRead ecc clientWrote s
  | .bankIdleTimeout bank => Sys2Proof.Machine.execBankIdleTimeout bank s
  | .bankWakeDone bank => Sys2Proof.Machine.execBankWakeDone bank s
  | .vaultReadbackDone nonZero => Sys2Proof.Machine.execVaultReadbackDone nonZero s
  | .donorCopyDone bank => Sys2Proof.Machine.execDonorCopyDone bank s
  | .cacheWritebackDone => Sys2Proof.Machine.execCacheWritebackDone s
  | .hubRequest r => Sys2Proof.Machine.execHubRequest r s
  | .hubResponse master id => Sys2Proof.Machine.execHubResponse master id s
  | .tackCycle => Sys2Proof.Machine.execTackCycle s
  | .tackDelivery input => Sys2Proof.Machine.execTackDelivery input s
  | .checkpointMirrorDone => Sys2Proof.Machine.execCheckpointMirrorDone s
  | .gpioEdge pin rising => Sys2Proof.Machine.execGpioEdge pin rising s
  | .periTimerExpiry timer => Sys2Proof.Machine.execPeriTimerExpiry timer s
  | .missingEdge => Sys2Proof.Machine.execMissingEdge s
  | .xtalJudgedStable => Sys2Proof.Machine.execXtalJudgedStable s
  | .rootPllLock => Sys2Proof.Machine.execRootPllLock s
  | .divisorSwitch island divisor => Sys2Proof.Machine.execDivisorSwitch island divisor s
  | .droopStretch island edges => Sys2Proof.Machine.execDroopStretch island edges s
  | .islandReset island => Sys2Proof.Machine.execIslandReset island s
  | .ddrTrainingDone ch found => Sys2Proof.Machine.execDdrTrainingDone ch found s
  | .ddrRestoreDone ch => Sys2Proof.Machine.execDdrRestoreDone ch s
  | .dqsOscInterval ch rank drift64 => Sys2Proof.Machine.execDqsOscInterval ch rank drift64 s
  | .zqCalInterval ch rank => Sys2Proof.Machine.execZqCalInterval ch rank s
  | .ddrRefresh ch above85 => Sys2Proof.Machine.execDdrRefresh ch above85 s
  | .rankSweepBurst ch rank => Sys2Proof.Machine.execRankSweepBurst ch rank s
  | .rankSweepEnd ch rank lanes => Sys2Proof.Machine.execRankSweepEnd ch rank lanes s
  | .patrolScrubStep ch ecc clientWrote => Sys2Proof.Machine.execPatrolScrubStep ch ecc clientWrote s
  | .ddrAccess r => Sys2Proof.Machine.execDdrAccess r s
  | .ddrSpprDone ch => Sys2Proof.Machine.execDdrSpprDone ch s
  | .migrationGranuleCopy uncorrectable => Sys2Proof.Machine.execMigrationGranuleCopy uncorrectable s
  | .keepalive f deviceTime ports => Sys2Proof.Machine.execKeepalive f deviceTime ports s
  | .membership f b => Sys2Proof.Machine.execMembership f b s
  | .shardWrite f b => Sys2Proof.Machine.execShardWrite f b s
  | .shardReply f accept heldEpoch => Sys2Proof.Machine.execShardReply f accept heldEpoch s
  | .forward f w => Sys2Proof.Machine.execForward f w s
  | .claim f claimant => Sys2Proof.Machine.execClaim f claimant s
  | .claimReply f accept value => Sys2Proof.Machine.execClaimReply f accept value s
  | .reload f b => Sys2Proof.Machine.execReload f b s
  | .handoff f m => Sys2Proof.Machine.execHandoff f m s
  | .handoffReply f reference => Sys2Proof.Machine.execHandoffReply f reference s
  | .ack f => Sys2Proof.Machine.execAck f s
  | .keepaliveTimer => Sys2Proof.Machine.execKeepaliveTimer s
  | .peerLostTimeout device => Sys2Proof.Machine.execPeerLostTimeout device s
  | .retransmitTimer peer => Sys2Proof.Machine.execRetransmitTimer peer s
  | .ackTimer peer => Sys2Proof.Machine.execAckTimer peer s
  | .joinTimeout => Sys2Proof.Machine.execJoinTimeout s
  | .claimRetryTimer shard => Sys2Proof.Machine.execClaimRetryTimer shard s
  | .berWindowEnd port corrected uncorrected => Sys2Proof.Machine.execBerWindowEnd port corrected uncorrected s
  | .renegotiationDone port ok => Sys2Proof.Machine.execRenegotiationDone port ok s
  | .svLinkUp port => Sys2Proof.Machine.execSvLinkUp port s
  | .tapeSample island => Sys2Proof.Machine.execTapeSample island s
  | .hbOutToggle => Sys2Proof.Machine.execHbOutToggle s
  | .livenessDeadlineMiss lockup => Sys2Proof.Machine.execLivenessDeadlineMiss lockup s
  | .fitterRestart => Sys2Proof.Machine.execFitterRestart s
  | .fitterAlive => Sys2Proof.Machine.execFitterAlive s
  | .bucketSliceAdvance unit => Sys2Proof.Machine.execBucketSliceAdvance unit s
  | .retirementLogWrite => Sys2Proof.Machine.execRetirementLogWrite s
  | .coalWindowClose origin cls => Sys2Proof.Machine.execCoalWindowClose origin cls s
  | .policyInterval => Sys2Proof.Machine.execPolicyInterval s
  | .adaptPeriod use => Sys2Proof.Machine.execAdaptPeriod use s
  | .thermalSample celsius => Sys2Proof.Machine.execThermalSample celsius s
  | .powerWindow watts => Sys2Proof.Machine.execPowerWindow watts s
  | .profileSwitchDone => Sys2Proof.Machine.execProfileSwitchDone s
  | .stage1Verified active other => Sys2Proof.Machine.execStage1Verified active other s
  | .imageVerified kind j => Sys2Proof.Machine.execImageVerified kind j s
  | .trngStartupDone => Sys2Proof.Machine.execTrngStartupDone s
  | .trngHealthFail adaptive => Sys2Proof.Machine.execTrngHealthFail adaptive s
  | .drbgReseed => Sys2Proof.Machine.execDrbgReseed s
  | .tamperTrip sensor celsius => Sys2Proof.Machine.execTamperTrip sensor celsius s
  | .thimbleWatchdogExpiry => Sys2Proof.Machine.execThimbleWatchdogExpiry s
  | .thermalTrip => Sys2Proof.Machine.execThermalTrip s
  | .debugUnlock signatureOk => Sys2Proof.Machine.execDebugUnlock signatureOk s
  | .spdmRequest r => Sys2Proof.Machine.execSpdmRequest r s
  | .fwWrite auth offset data => Sys2Proof.Machine.execFwWrite auth offset data s
  | .fwActivate auth j => Sys2Proof.Machine.execFwActivate auth j s
  | .fwCommit auth => Sys2Proof.Machine.execFwCommit auth s
  | .fwRevert auth => Sys2Proof.Machine.execFwRevert auth s
  | .meshKeyInstall auth key number => Sys2Proof.Machine.execMeshKeyInstall auth key number s
  | .lcRetire auth => Sys2Proof.Machine.execLcRetire auth s
  | .completionTimeout sq cid => Sys2Proof.Machine.execCompletionTimeout sq cid s
  | .sysRstNRelease => Sys2Proof.Machine.execSysRstNRelease s
  | .svLinkDown port => Sys2Proof.Machine.execSvLinkDown port s
  | .aerError uncorrectable => Sys2Proof.Machine.execAerError uncorrectable s
  | .jtagProvisionRequest => Sys2Proof.Machine.execJtagProvisionRequest s

end Sys2Proof.Machine
end

