-- ==== Sys2Proof/Safety.lean ====
section
/-! DEFINITION. What claims call a sound state: its stores in canonical form, its status
fields telling what it holds, and a state in which the block has nothing left to do by itself. -/

namespace Sys2Proof.Machine

open Sys2Proof

/-- The register fields' store is canonical: keys rise, and no field that reads its reset value is listed. -/
def State.regsWf (s : State) : Bool := Store.wf (regDefault s.part) s.regs

/-- The memories in canonical form: the bytes the device wrote to host memory, the Bolt's, the DDR5's and the SPI NOR's, and
each engine's D-store and instruction store. -/
def Memory.wf (s : State) : Bool :=
  Store.wf hostDefault s.host && Store.wf zeroByte s.bolt.data && Store.wf zeroByte s.ddr.data
    && Store.wf norDefault s.thm.nor
    && s.ndl.all (fun e => Store.wf zeroByte e.2.m.dstore && Store.wf zeroByte e.2.m.istore)

/-- A status field counts: it reads `n`, cut to its width. -/
def State.shows (s : State) (f : Fld) (i n : Nat) : Prop := s.rd f i = n % 2 ^ f.spec.width

/-- The status fields that count tell what the block holds: RING_STAT.held the held descriptors (R54), VT_SESSIONS.open the
open session contexts, SHT_RR_STATE.in_flight and .waiting the streams of each retire ring, STC_PIPE_STATE.ks_slots the
filled key-schedule slots of each pipeline. -/
def State.StatusShown (s : State) : Prop :=
  s.shows .ringStat_held 0 s.heldCount ∧ s.shows .vtSessions_open 0 s.openSessions ∧
    (∀ r < 16, s.shows .shtRrState_inFlight r (s.ringInFlight r)) ∧
    (∀ r < 16, s.shows .shtRrState_waiting r (s.ringWaiting r)) ∧
    (∀ p < 16, s.shows .stcPipeState_ksSlots p (s.filledSlots p))

/-- Is a field one of the counts of `StatusShown`? -/
def Fld.counts (f : Fld) : Bool :=
  f == .ringStat_held || f == .vtSessions_open || f == .shtRrState_inFlight || f == .shtRrState_waiting
    || f == .stcPipeState_ksSlots

/-- Nothing is left for the block to do by itself: no unit waits to be classified, no key schedule to be dropped, no
configuration and no descriptor waits, no Hub transaction and no hot reset waits, no update runs, and the status fields tell what the block holds. -/
def State.Quiet (s : State) : Prop :=
  s.fit.latched = [] ∧ (∀ p ∈ s.sht.pipes, p.2.slots = []) ∧ s.mesh.confs = [] ∧ (∀ w ∈ s.rings.work, w.waits = false) ∧
    s.hub.waiting = [] ∧ s.power.hotDue = false ∧ s.thm.rolling = none ∧ s.StatusShown

/-! ## Descriptors that are dispatched -/

/-- The descriptor a descriptor command brings, as the ring engine holds it. -/
def workOf (opcode sq : Nat) (d : Desc) (h : HostView) (fin : InvokeEnd := .running) (flag : Bool := false) : Work :=
  { sq, opcode, d, h, fin, flag, at_ := .landed }

/-- The state with the descriptor among the fetched ones: in the place of the one that landed with these bytes, else last. -/
def State.fetched (s : State) (w : Work) : State :=
  match s.rings.work.find? (fun x => x.sq == w.sq && x.opcode == w.opcode && x.d == w.d && x.at_ == .landed) with
  | some x => { s with rings := { s.rings with work := s.rings.work.replace x w } }
  | none => s.addWork w

/-- The state in which a descriptor that is dispatched at once is performed: fetched, its reads of host memory on the link, its
Needle cleared of what another tenant left. -/
def State.withWork (s : State) (w : Work) : State := ((s.fetched w).operandReads w).serveWork w

/-- A fetched descriptor is dispatched at once: no fence holds it (R73), its group is ready (R22), a STREAM_CMD's block was
read (R103), and nothing else makes it wait (R122, R179). -/
def State.Dispatches (s : State) (w : Work) : Prop :=
  s.isFenced w = false ∧ (w.opcode = 0x0102 → w.block ≠ none) ∧ s.unmet w = 0 ∧ s.mustWait w = false

/-- Steps of the block until its queue is empty, at most `n`. -/
def State.run : Nat → State → Host.Outcome State Fault Refusal
  | 0, s => .next s
  | n + 1, s =>
    match s.pending with
    | [] => .next s
    | _ =>
      match step s with
      | .next t => State.run n t
      | o => o

end Sys2Proof.Machine
end

