-- ==== Sys2Proof/Certificates/Slice0/Obligations.lean ====
section
/-! DEFINITION. The statements about the block, for the provers: what a step is, what each command does in the states in
which the spec gives it its effect, what stays, and rules of the spec about whole tables and records. -/

open Sys2Proof Sys2Proof.Machine

/-! ## The step, reset, whole-machine properties -/

/-- One step takes the command at the front of the queue and runs it on the state with the queue's rest. On an empty queue
only device time advances, by one nanosecond: that clause is the model's choice (log 2), no rule of the spec. -/
def Obligations.StepRunsFront : Prop :=
  (∀ (s : State) (c : Instr) (rest : List Instr),
    step { s with pending := c :: rest } = exec c { s with pending := rest }) ∧
  (∀ s : State, s.pending = [] → step s = .next { s with time := s.time + 1 })

/-- After reset every register field reads its reset value, no command waits, no descriptor is held, the host link is
down, no ring is started, the set-up is not locked, no function is ready, and the memories list nothing but what the
reset contents differ in. The values of pins and of the life cycle that the spec leaves open are the model's (logs 5 and
6). -/
def Obligations.ResetState : Prop :=
  (∀ (f : Fld) (i : Nat), i < 65536 → State.reset.rd f i = Fld.reset State.reset.part i f) ∧
    State.reset.pending = [] ∧ State.reset.rings.work = [] ∧ State.reset.rings.sqs = [] ∧
    State.reset.rings.running = false ∧ State.reset.pcie.linkUp = false ∧ State.reset.pcie.out = [] ∧
    State.reset.locked = false ∧ (∀ b < 64, State.reset.isReady b = false) ∧ State.reset.host = [] ∧
    State.reset.bolt.data = [] ∧ State.reset.ddr.data = [] ∧ State.reset.time = 0

/-- Reset leaves canonical stores and status fields that tell what the block holds. -/
def Obligations.ResetMeetsInvariants : Prop :=
  State.reset.regsWf = true ∧ Memory.wf State.reset = true ∧ State.reset.StatusShown

/-- After any step the status fields that count tell what the block holds: RING_STAT.held, VT_SESSIONS.open,
SHT_RR_STATE's counts, STC_PIPE_STATE.ks_slots; an idle step keeps this. -/
def Obligations.StatusShownInvariant : Prop :=
  ∀ s t : State, s.StatusShown → step s = .next t → t.StatusShown

/-- No command stops the block: every command completes in every state, and from every state every step answers a next
state. -/
def Obligations.EveryStepAnswers : Prop :=
  (∀ (c : Instr) (s : State), ∃ t, exec c s = .next t) ∧ ∀ s : State, ∃ t, step s = .next t

/-- Little-endian numbers (R8): `n` bytes spell their number back, byte 0 the least significant, and a number that fits
is spelt by its own bytes. -/
def Obligations.LittleEndianBytes : Prop :=
  (∀ n v, ofLe (leBytes n v) = v % 2 ^ (8 * n)) ∧ (∀ n v, (leBytes n v).length = n) ∧
    (∀ bs : List Byte, leBytes bs.length (ofLe bs) = bs)

/-! ## Supplies, reset pins, the host link (chapters 02 and 15) -/

/-- The supplies and the reset pins (R377, R380, R476): an assertion starts a cold reset (a warm one for PERST_N with
perst_warm = 1) unless a wider one is in progress; a release ends the reset when nothing else holds it. -/
def Obligations.ResetPins : Prop :=
  (∀ s : State, s.power.inReset ≠ some 1 → exec .powerOnReset s =
    .next ({ s.coldReset with power := { s.coldReset.power with porActive := true } } : State).settle) ∧
  (∀ s : State, s.power.inReset = some 1 → exec .powerOnReset s =
    .next ({ s with power := { s.power with porActive := true } } : State).settle) ∧
  (∀ s : State, s.power.porActive = true → s.power.sysRst = false → exec .powerOnResetRelease s =
    .next ({ s with power := { s.power with porActive := false } } : State).resetEnds.settle) ∧
  (∀ s : State, s.power.porActive = true → s.power.sysRst = true → exec .powerOnResetRelease s =
    .next ({ s with power := { s.power with porActive := false } } : State).settle) ∧
  (∀ (s : State) (below100 : Bool), s.power.inReset ≠ some 1 → exec (.sysRstNAssert below100) s =
    .next ({ s.coldReset with power :=
      { s.coldReset.power with sysRst := true, trip := s.coldReset.power.trip && !below100 } } : State).settle) ∧
  (∀ s : State, s.power.sysRst = true → s.power.porActive = false → exec .sysRstNRelease s =
    .next ({ s with power := { s.power with sysRst := false } } : State).resetEnds.settle) ∧
  (∀ s : State, s.power.perst = false → s.power.porActive = false → s.power.sysRst = false →
    s.flag .rstCtrl_perstWarm = false →
    exec .perstNAssert s = .next ({ s with power := { s.power with perst := true } } : State).coldReset.settle) ∧
  (∀ s : State, s.power.perst = false → s.power.porActive = false → s.power.sysRst = false →
    s.flag .rstCtrl_perstWarm = true →
    exec .perstNAssert s = .next ({ s with power := { s.power with perst := true } } : State).warmReset.settle) ∧
  (∀ s : State, s.power.perst = true → s.power.porActive = false → s.power.sysRst = false → exec .perstNRelease s =
    .next ({ s with power := { s.power with perst := false } } : State).resetEnds.settle)

/-- A hot reset, the loss of the link and the function-level resets (R47, R48, R377), with the link up; what they find
nothing to do in leaves the state as the block settles it. The hot reset begins at once, or waits while a stream wholly
inside the device runs. The link trains (R28, R383) to one of the speeds and widths of R28, in FLIT mode at 64 GT/s, and
configuration space answers. Setting Bus Master Enable (R379) writes the function's controls; with no record, no error
record and no message waiting nothing else changes; PF0's also issues the doorbell reads owed (R47) and, where the ring
engine runs without AtomicOps, begins sequence mode (R30). -/
def Obligations.HostLink : Prop :=
  (∀ s : State, s.heldInReset = false → s.power.hold = false → s.power.trip = false → s.power.hotDue = false →
    let t := (s.resetBy 3).islandsReset
    (s.insideWork = false →
      exec .hotReset s = .next ({ t with power := { t.power with inReset := some 3 } } : State).startIslands.settle ∧
      (s.pcie.linkUp = true →
        exec .dlDown s = .next ({ t with power := { t.power with inReset := some 3 } } : State).startIslands.settle)) ∧
    (s.insideWork = true → exec .hotReset s = .next s.hotWait.settle ∧
      (s.pcie.linkUp = true → exec .dlDown s = .next s.hotWait.settle))) ∧
  (∀ s : State, s.pcie.linkUp = false → exec .dlDown s = .next s.settle) ∧
  (∀ s : State, s.pcie.linkUp = true → exec .flrPf0 s = .next s.flrOfPf0.settle ∧
    exec .d3hotToD0 s = .next s.flrOfPf0.settle) ∧
  (∀ (s : State) (n : Nat), s.pcie.linkUp = true → 1 ≤ n → n ≤ s.numVfs →
    exec (.flrVf n) s = .next (s.flrOfVf n).shuttleRun.settle) ∧
  (∀ s : State, s.pcie.linkUp = false → s.power.perst = false → s.power.hotDue = false →
    s.flag .clkIsland_running 77 = true → s.flag .clkIsland_inReset 77 = false →
    let t := s.negotiate
    exec .linkTrained s = .next
      (({ t with pins := { t.pins with held := none }, power := { t.power with inReset := none } } : State).setReady
        readyCfg true).settle ∧
    t.pcie.linkUp = true ∧ t.pcie.speed ∈ linkSpeeds ∧ t.pcie.width ∈ linkWidths ∧
    (t.pcie.speed = 640 → t.pcie.flit = true)) ∧
  (∀ (s : State) (fn : Nat) (cfg : CfgControls), s.Quiet → s.isReady readyCfg = true → 1 ≤ fn → fn ≤ s.numVfs →
    s.pcie.heldRecs = [] → s.rd .vfPba_word fn = 0 →
    exec (.busMasterEnableSet fn cfg) s = .next (s.setFnCfg fn { bme := true, ctl := cfg })) ∧
  (∀ (s : State) (cfg : CfgControls), s.isReady readyCfg = true → s.pcie.heldRecs = [] → s.err.ring = none →
    s.listed .pba_word = [] →
    let t := s.setFnCfg 0 { bme := true, ctl := cfg }
    exec (.busMasterEnableSet 0 cfg) s = .next t.owedReads.noteAtomic.settle ∧
    (s.rings.owed = [] → t.owedReads = t) ∧
    ((s.rings.running = false ∨ cfg.atomicOp = true) → t.owedReads.noteAtomic = t.owedReads) ∧
    (s.rings.running = true → cfg.atomicOp = false →
      t.owedReads.noteAtomic = t.owedReads.wr .ringCtrl_sequence 0 1))

/-! ## Registers (chapters 00, 02, 03) -/

/-- Register accesses: one R35 does not accept is logged and, when a read, answered by a Completer Abort; one to a gated
block (R357) is counted, and a read is answered with zeros; a write that asks nothing of other chapters is its write. -/
def Obligations.RegisterAccesses : Prop :=
  (∀ (s : State) (a : RegAccess), accessOk a.offset a.size = false → s.reaches a = true →
    exec (.bar0BadAccess a true) s = .next (s.emit .aerCompleterAbort).settle ∧
    exec (.bar0BadAccess a false) s = .next ((s.emit .aerCompleterAbort).emit .completerAbort).settle) ∧
  (∀ (s : State) (a : RegAccess), accessOk a.offset a.size = true → s.reaches a = true → a.fn = 0 →
    s.gatedAt a.offset = true →
    exec (.gatedBlockAccess a true) s = .next (s.count .clkGatedTouch_count).settle ∧
    (a.writer = .bar0 →
      exec (.gatedBlockAccess a false) s = .next ((s.count .clkGatedTouch_count).emit (.regData 0)).settle)) ∧
  (∀ (s : State) (a : RegAccess), s.reaches a = true → (s.regWrite a).2 = [] →
    exec (.registerWrite a) s = .next (s.regWrite a).1.settle) ∧
  (∀ (s : State) (v : W32), s.gatedAt 0xC40008 = false →
    (s.regWrite { fn := 0, writer := .bar0, offset := 0xC40008, size := 4, value := v.toNat }).2 = [.deploy] →
    exec (.lcReqDeploy v) s =
      .next (s.regWrite { fn := 0, writer := .bar0, offset := 0xC40008, size := 4, value := v.toNat }).1.deploy.settle)

/-- Access types (R10, R45): a write of an RWL field while the check runs is dropped and sets write_during_check; behind
its lock it is dropped; a read-only field keeps its value; RW and RWS fields take the value in the bits written; an RW1C
field loses the bits written as 1. -/
def Obligations.AccessTypes : Prop :=
  ∀ (s : State) (a : RegAccess) (h : FldHit) (v : Nat),
    (h.fld.spec.acc = .rwl → s.checking = true → s.hitWrite a h v = s.wr .globalSetupErr_writeDuringCheck 0 1) ∧
    (h.fld.spec.acc = .rwl → s.checking = false → isRequest h.fld = false → s.rwlShut a h.fld h.elem = true →
      s.hitWrite a h v = s) ∧
    (h.fld.spec.acc = .rwl → s.checking = false → isRequest h.fld = false → s.rwlShut a h.fld h.elem = false →
      (s.hitWrite a h v).rd h.fld h.elem
        = withBits (s.rd h.fld h.elem) h.lo h.n v % 2 ^ h.fld.spec.width) ∧
    (h.fld.spec.acc = .ro → h.fld ≠ .boltMode_maint → s.hitWrite a h v = s) ∧
    (h.fld.spec.acc = .rw ∨ h.fld.spec.acc = .rws →
      (s.hitWrite a h v).rd h.fld h.elem
        = withBits (s.rd h.fld h.elem) h.lo h.n v % 2 ^ h.fld.spec.width) ∧
    (h.fld.spec.acc = .rw1c → h.lo = 0 → h.n = h.fld.spec.width → s.rd h.fld h.elem < 2 ^ h.fld.spec.width →
      (s.hitWrite a h v).rd h.fld h.elem = s.rd h.fld h.elem - (s.rd h.fld h.elem &&& v % 2 ^ h.fld.spec.width)) ∧
    (∀ (g : Fld) (j : Nat), g ≠ h.fld → g ≠ .globalSetupErr_writeDuringCheck → (s.hitWrite a h v).rd g j = s.rd g j) ∧
    (s.hitWrite a h v).rings = s.rings ∧ (s.hitWrite a h v).power = s.power ∧ (s.hitWrite a h v).ndl = s.ndl ∧
    (s.hitWrite a h v).host = s.host

/-- Reading a register (R36) leaves the device state as it is; an offset that no register occupies reads zero, and a write
to it is dropped; a gated block reads zeros and the access is counted (R357). -/
def Obligations.ReadsChangeNothing : Prop :=
  (∀ (s : State) (fn off size : Nat), ¬(fn = 0 ∧ s.gatedAt off = true) → (s.regRead fn off size).2 = s) ∧
  (∀ (s : State) (off size : Nat), s.gatedAt off = true →
    (s.regRead 0 off size).1 = 0 ∧ (s.regRead 0 off size).2 = s.count .clkGatedTouch_count) ∧
  (∀ (s : State) (fn off : Nat), accessHits (s.landing fn off).1 fn (s.landing fn off).2 = [] →
    s.regRead32 fn off = 0 ∧ ∀ (a : RegAccess) (v : Nat), a.fn = fn → s.regWrite32 a off v = (s, []))

/-- The set-up lock (R43, R44): a request starts the check while cfg is set, no check runs and the lock is clear,
whatever other functions are ready, and is ignored otherwise, dropped and noted while the check runs (R45); a check that
finds something refuses and names it. A VF's ring set-up lock (R55): the request starts its check; an SQ that names a CQ
the VF does not own refuses it; else it locks, and while the ring engine runs the VF's rings start. -/
def Obligations.SetupLocks : Prop :=
  (∀ s : State, s.Quiet → s.isReady readyCfg = true → s.checking = false → s.locked = false →
    exec .setupLockRequest s = .next (s.wr .globalSetupLock_checkBusy 0 1)) ∧
  (∀ s : State, s.Quiet → s.checking = false → (s.isReady readyCfg = false ∨ s.locked = true) →
    exec .setupLockRequest s = .next s) ∧
  (∀ s : State, s.checking = true →
    exec .setupLockRequest s = .next (s.wr .globalSetupErr_writeDuringCheck 0 1).settle) ∧
  (∀ s : State, s.checking = true →
    let u := s.wr .globalSetupLock_checkBusy 0 0
    u.errRing = false → u.errHost = false → u.boltSetupOk = true → u.errSpare = false → u.errRegions = false →
    exec .lockCheckDone s = .next (u.wr .globalSetupLock_lock 0 1).lockStarts.settle) ∧
  (∀ s : State, s.Quiet → s.checking = true →
    let u := s.wr .globalSetupLock_checkBusy 0 0
    u.errRing = false → u.errHost = true → u.boltSetupOk = true → u.errSpare = false → u.errRegions = false →
    exec .lockCheckDone s =
      .next ((u.wr .globalSetupErr_hostArea 0 1).wr .globalSetupErr_lockRefused 0 1)) ∧
  (∀ (s : State) (fn : Nat), 1 ≤ fn → fn < 256 → s.checking = false → s.flag .ringVfLock_lock fn = false →
    s.flag .ringVfLock_checkBusy fn = false →
    exec (.ringVfLockRequest fn) s = .next (s.wr .ringVfLock_checkBusy fn 1).settle) ∧
  (∀ (s : State) (fn : Nat), 1 ≤ fn → fn < 256 → s.checking = true →
    exec (.ringVfLockRequest fn) s = .next (s.wr .globalSetupErr_writeDuringCheck 0 1).settle) ∧
  (∀ (s : State) (fn : Nat), s.Quiet → s.flag .ringVfLock_checkBusy fn = true →
    let u := s.wr .ringVfLock_checkBusy fn 0
    ((u.vfSqs fn).any u.foreignCq = true → exec (.vfLockCheckDone fn) s = .next (u.wr .ringVfLock_refused fn 1)) ∧
    ((u.vfSqs fn).any u.foreignCq = false → u.rings.running = false →
      exec (.vfLockCheckDone fn) s = .next (u.wr .ringVfLock_lock fn 1)) ∧
    ((u.vfSqs fn).any u.foreignCq = false → u.rings.running = true →
      exec (.vfLockCheckDone fn) s = .next ((u.wr .ringVfLock_lock fn 1).startRings fn)))

/-! ## Rings (chapter 03) -/

/-- Sweeps and the status page (R60, R65, R75, R82, R83): a sweep reads all eight summary lines; the page is written
with the next heartbeat; a failed summary read is reported and the next sweep reads again. -/
def Obligations.SweepsAndStatusPage : Prop :=
  (∀ s : State, s.Quiet → s.rings.running = true → s.canIssue 0 = true →
    let reads := (List.range 8).map (fun l => Out.read 0 (s.rd .ringSumBase_addr * 4096 + 64 * l) 64 false)
    exec .sweepIssue s = .next
      ({ s with pcie := { s.pcie with out := s.pcie.out ++ reads }
                rings := { s.rings with sweepOut := s.rings.sweepOut ++ [s.rings.heartbeat] } } : State)) ∧
  (∀ (s : State) (beat : Nat) (more : List Nat) (words : List W64), s.rings.sweepOut = beat :: more →
    let sum := Store.putAll (fun _ => 0) [] 0 ((words.take 64).map BitVec.toNat)
    let t : State := { s with rings := { s.rings with sweepOut := more, sum, sweepNo := s.rings.sweepNo + 1 } }
    let u := t.each 8 (fun l s => s.passStart beat l)
    exec (.sweepReturn words) s =
      .next (((u.startedSqs.filter (fun n => slotDue (u.rd .ringSqState_class n) s.rings.sweepNo n)).foldl
        State.serviceSlot u).passEnd).settle) ∧
  (∀ s : State, s.Quiet → s.fitterAlive = true → s.rings.running = true → s.canIssue 0 = true →
    let beat := (s.rings.heartbeat + 1) % 2 ^ 32
    let t : State := { s with rings := { s.rings with heartbeat := beat } }
    let base := t.rd .ringStatusBase_addr * 4096
    exec .statusPageWrite s = .next
      ({ t with host := Store.putAll hostDefault t.host (hostKey 0 base) ((t.statusBytes beat).map some)
                pcie := { t.pcie with out := t.pcie.out ++ [.write 0 base 64 false] }
                err := { t.err with overflow := false } } : State)) ∧
  (∀ (s : State) (addr : Nat) (why : ReadFail) (beat : Nat) (more : List Nat), s.rings.sweepOut = beat :: more →
    ¬(why = .timeout ∧ (s.fnCfg 0).ctl.ctoDisable = true) →
    exec (.summaryReadFail addr why) s =
      .next (((({ s with rings := { s.rings with sweepOut := more } } : State).emit (.aerRead why)).report 0x0600 0x07 3 addr
        repRings)).settle)

/-- The status page (R82) is 64 bytes: heartbeat, err_prod, GLOBAL_READY, the eight health bits, profile, reserved zeros,
device time, the eight line passes. -/
def Obligations.StatusPageLayout : Prop :=
  ∀ (s : State) (beat : Nat), (s.statusBytes beat).length = 64 ∧ leAt (s.statusBytes beat) 0 4 = beat % 2 ^ 32 ∧
    leAt (s.statusBytes beat) 4 4 = (match s.err.ring with | some g => g.prod % 2 ^ 32 | none => 0) ∧
    leAt (s.statusBytes beat) 8 8 = s.rd .globalReady_bits % 2 ^ 64 ∧
    (let h := leAt (s.statusBytes beat) 16 4
     h < 256 ∧ bitOf h 0 = !s.fit.retired.isEmpty ∧ bitOf h 1 = (s.rd .fitStatus_thermalStep != 0) ∧
      bitOf h 2 = (s.err.overflow && s.err.ring.isSome) ∧ bitOf h 3 = s.err.ring.isNone ∧
      bitOf h 4 = s.anyRetired 0x0300 0x031F ∧ bitOf h 5 = s.meshDegraded ∧
      bitOf h 6 = (s.anyRetired 0x0000 0x003F || s.anyRetired 0x0100 0x010F) ∧
      bitOf h 7 = s.flag .ringCtrl_sequence) ∧
    leAt (s.statusBytes beat) 20 1 = (s.rd .globalProfile_active + 4 * s.rd .globalProfile_switching) % 256 ∧
    leAt (s.statusBytes beat) 21 3 = 0 ∧ leAt (s.statusBytes beat) 24 8 = s.time % 2 ^ 64 ∧
    (∀ l < 8, leAt (s.statusBytes beat) (32 + 4 * l) 4 = Store.get (fun _ => 0) s.rings.linePass l % 2 ^ 32)

/-- Doorbell reads (R57, R59, R60, R62, R65): a valid tail is fetched; a tail of 2^k or more stops the SQ with one error
record; in sequence mode an unchanged sequence of an SQ not pending is an empty poll; a re-read after a clear marks the
SQ pending when the tail moved from the one the SQ was consumed to. -/
def Obligations.Doorbells : Prop :=
  (∀ (s : State) (n : Nat) (word : W64), (s.sq n).reading ≠ 0 →
    let u := (s.setSq n { s.sq n with reading := (s.sq n).reading - 1 }).wr .ringSqState_lastSeq n (word.toNat / 2 ^ 32)
    (u.seqMode = true → word.toNat / 2 ^ 32 = s.rd .ringSqState_lastSeq n → (s.sq n).pend = false →
      word.toNat % 2 ^ 32 < u.sqSize n →
      exec (.doorbellReadReturn n word) s = .next (u.pollOutcome n false).settle) ∧
    ((u.seqMode = false ∨ word.toNat / 2 ^ 32 ≠ s.rd .ringSqState_lastSeq n ∨ (s.sq n).pend = true) →
    (word.toNat % 2 ^ 32 < u.sqSize n →
      exec (.doorbellReadReturn n word) s = .next (u.fetch n (word.toNat % 2 ^ 32)).settle) ∧
    (u.sqSize n ≤ word.toNat % 2 ^ 32 →
      exec (.doorbellReadReturn n word) s = .next (((u.stopSq n).report (0x1000 + n) 0x08 3
        (word.toNat % 2 ^ 32) repRings)).settle))) ∧
  (∀ (s : State) (n : Nat) (word : W64) (tail : Nat) (more : List Nat), (s.sq n).rereading = tail :: more →
    let q : SqDyn := { s.sq n with rereading := more }
    let moved := word.toNat % 2 ^ 32 ≠ tail
    let u := (s.setSq n (if moved then { q with pend := true, stale := q.reading } else q)).wr .ringSqState_lastSeq n
      (word.toNat / 2 ^ 32)
    (word.toNat % 2 ^ 32 < u.sqSize n → exec (.clearRereadReturn n word) s = .next u.settle) ∧
    (u.sqSize n ≤ word.toNat % 2 ^ 32 → exec (.clearRereadReturn n word) s = .next (((u.stopSq n).report (0x1000 + n)
      0x08 3 (word.toNat % 2 ^ 32) repRings)).settle)) ∧
  (∀ (s : State) (n : Nat) (ds : List (W16 × Desc × HostView)), (s.sq n).fetching ≠ 0 →
    exec (.descriptorLand n ds) s = .next (((ds.foldl (fun s x => s.landOne n x) s).noteConsumed n)).settle) ∧
  (∀ (s : State) (n addr : Nat) (why : ReadFail), (s.sq n).started = true →
    ¬(why = .timeout ∧ (s.fnCfg 0).ctl.ctoDisable = true) →
    exec (.fetchFail n addr why) s =
      .next (((s.stopSq n).emit (.aerRead why)).report (0x1000 + n) 0x07 3 addr repRings).settle)

/-- A stopped SQ (R59, R75): it is not started, waits for nothing, fetches nothing, reads stopped, and no other SQ and
no other register changes; a failed fetch stops it, is logged by AER and reported with class DMA_FAULT. -/
def Obligations.StoppedSq : Prop :=
  (∀ (s : State) (n : Nat),
    ((s.stopSq n).sq n).started = false ∧ ((s.stopSq n).sq n).fetching = 0 ∧ ((s.stopSq n).sq n).pend = false ∧
    ((s.stopSq n).sq n).reading = 0 ∧ ((s.stopSq n).sq n).rereading = [] ∧ (s.stopSq n).rd .ringSqState_stopped n = 1 ∧
    (∀ m, m ≠ n → (s.stopSq n).sq m = s.sq m) ∧
    (∀ f i, f ≠ .ringSqState_stopped → (s.stopSq n).rd f i = s.rd f i) ∧ (s.stopSq n).rings.work = s.rings.work) ∧
  (∀ (s : State) (n addr : Nat) (why : ReadFail), (s.sq n).started = true →
    ¬(why = .timeout ∧ (s.fnCfg 0).ctl.ctoDisable = true) →
    exec (.fetchFail n addr why) s =
      .next (((s.stopSq n).emit (.aerRead why)).report (0x1000 + n) 0x07 3 addr repRings).settle)

/-- A CAS that clears summary bits (R61, R62, R64): success re-reads the doorbells it covered; a mismatch is retried
with the value returned and counted, while a CAS may be issued (R30, R47, R65); a refusal puts the ring engine in
sequence mode with one record. -/
def Obligations.SummaryClears : Prop :=
  ∀ (s : State) (word : Nat) (c : CasOut), s.rings.cas.find? (fun c => c.word == word) = some c →
    let t : State := { s with rings := { s.rings with cas := s.rings.cas.erase c } }
    (∀ v : W64, v.toNat = c.cmp → exec (.casReturn word (.value v)) s = .next ((t.rereads c.sqs).casIssue word).settle) ∧
    (∀ v : W64, v.toNat ≠ c.cmp → s.mayCas = true →
      let swap := c.sqs.foldl (fun x n => withBit x (n % 64) false) v.toNat
      let c' : CasOut := { c with cmp := v.toNat, swap }
      let u := s.count .ringStat_casRetries
      exec (.casReturn word (.value v)) s = .next
        (({ u with rings := { u.rings with cas := s.rings.cas.erase c ++ [c'] } } : State).emit
          (.cas word v.toNat swap)).settle) ∧
    (∀ v : W64, v.toNat ≠ c.cmp → s.mayCas = false →
      exec (.casReturn word (.value v)) s = .next (t.clearEnds c.sqs).settle) ∧
    (exec (.casReturn word .unsupportedRequest) s = .next
      (((t.clearEnds c.sqs).wr .ringCtrl_sequence 0 1).report 0x0600 0x09 1 1 repRings).settle) ∧
    (exec (.casReturn word .completerAbort) s = .next
      (((t.clearEnds c.sqs).wr .ringCtrl_sequence 0 1).report 0x0600 0x09 1 4 repRings).settle)

/-- Interrupts (R34, R80, R84, R86): unmasking clears the mask bit and sends the message that waits, while the bit may
be written (R38, R45); a coalescing timer signals the unsignalled records of its CQ or of the error ring; the consumer
count read is taken and the buffered records follow, and while records wait behind a full ring the count is read again.
A vector signalled (R81): while masked its PBA bit is set and nothing is sent; while unmasked one message is sent and
the PBA stays. -/
def Obligations.Interrupts : Prop :=
  (∀ (s : State) (fn v : Nat), v < vectorsOf fn → (fn = 0 → s.checking = false ∧ s.locked = false) →
    let u := if fn = 0 then s.wr .msix_mask v 0 else s.wr .vfMsix_mask (vfVec fn v) 0
    ((u.pba fn v = false ∨ (s.fnCfg fn).ctl.msixFnMask = true) → exec (.msixUnmask fn v) s = .next u.settle) ∧
    (u.pba fn v = true → (s.fnCfg fn).ctl.msixFnMask = false →
      exec (.msixUnmask fn v) s = .next ((u.setPba fn v false).signal fn v).settle)) ∧
  (∀ (s : State) (v : Nat), v < 2048 → (s.pba 0 v = false ∨ s.vecMasked 0 v = true) →
    (s.checking = true → exec (.msixUnmask 0 v) s = .next (s.wr .globalSetupErr_writeDuringCheck 0 1).settle) ∧
    (s.checking = false → s.locked = true → exec (.msixUnmask 0 v) s = .next s.settle)) ∧
  (∀ (s : State) (fn v : Nat), s.Quiet → 1 ≤ fn → v < 64 →
    let u := s.wr .vfMsix_mask (vfVec fn v) 0
    u.pba fn v = true → (s.fnCfg fn).ctl.msixFnMask = false → (s.fnCfg fn).ctl.msixEnable = true → s.canIssue fn = true →
    exec (.msixUnmask fn v) s = .next ((u.setPba fn v false).emit
      (.msix fn (s.rd .vfMsix_addr (vfVec fn v)) (s.rd .vfMsix_data (vfVec fn v))))) ∧
  (∀ (s : State) (c : Nat), c < 4096 → s.flag .ringCqCfg_irqEnable c = true → 0 < (s.cq c).unsig →
    exec (.cqCoalTimer c) s =
      .next ((s.setCq c { s.cq c with unsig := 0 }).signal (s.tenantOf c) (s.rd .ringCqCfg_vector c)).settle) ∧
  (∀ (s : State) (g : ErrRing), s.err.ring = some g → 0 < g.unsig →
    exec (.cqCoalTimer 4096) s =
      .next ((s.setErr { s.err with ring := some { g with unsig := 0 } }).signal 0 g.vector).settle) ∧
  (∀ (s : State) (g : ErrRing) (count : W32), s.err.ring = some g → s.err.readOut = true →
    exec (.errConsumerReadReturn count) s = .next (State.errDrain 66
      (s.setErr { s.err with readOut := false, ring := some { g with seen := count.toNat } })).errPoll.settle) ∧
  (∀ (s : State) (g : ErrRing), s.err.ring = some g → g.full = true → s.canIssue 0 = true → s.err.readOut = false →
    (s.err.buffer ≠ [] → s.errPoll = (s.setErr { s.err with readOut := true }).emit (.read 0 g.consumer 4 false)) ∧
    (s.err.buffer = [] → s.err.dropped = 0 → s.errPoll = s)) ∧
  (∀ (s : State) (fn v : Nat), v < vectorsOf fn → (s.fnCfg fn).ctl.msixEnable = true →
    (s.vecMasked fn v = true → s.signal fn v = s.setPba fn v true ∧ (s.signal fn v).pcie = s.pcie ∧
      (fn = 0 → (s.signal fn v).pba fn v = true)) ∧
    (s.vecMasked fn v = false → s.canIssue fn = true →
      (s.signal fn v).regs = s.regs ∧
      ∃ a d, (s.signal fn v).pcie = { s.pcie with out := s.pcie.out ++ [.msix fn a d] }))

/-- Completion records of a CQ (R78): the record goes to the slot at the tail with the lap's phase bit, the tail goes to
the next slot modulo 2^k, the phase inverts exactly at the wrap to slot 0; a CQ that starts has phase 1, and tails read
0 at reset. -/
def Obligations.RecordsInOrder : Prop :=
  (∀ (s : State) (r : Record), s.canIssue r.fn = true →
    let c := s.rd .ringSqCfg_cq r.sq
    let t := s.rd .ringCqState_tail c
    let k := s.rd .ringCqCfg_sizeLog2 c
    k ≤ 16 → s.rd .ringCqState_phase c < 2 →
    (s.putRecord r).host = Store.putAll hostDefault s.host (hostKey r.fn (s.rd .ringCqBase_addr c * 4096 + 16 * t))
      ((recordBytes r.result r.cid (s.rd .ringSqState_head r.sq) r.sq r.status (s.flag .ringCqState_phase c)).map some) ∧
    (s.putRecord r).rd .ringCqState_tail c = (t + 1) % 2 ^ k ∧
    ((t + 1) % 2 ^ k ≠ 0 → (s.putRecord r).rd .ringCqState_phase c = s.rd .ringCqState_phase c) ∧
    ((t + 1) % 2 ^ k = 0 → (s.putRecord r).rd .ringCqState_phase c = 1 - s.rd .ringCqState_phase c)) ∧
  (∀ (s : State) (fn c : Nat), c ∈ s.listed .ringCqCfg_enable → s.visible fn c = true → s.cqStarts c = true →
    (s.startRings fn).rd .ringCqState_phase c = 1) ∧
  (∀ c < 4096, State.reset.rd .ringCqState_tail c = 0)

/-- What a completion leaves alone (R76-R81): the descriptor leaves the store, one record's 16 bytes are written, and
nothing else changes but the CQ's tail and phase, its interrupt count, the PBA or one message, or the list of records
that wait for Bus Master Enable. -/
def Obligations.CompletionFrame : Prop :=
  ∀ (s : State) (w : Work) (status result : Nat),
    let t := s.complete w status result
    t.rings.work = s.rings.work.erase w ∧ t.rings.sqs = s.rings.sqs ∧ t.rings.cas = s.rings.cas ∧
    (∀ f i, f ≠ .ringCqState_tail → f ≠ .ringCqState_phase → f ≠ .pba_word → f ≠ .vfPba_word → t.rd f i = s.rd f i) ∧
    (∀ k, (∀ j < 16, k ≠ hostKey (s.tenantOf w.sq)
        (s.rd .ringCqBase_addr (s.rd .ringSqCfg_cq w.sq) * 4096 + 16 * s.rd .ringCqState_tail (s.rd .ringSqCfg_cq w.sq)) + j) →
      Store.get hostDefault t.host k = Store.get hostDefault s.host k) ∧
    t.power = s.power ∧ t.pins = s.pins ∧ t.err = s.err ∧ t.fit = s.fit ∧ t.vault = s.vault ∧ t.mesh = s.mesh ∧
    t.bolt = s.bolt ∧ t.ddr = s.ddr ∧ t.hub = s.hub ∧ t.tack = s.tack ∧ t.sht = s.sht ∧ t.thm = s.thm ∧ t.ndl = s.ndl ∧
    t.time = s.time ∧ t.freeCtr = s.freeCtr ∧ t.pending = s.pending

/-- Error records (R85, R440): 32 bytes at the slot err_prod mod 2^k of a ring whose base is aligned, an address that is
a multiple of 32; bit 7 of byte 31 is 1 on even laps; err_prod advances by one, modulo 2^32. -/
def Obligations.ErrorRecords : Prop :=
  (∀ (r : ErrRec) (p : Bool), (errBytes r p).length = 32 ∧
    (errBytes r p)[31]? = some (if p then 0x80 else 0) ∧ leAt (errBytes r p) 0 2 = r.origin % 2 ^ 16 ∧
    leAt (errBytes r p) 2 1 = r.cls % 2 ^ 8 ∧ leAt (errBytes r p) 3 1 = r.severity % 2 ^ 8 ∧
    leAt (errBytes r p) 4 2 = min r.reporters 65535 ∧
    leAt (errBytes r p) 6 2 = (match r.slot with | some j => (j + 0x8000) % 2 ^ 16 | none => 0) ∧
    leAt (errBytes r p) 8 8 = r.t0 % 2 ^ 64 ∧ leAt (errBytes r p) 16 8 = r.detail % 2 ^ 64 ∧
    leAt (errBytes r p) 24 4 = r.seq % 2 ^ 32 ∧ leAt (errBytes r p) 28 2 = r.spanUs % 2 ^ 16 ∧
    leAt (errBytes r p) 30 1 = 0) ∧
  (∀ (s : State) (g : ErrRing) (r : ErrRec), s.canIssue 0 = true → g.base % 4096 = 0 →
    (s.errPut g r).host = Store.putAll hostDefault s.host (hostKey 0 (g.base + 32 * (g.prod % 2 ^ g.k)))
      ((errBytes r (g.prod / 2 ^ g.k % 2 == 0)).map some) ∧
    (g.base + 32 * (g.prod % 2 ^ g.k)) % 32 = 0 ∧
    ∃ g', (s.errPut g r).err.ring = some g' ∧ g'.prod = (g.prod + 1) % 2 ^ 32 ∧ g'.base = g.base ∧ g'.k = g.k)

/-- Readiness and time limits (R31, R41, R74, R148, R433): a bit sets when its function's condition holds; a descriptor still
held at its limit completes NOT_READY with the bits that are clear; a read that times out completes DMA_FAULT; a
hand-off with no answer ends; an AER error is an event of its unit. -/
def Obligations.ReadinessAndLimits : Prop :=
  (∀ (s : State) (b : Nat), s.Quiet → s.isReady b = false → s.readyCond b = true → ¬(readyTier 0 ≤ b ∧ b ≤ readyTier 2) →
    b ≠ readyBoltVault → exec (.readyBitSet b) s = .next (s.setReady b true)) ∧
  (∀ (s : State) (sq : Nat) (cid : W16) (w : Work), s.rings.work.find? (fun w => w.is sq cid && w.isHeld) = some w →
    exec (.holdLimitExpiry sq cid) s = .next (s.complete w stNotReady (s.unmet w)).settle) ∧
  (∀ (s : State) (sq : Nat) (cid : W16) (w : Work), (s.fnCfg 0).ctl.ctoDisable = false →
    s.rings.work.find? (fun w => w.is sq cid && (w.at_ == .landed || w.at_ == .running)) = some w → w.at_ = .landed →
    exec (.completionTimeout sq cid) s =
      .next (((s.emit (.aerRead .timeout)).spoilTargets w).complete w stDmaFault (resultOf 0xFF 1 0)).settle) ∧
  (∀ (s : State) (peer seq i sq cid : Nat), s.handingOff peer seq = some (i, sq, cid) →
    exec (.migrateTimeout peer seq) s =
      .next ((s.handedOff i).finish sq cid stMeshUnavailable (resultOf 0xFF 3 peer)).settle) ∧
  (∀ s : State, exec (.aerError false) s = .next (s.bucketEvent 0x500 1).settle ∧
    exec (.aerError true) s = .next (s.bucketEvent 0x500 16).settle)

/-! ## Service descriptors (chapter 04): `w` is the descriptor the command brings, `u` the state in which it is fetched -/

/-- SIGN and VERIFY (R112): the signature over the input, or its digest when prehashed, goes to the output buffer and
its length is the result; a verification completes OK or VERIFY_FALSE. MAC and MAC_VERIFY (R112): HMAC over the message
goes to the output buffer; a verification compares the leading aux_len bytes. -/
def Obligations.SignaturesAndMacs : Prop :=
  (∀ (s : State) (sq : Nat) (d : Desc) (h : HostView) (k : KeyMat) (msg ctx : List Byte),
    let w := workOf 0x0201 sq d h
    let u := s.withWork w
    let n := sigLen w.alg k.keyType
    let v := (u.touchKey h w.pkKind w.key).draws 64
    u.Dispatches w → u.pkKey w false true [uSign] = .ok k → n ≤ w.cap → viewRead h w.inA w.inN = some msg →
    viewRead h w.auxA w.auxN = some ctx →
    exec (.sign sq d h) s = .next ((v.2.hostOut w w.outA (bytesOf (signWith w k (natsOf msg) (natsOf ctx) v.1))
      w.pkBufs).complete w stOk n).settle) ∧
  (∀ (s : State) (sq : Nat) (d : Desc) (h : HostView) (k : KeyMat) (msg sig : List Byte),
    let w := workOf 0x0202 sq d h
    let u := s.withWork w
    let v := u.touchKey h w.pkKind w.key
    u.Dispatches w → u.pkKey w false false [uVerify] = .ok k → viewRead h w.inA w.inN = some msg →
    viewRead h w.auxA w.auxN = some sig →
    let good := verifyWith w k.keyType (publicOf k.keyType k.material) (natsOf msg) (natsOf sig)
    exec (.verify sq d h) s = .next (v.complete w (if good then stOk else stVerifyFalse) 0).settle) ∧
  (∀ (s : State) (sq : Nat) (d : Desc) (h : HostView) (k : KeyMat) (msg : List Byte),
    let w := workOf 0x0304 sq d h
    let u := s.withWork w
    let n := Hash.outLen (macHash w.alg)
    u.Dispatches w → w.alg ≠ 0x2D → u.pkKey w false true [uMac] = .ok k → viewRead h w.inA w.inN = some msg →
    exec (.mac sq d h) s = .next (((u.touchKey h w.pkKind w.key).hostOut w w.outA
      (bytesOf (Hash.hmac (macHash w.alg) k.material (natsOf msg))) w.pkBufs).complete w stOk n).settle) ∧
  (∀ (s : State) (sq : Nat) (d : Desc) (h : HostView) (k : KeyMat) (msg tag : List Byte),
    let w := workOf 0x0305 sq d h
    let u := s.withWork w
    let good := (Hash.hmac (macHash w.alg) k.material (natsOf msg)).take w.auxN == natsOf tag
    u.Dispatches w → u.pkKey w false true [uMac] = .ok k → viewRead h w.inA w.inN = some msg →
    viewRead h w.auxA w.auxN = some tag →
    exec (.macVerify sq d h) s =
      .next ((u.touchKey h w.pkKind w.key).complete w (if good then stOk else stVerifyFalse) 0).settle)

/-- ECDH, KEM_ENCAPS and KEM_DECAPS (R95, R112, R113): the shared secret becomes a new GENERIC_SECRET entry, usage derive
only, in the key's shard; the ciphertext of an encapsulation goes to the output buffer; an invalid peer key is
VERIFY_FALSE. -/
def Obligations.KeyAgreement : Prop :=
  (∀ (s : State) (sq : Nat) (d : Desc) (h : HostView) (k : KeyMat) (peer : List Byte),
    let w := workOf 0x0203 sq d h
    let u := s.withWork w
    let v := u.touchKey h w.pkKind w.key
    let c := curveOf k.keyType
    u.Dispatches w → u.pkKey w true true [uAgree] = .ok k → viewRead h w.inA w.inN = some peer →
    (∀ x, Pk.ecdh c (valBe (k.material.take c.len)) (natsOf peer) = some x →
      exec (.ecdh sq d h) s = .next (v.newSecret w k.shard x).settle) ∧
    (Pk.ecdh c (valBe (k.material.take c.len)) (natsOf peer) = none →
      exec (.ecdh sq d h) s = .next (v.complete w stVerifyFalse 0).settle)) ∧
  (∀ (s : State) (sq : Nat) (d : Desc) (h : HostView) (k : KeyMat),
    let w := workOf 0x0206 sq d h
    let u := s.withWork w
    let v := u.touchKey h w.pkKind w.key
    let ek := publicOf k.keyType k.material
    let r := v.freshBytes 32
    let e := Lattice.kemEncaps (kemOf k.keyType) ek (natsOf r.1)
    u.Dispatches w → u.pkKey w true false [uAgree] = .ok k → Lattice.kemKeyOk (kemOf k.keyType) ek = true →
    v.secretFits k.shard 32 = true →
    exec (.kemEncaps sq d h) s = .next ((r.2.hostOut w w.outA (bytesOf e.2) w.pkBufs).newSecret w k.shard e.1).settle) ∧
  (∀ (s : State) (sq : Nat) (d : Desc) (h : HostView) (k : KeyMat) (ct : List Byte),
    let w := workOf 0x0207 sq d h
    let u := s.withWork w
    let v := u.touchKey h w.pkKind w.key
    u.Dispatches w → u.pkKey w true true [uAgree] = .ok k → viewRead h w.inA w.inN = some ct →
    exec (.kemDecaps sq d h) s =
      .next (v.newSecret w k.shard (Lattice.kemDecaps (kemOf k.keyType) k.material (natsOf ct))).settle)

/-- RSA_ENCRYPT, RSA_DECRYPT and PUBKEY_EXPORT (R95, R112, R113): OAEP ciphertext, plaintext, or the public form goes to
the output buffer with its length as the result; a ciphertext that does not decrypt is VERIFY_FALSE; a plaintext asked
for as an entry becomes one. -/
def Obligations.RsaAndExport : Prop :=
  (∀ (s : State) (sq : Nat) (d : Desc) (h : HostView) (k : KeyMat) (msg label : List Byte),
    let w := workOf 0x0204 sq d h
    let u := s.withWork w
    let n := rsaLen k.keyType
    let a := paramHash w.params
    let r := (u.touchKey h w.pkKind w.key).freshBytes (Hash.outLen a)
    u.Dispatches w → u.pkKey w false false [uEncrypt] = .ok k → w.inN + 2 * Hash.outLen a + 2 ≤ n → n ≤ w.cap →
    viewRead h w.inA w.inN = some msg → viewRead h w.auxA w.auxN = some label →
    let ct := Pk.oaepEncrypt a (Pk.rsaPubOf n (publicOf k.keyType k.material)) (natsOf label) (natsOf msg) (natsOf r.1)
    exec (.rsaEncrypt sq d h) s =
      .next ((r.2.hostOut w w.outA (bytesOf ct) w.pkBufs).complete w stOk n).settle) ∧
  (∀ (s : State) (sq : Nat) (d : Desc) (h : HostView) (k : KeyMat) (ct label : List Byte),
    let w := workOf 0x0205 sq d h
    let u := s.withWork w
    let n := rsaLen k.keyType
    let v := u.touchKey h w.pkKind w.key
    let plain := Pk.oaepDecrypt (paramHash w.params) (Pk.rsaPrivOf n k.material) (natsOf label) (natsOf ct)
    u.Dispatches w → u.pkKey w w.toEntry true [uDecrypt] = .ok k → viewRead h w.inA w.inN = some ct →
    viewRead h w.auxA w.auxN = some label → ct.length = n →
    (∀ p, plain = some p → w.toEntry = false → p.length ≤ w.cap → exec (.rsaDecrypt sq d h) s =
      .next ((v.hostOut w w.outA (bytesOf p) w.pkBufs).complete w stOk p.length).settle) ∧
    (∀ p, plain = some p → w.toEntry = true → 16 ≤ p.length → p.length ≤ 64 →
      exec (.rsaDecrypt sq d h) s = .next (v.newSecret w k.shard p).settle) ∧
    (plain = none → exec (.rsaDecrypt sq d h) s = .next (v.complete w stVerifyFalse 0).settle)) ∧
  (∀ (s : State) (sq : Nat) (d : Desc) (h : HostView) (k : KeyMat),
    let w := workOf 0x0208 sq d h
    let u := s.withWork w
    let pub := publicOf k.keyType k.material
    u.Dispatches w → badOffset w.pkChecks = none → u.keyOperand h (u.tenantOf sq) w.pkKind w.key 8 0 = .ok k →
    checkTypeUse k 8 (fun kt => decide (0x10 ≤ kt % 0x8000)) [] = .ok () → pub.length ≤ w.cap →
    exec (.pubkeyExport sq d h) s =
      .next (((u.touchKey h w.pkKind w.key).hostOut w w.outA (bytesOf pub) w.pkBufs).complete w stOk pub.length).settle)

/-- PASSWORD_VERIFY, PASSWORD_HASH and PASSWORD_DERIVE (R114, R115): with hash memory found (R117), the tag of password,
salt and secret is compared, written to the tag buffer, or becomes a new entry. -/
def Obligations.Passwords : Prop :=
  (∀ (s : State) (sq : Nat) (d : Desc) (h : HostView) (k : Bs × Nat) (pwd salt tag : List Byte) (v : State),
    let w := workOf 0x0301 sq d h
    let u := s.withWork w
    let good := w.pwTag (natsOf pwd) (natsOf salt) k.1 == natsOf tag
    u.Dispatches w → u.pwKey w = .ok k → u.hashMemory w = .ok v → viewRead h w.pwdA w.pwdN = some pwd →
    viewRead h w.saltA w.saltN = some salt →
    viewRead h w.tagA w.tagN = some tag →
    exec (.passwordVerify sq d h) s =
      .next ((v.touchKey h w.pepKind w.pepper).complete w (if good then stOk else stVerifyFalse) 0).settle) ∧
  (∀ (s : State) (sq : Nat) (d : Desc) (h : HostView) (k : Bs × Nat) (pwd salt : List Byte) (v : State),
    let w := workOf 0x0302 sq d h
    let u := s.withWork w
    u.Dispatches w → u.pwKey w = .ok k → u.hashMemory w = .ok v → viewRead h w.pwdA w.pwdN = some pwd →
    viewRead h w.saltA w.saltN = some salt →
    exec (.passwordHash sq d h) s = .next (((v.touchKey h w.pepKind w.pepper).hostOut w w.tagA
      (bytesOf (w.pwTag (natsOf pwd) (natsOf salt) k.1))
      ([(w.pwdA, w.pwdN), (w.saltA, w.saltN)] ++ keyBuf h w.pepKind w.pepper 0)).complete w stOk w.tagN).settle) ∧
  (∀ (s : State) (sq : Nat) (d : Desc) (h : HostView) (k : Bs × Nat) (pwd salt : List Byte) (v : State),
    let w := workOf 0x0303 sq d h
    let u := s.withWork w
    u.Dispatches w → u.pwKey w = .ok k → u.hashMemory w = .ok v → viewRead h w.pwdA w.pwdN = some pwd →
    viewRead h w.saltA w.saltN = some salt →
    exec (.passwordDerive sq d h) s = .next ((v.touchKey h w.pepKind w.pepper).newSecret w k.2
      (w.pwTag (natsOf pwd) (natsOf salt) k.1)).settle)

/-- CREATE, IMPORT, DERIVE and ROTATE (R119, R138, R139): a new entry with the type, usage, expiry and material the
descriptor asks for, or new material, salt and generation of the entry named. -/
def Obligations.NewEntries : Prop :=
  (∀ (s : State) (sq : Nat) (d : Desc) (h : HostView),
    let w := workOf 0x0401 sq d h
    let u := s.withWork w
    let r := u.drawKey w.keyType
    u.Dispatches w → u.vtChecks w = .ok () →
    exec (.create sq d h) s = .next (r.2.newEntry w
      { shard := w.vtShard, keyType := w.keyType, usage := w.usage, expiry := w.expiry, material := r.1 }).settle) ∧
  (∀ (s : State) (sq : Nat) (d : Desc) (h : HostView) (k : KeyMat),
    let w := workOf 0x0402 sq d h
    let u := s.withWork w
    let own := k.usage.getD 0
    let use := if w.usage = 0 then own else w.usage
    let v := if isPublicOnly k.keyType then u else u.touchKey h 2 w.bufA
    u.Dispatches w → u.vtChecks w = .ok () → u.importKey w = .ok k → (use &&& own) = use → usageFits k.keyType use = true →
    exec (.importKey sq d h) s = .next (v.newEntry w
      { shard := w.vtShard, keyType := k.keyType, usage := use, expiry := w.expiry, material := k.material }).settle) ∧
  (∀ (s : State) (sq : Nat) (d : Desc) (h : HostView) (k : KeyMat) (info : List Byte),
    let w := workOf 0x0404 sq d h
    let u := s.withWork w
    u.Dispatches w → u.vtChecks w = .ok () → u.keyOperand h (u.tenantOf sq) w.hKind w.vtHandle 8 0 = .ok k →
    checkTypeUse k 8 (fun _ => true) [uDerive] = .ok () →
    (bitOf w.usage uExport = true → bitOf (k.usage.getD 0) uExport = true) → viewRead h w.bufA w.bufN = some info →
    exec (.derive sq d h) s = .next ((u.touchKey h w.hKind w.vtHandle).newEntry w
      { shard := w.vtShard, keyType := w.keyType, usage := w.usage, expiry := childExpiry w.expiry k.expiry,
        material := Hash.hkdf .sha512 k.material (toLe 2 w.keyType ++ toLe 2 w.usage) (natsOf info)
          (createLen w.keyType) }).settle) ∧
  (∀ (s : State) (sq : Nat) (d : Desc) (h : HostView) (i : Nat) (e : Entry),
    let w := workOf 0x0405 sq d h
    let u := s.withWork w
    let r := u.drawKey e.keyType
    let salt := r.2.fresh 32
    u.Dispatches w → u.vtChecks w = .ok () → u.checkHandle (u.tenantOf sq) w.vtHandle 8 = .ok (i, e) →
    isPublicOnly e.keyType = false →
    exec (.rotate sq d h) s = .next ((salt.2.adopt i e).tableWrite w
      { index := i, live := true, generation := nextGen e.generation, tenant := e.tenant, keyType := e.keyType,
        usage := e.usage, nonceSalt := salt.1, created := e.created, expiry := e.expiry, material := bytesOf r.1 }
      e.shard (handleOf i { e with generation := nextGen e.generation })).settle)

/-- EXPORT_WRAPPED, DESTROY and QUERY (R93, R134, R139-R141): the blob or the attribute record goes to the buffer; the
entry destroyed is freed under the next generation. -/
def Obligations.EntriesRead : Prop :=
  (∀ (s : State) (sq : Nat) (d : Desc) (h : HostView) (k e : KeyMat),
    let w := workOf 0x0403 sq d h
    let u := s.withWork w
    let blob := blobOf k w.kek e.material
    u.Dispatches w → u.vtChecks w = .ok () → u.keyOperand h (u.tenantOf sq) 0 w.vtHandle 8 0 = .ok k →
    checkTypeUse k 8 (fun t => !isPublicOnly t) [uExport] = .ok () →
    u.keyOperand h (u.tenantOf sq) 0 w.kek 16 0 = .ok e → checkTypeUse e 16 (fun t => t == 6) [uWrap] = .ok () →
    blob.length ≤ w.bufN →
    exec (.exportWrapped sq d h) s = .next ((((u.touchKey h 0 w.vtHandle).touchKey h 0 w.kek).hostOut w w.bufA
      (bytesOf blob) []).complete w stOk blob.length).settle) ∧
  (∀ (s : State) (sq : Nat) (d : Desc) (h : HostView) (i : Nat),
    let w := workOf 0x0406 sq d h
    let u := s.withWork w
    let e := u.entryClear i
    u.Dispatches w → u.vtChecks w = .ok () → u.handleIndex (u.tenantOf sq) w.vtHandle 8 = .ok i →
    u.entryFenced i (u.entry i) = none → handleCurrent e w.vtHandle = true →
    exec (.destroy sq d h) s = .next ((u.adopt i e).tableWrite w
      { index := i, live := false, generation := (e.generation + 1) % 65536, tenant := 0, keyType := 0, usage := 0,
        nonceSalt := 0, created := 0, expiry := 0, material := [] } e.shard 0).settle) ∧
  (∀ (s : State) (sq : Nat) (d : Desc) (h : HostView) (i : Nat) (e : Entry),
    let w := workOf 0x0407 sq d h
    let u := s.withWork w
    let tenant := u.tenantOf sq
    u.Dispatches w → u.vtChecks w = .ok () → u.handleIndex tenant w.vtHandle 8 = .ok i →
    u.entryFenced i (u.entry i) = none → u.entryRead i = some e →
    (w.vtHandle / 2 ^ 24 % 2 ^ 16 = 0 ∨ handleCurrent e w.vtHandle = true) →
    exec (.query sq d h) s = .next ((u.hostOut w w.bufA (bytesOf (u.attrRecord tenant i
      (if e.live && e.tenant == tenant then some e else none))) []).complete w stOk 64).settle)

/-- Generations (R134): an allocation issues the stored generation, or for a stored 0 one drawn from 1 to 65,535; DESTROY
frees the entry with the next generation, 0 after 65,535; ROTATE issues the next one, 1 after 65,535. The shard is this
device's own, its table key is held, no channel is fenced, and the new material has room. -/
def Obligations.Generations : Prop :=
  (∀ (s : State) (i : Nat),
    ((s.entry i).generation ≠ 0 → s.drawGen i = ((s.entry i).generation, s)) ∧
    ((s.entry i).generation = 0 → 1 ≤ (s.drawGen i).1 ∧ (s.drawGen i).1 ≤ 65535)) ∧
  (∀ (s : State) (w : Work) (n : NewEntry) (i : Nat), s.alone n.shard = true → s.vault.keyHeld = true →
    (∀ l, s.fencedUnit (l * 128) 128 = none) →
    (s.extAlloc (extBlocksFor n.keyType n.material.length)).isSome = true → s.allocIndex n.shard = some i →
    ((s.newEntry w n).entry i).live = true ∧ ((s.newEntry w n).entry i).generation = (s.drawGen i).1) ∧
  (∀ (s : State) (sq : Nat) (d : Desc) (h : HostView) (i : Nat),
    let w := workOf 0x0406 sq d h
    let u := s.withWork w
    let e := u.entryClear i
    u.Dispatches w → u.vtChecks w = .ok () → u.handleIndex (u.tenantOf sq) w.vtHandle 8 = .ok i →
    handleCurrent e w.vtHandle = true → u.alone e.shard = true → u.vault.keyHeld = true →
    (∀ l, u.fencedUnit (l * 128) 128 = none) → e.generation ≤ 65535 →
    ∃ t : State, exec (.destroy sq d h) s = .next t.settle ∧ (t.entry i).live = false ∧
      (t.entry i).generation = if e.generation = 65535 then 0 else e.generation + 1) ∧
  (∀ (s : State) (sq : Nat) (d : Desc) (h : HostView) (i : Nat) (e : Entry),
    let w := workOf 0x0405 sq d h
    let u := s.withWork w
    let r := u.drawKey e.keyType
    u.Dispatches w → u.vtChecks w = .ok () → u.checkHandle (u.tenantOf sq) w.vtHandle 8 = .ok (i, e) →
    isPublicOnly e.keyType = false → u.alone e.shard = true → u.vault.keyHeld = true →
    (∀ l, u.fencedUnit (l * 128) 128 = none) →
    ((r.2.putEntry i { e with extCount := 0 }).extAlloc (extBlocksFor e.keyType r.1.length)).isSome = true →
    e.generation ≤ 65535 →
    ∃ t : State, exec (.rotate sq d h) s = .next t.settle ∧ (t.entry i).live = true ∧
      (t.entry i).generation = if e.generation = 65535 then 1 else e.generation + 1)

/-- REWRAP_START, REWRAP_STATUS, BACKUP_SEAL and BACKUP_RESTORE (R119, R149, R153, R154): the next table key and the sweep;
its state; the signed image; the verified image's records. -/
def Obligations.TableKeysAndBackup : Prop :=
  (∀ (s : State) (sq : Nat) (d : Desc) (h : HostView),
    let w := workOf 0x0408 sq d h
    let u := s.withWork w
    let r := u.freshBytes 32
    let v := r.2.vault
    let old := (v.keyId, v.key)
    let t := r.2.setVault { v with keyId := (v.keyId + 1) % 2 ^ 32, key := r.1, prev := some old, sealedPrev := some old,
                                   sweeping := true, fromZero := false }
    let t := ((t.sealRecord 1 t.vault.keyId t.vault.key).checkpoint 0).showSweep 0
    u.Dispatches w → u.vtChecks w = .ok () →
    exec (.rewrapStart sq d h) s = .next (t.complete w stOk (b2n t.epochNow)).settle) ∧
  (∀ (s : State) (sq : Nat) (d : Desc) (h : HostView),
    let w := workOf 0x0409 sq d h
    let u := s.withWork w
    u.Dispatches w → u.vtChecks w = .ok () →
    exec (.rewrapStatus sq d h) s = .next (u.complete w stOk
      (u.rd .vtStatus_sweepNext % 2 ^ 25 + 2 ^ 25 * b2n u.vault.sweeping + 2 ^ 26 * b2n u.epochNow)).settle) ∧
  (∀ (s : State) (sq : Nat) (d : Desc) (h : HostView),
    let w := workOf 0x040A sq d h
    let u := s.withWork w
    let body := u.imageBody
    let r := u.fresh 521
    let sig := Pk.ecdsaSign Pk.p521 u.identityKey (Hash.sha512 body) (r.1 % (Pk.p521.n - 1) + 1)
    u.Dispatches w → u.vtChecks w = .ok () → body.length + 132 ≤ w.bufN →
    u.liveEntries.findSome? (fun e => u.entryFenced e.1 e.2) = none →
    u.liveEntries.find? (fun e => u.entryBad e.1) = none →
    exec (.backupSeal sq d h) s = .next ((r.2.hostOut w w.bufA (bytesOf (body ++ sig)) []).complete w stOk
      (body.length + 132)).settle) ∧
  (∀ (s : State) (sq : Nat) (d : Desc) (h : HostView) (bs : List Byte) (key : Bs) (t : State) (n : Nat),
    let w := workOf 0x040B sq d h
    let u := s.withWork w
    let img := natsOf bs
    let body := img.take (img.length - 132)
    u.Dispatches w → u.vtChecks w = .ok () → 196 ≤ w.bufN → viewRead h w.bufA w.bufN = some bs →
    Pk.ecdsaVerify Pk.p521 (Pk.ecPublic Pk.p521 u.identityKey) (Hash.sha512 body) (img.drop (img.length - 132)) = true →
    valLe (img.take 2) = 1 → valLe ((img.drop 8).take 8) = u.thm.serial →
    u.imageKey (valLe ((img.drop 24).take 4)) = some key →
    let rs := imageRecords key (valLe ((img.drop 4).take 4)) (body.drop 64)
    u.restoreAll rs 0 = .ok (t, n) → rs.all (fun r => u.alone r.2.shard) = true →
    exec (.backupRestore sq d h) s = .next (t.complete w stOk n).settle)

/-- OPEN, UPDATE, FINAL, CLOSE and MIGRATE (R121, R146-R148): a context opens on a free slot; data is en- or decrypted
where the last chunk ended; FINAL writes or checks the tag and frees the context; CLOSE frees it; MIGRATE hands it to a
live member, frees it at once where the member is lost (R426), and leaves it unchanged where the peer is no member (R128);
one to a peer with a hand-off open waits for that one, which is the model's choice (log 37). -/
def Obligations.Sessions : Prop :=
  (∀ (s : State) (sq : Nat) (d : Desc) (h : HostView) (k : KeyMat) (nonce : List Byte) (i : Nat),
    let w := workOf 0x0501 sq d h
    let u := s.withWork w
    let tenant := u.tenantOf sq
    let chacha := w.seAlg == 0x31
    let v := u.touchKey h w.seKind w.ref
    let x : Sess :=
      { isOpen := true, gen := (v.sess i).gen, tenant, chacha, opening := w.unseals, dataPhase := false, ended := false,
        nonce, key := bytesOf k.material, aad := [], text := [], source := k.source, migrating := none }
    u.Dispatches w → badOffset w.seChecks = none → u.sessionsOf tenant < (u.quota tenant).sessions →
    u.keyOperand h tenant w.seKind w.ref 8 0 = .ok k →
    checkTypeUse k 8 (fun t => if chacha then t == 5 else t == 1 || t == 2) [uSession] = .ok () →
    checkTypeUse k 8 (fun _ => true) [if w.unseals then uDecrypt else uEncrypt] = .ok () →
    viewRead h w.seAux 12 = some nonce → v.slotFree k.source = true → v.freeCtx = some i →
    exec (.openSession sq d h) s = .next ((v.putSess i x).complete w stOk (sessRef i x)).settle) ∧
  (∀ (s : State) (sq : Nat) (d : Desc) (h : HostView) (i : Nat) (bs : List Byte),
    let w := workOf 0x0502 sq d h
    let u := s.withWork w
    let x := u.sess i
    let out := bytesOf (x.crypt (natsOf bs))
    u.Dispatches w → u.seRef w = .ok i → x.ended = false → viewRead h w.seIn w.seLen = some bs →
    (w.isAad = true → x.dataPhase = false → exec (.update sq d h) s = .next
      ((u.putSess i { x with aad := x.aad ++ bs, ended := !(w.seLen % 64 == 0) }).complete w stOk 0).settle) ∧
    (w.isAad = false → x.text.length + w.seLen ≤ x.most →
      let y : Sess := { x with dataPhase := true, ended := !(w.seLen % 64 == 0),
                               text := x.text ++ (if x.opening then bs else out) }
      exec (.update sq d h) s = .next
        (((u.putSess i y).hostOut w w.seOut out [(w.seIn, w.seLen)]).complete w stOk w.seLen).settle)) ∧
  (∀ (s : State) (sq : Nat) (d : Desc) (h : HostView) (i : Nat),
    let w := workOf 0x0503 sq d h
    let u := s.withWork w
    let x := u.sess i
    let t := u.freeSess i
    u.Dispatches w → u.seRef w = .ok i →
    (x.opening = false →
      exec (.final sq d h) s = .next ((t.hostOut w w.seAux (bytesOf x.tag) []).complete w stOk 16).settle) ∧
    (∀ tag, x.opening = true → viewRead h w.seAux 16 = some tag → exec (.final sq d h) s =
      .next (t.complete w (if natsOf tag == x.tag then stOk else stVerifyFalse) 0).settle)) ∧
  (∀ (s : State) (sq : Nat) (d : Desc) (h : HostView) (i : Nat),
    let w := workOf 0x0504 sq d h
    let u := s.withWork w
    u.Dispatches w → u.seRef w = .ok i →
    exec (.close sq d h) s = .next ((u.freeSess i).complete w stOk 0).settle) ∧
  (∀ (s : State) (sq : Nat) (d : Desc) (h : HostView) (i : Nat),
    let w := workOf 0x0505 sq d h
    let u := s.withWork w
    let p := w.toPeer
    u.Dispatches w → u.seRef w = .ok i → u.joined = true →
    ((p = u.myId ∨ (u.peer p).member = false) →
      exec (.migrate sq d h) s = .next (u.complete w stMeshUnavailable (resultOf 0xFF 3 p)).settle) ∧
    (p ≠ u.myId → (u.peer p).member = true → (u.peer p).lost = true → exec (.migrate sq d h) s =
      .next ((u.freeSess i).complete w stMeshUnavailable (resultOf 0xFF 3 p)).settle) ∧
    (p ≠ u.myId → (u.peer p).member = true → (u.peer p).lost = false → (u.openHandoff p).isSome = true →
      exec (.migrate sq d h) s = .next (u.moveWork w .fenced).settle) ∧
    (p ≠ u.myId → (u.peer p).member = true → (u.peer p).lost = false → u.openHandoff p = none →
      let v := u.moveWork w .running
      let x : Sess := { u.sess i with migrating := some (sq, d.cid.toNat, p, (v.peer p).txSeq + 1) }
      exec (.migrate sq d h) s = .next ((v.putSess i x).sendTo p 0 0 (.handoff (u.sess i).image)).settle))

/-- LOAD, INVOKE and UNLOAD (R123, R464, R465): a signed image takes a slot and its place in the program store; an
invocation at its own end writes its output and completes OK, one that runs takes an idle Needle; an unloaded slot's
generation advances, 255 to 1. -/
def Obligations.Programs : Prop :=
  (∀ (s : State) (sq : Nat) (d : Desc) (h : HostView) (hd img : List Byte) (i place : Nat) (k : KeyMat),
    let w := workOf 0x0601 sq d h
    let u := s.withWork w
    let tenant := u.tenantOf sq
    let n := w.f 24 4
    let kind := w.f 28 1
    let v := u.touchKey h kind (w.f 16 8)
    u.Dispatches w → badOffset (w.header ++ [(24, decide (256 ≤ n ∧ n ≤ 540672)), (28, kind == 0 || kind == 2),
      (29, w.f 29 35 == 0)]) = none →
    dmaRead h (w.f 8 8) 256 = .ok hd → progHeaderOk hd n = true →
    (u.thm.progs.filter (fun p => p.2.live && p.2.tenant == tenant)).length < (u.quota tenant).programs →
    u.freeSlot n = some (i, place) → u.keyOperand h tenant kind (w.f 16 8) 16 0 = .ok k →
    checkTypeUse k 16 isEc [uSigner] = .ok () → (leAt hd 6 2 = tenant ∨ leAt hd 6 2 = 0xFFFF) →
    viewRead h (w.f 8 8) n = some img →
    (progSigned k (natsOf img) = true →
      let p : Prog :=
        { live := true, gen := (v.prog i).gen, tenant, entries := progEntries hd, code := sub img 256 (progCode hd),
          rodata := sub img (256 + progCode hd) (progRo hd), data := img.drop (256 + progCode hd + progRo hd), place }
      v.fencedUnit (v.progAt p) n = none → exec (.load sq d h) s =
        .next (((v.cacheWrite repThimble (v.progAt p) img).2.setProg i p).complete w stOk (i + 256 * p.gen)).settle) ∧
    (progSigned k (natsOf img) = false → exec (.load sq d h) s = .next (v.complete w stVerifyFalse 0).settle)) ∧
  (∀ (s : State) (sq : Nat) (d : Desc) (h : HostView) (ret : W32) (out inp img : List Byte) (p e : Nat),
    let w := workOf 0x0602 sq d h (.ok ret out)
    let u := s.withWork w
    let v := (u.touchKey h (w.f 11 1 % 4) (w.f 40 8)).touchKey h (w.f 11 1 / 4 % 4) (w.f 48 8)
    let got := out.take (w.f 36 4)
    u.Dispatches w → u.invokeChecks w = .ok (p, e) → u.progRead (u.prog p) = .ok img →
    viewRead h (w.f 16 8) (w.f 32 4) = some inp →
    exec (.invoke sq d h (.ok ret out)) s = .next ((v.hostOut w (w.f 24 8) got ((w.f 16 8, w.f 32 4)
      :: keyBuf h (w.f 11 1 % 4) (w.f 40 8) 0 ++ keyBuf h (w.f 11 1 / 4 % 4) (w.f 48 8) 0)).complete w stOk
        (got.length + 2 ^ 32 * ret.toNat)).settle) ∧
  (∀ (s : State) (sq : Nat) (d : Desc) (h : HostView) (inp img : List Byte) (p e n : Nat),
    let w := workOf 0x0602 sq d h
    let u := s.withWork w
    let v := (u.touchKey h (w.f 11 1 % 4) (w.f 40 8)).touchKey h (w.f 11 1 / 4 % 4) (w.f 48 8)
    u.Dispatches w → u.invokeChecks w = .ok (p, e) → u.idleNeedle = some n → u.progRead (u.prog p) = .ok img →
    viewRead h (w.f 16 8) (w.f 32 4) = some inp →
    exec (.invoke sq d h .running) s = .next ((v.moveWork w .running).startProg n (u.prog p) img e
      { sq, cid := d.cid.toNat, tenant := u.tenantOf sq, bufs := [(w.f 16 8, w.f 32 4), (w.f 24 8, w.f 36 4)],
        out := (w.f 24 8, w.f 36 4), flt := none }).settle) ∧
  (∀ (s : State) (sq : Nat) (d : Desc) (h : HostView) (i : Nat),
    let w := workOf 0x0603 sq d h
    let u := s.withWork w
    let g := (u.prog i).gen
    u.Dispatches w → badOffset (w.header ++ [(10, w.f 10 54 == 0)]) = none → u.progRef w = .ok i →
    exec (.unload sq d h) s =
      .next ((u.setProg i { progDefault i with gen := if g ≥ 255 then 1 else g + 1 }).complete w stOk 0).settle)

/-- JOIN, LEAVE, SHARD_CONFIG, MEMBER_QUERY and TAKEOVER (R126, R417-R419, R423), and the frames with which members
answer one another: a valid frame that is the next in its sequence acts by its class (R413, R414, R420-R424). -/
def Obligations.MeshAdmin : Prop :=
  (∀ (s : State) (sq : Nat) (d : Desc) (h : HostView) (bs : List Byte),
    let w := workOf 0x0701 sq d h
    let u := s.withWork w
    let n := w.a 2
    let ids := idList bs n
    let v := (u.moveWork w .running).wr .svMeshState_deviceId 0 (w.a 0)
    let j : Joining :=
      { peers := ids.eraseDups, answered := [], members := [], firstAt := none, work := (sq, d.cid.toNat) }
    u.Dispatches w → u.admChecks w [(24, decide (1 ≤ n ∧ n ≤ 1023)), (0xFF, !u.joined)] = .ok () →
    u.mesh.joining = none → viewRead h (w.a 1) (2 * n) = some bs → (∀ i ∈ ids, i < 1024) →
    exec (.join sq d h) s = .next (j.peers.foldl (fun s p =>
      (s.setPeer p { s.peer p with joining := true }).sendJoin p (.membership (.join j.peers s.shardDigest)))
        (v.setMesh { v.mesh with joining := some j })).settle) ∧
  (∀ (s : State) (sq : Nat) (d : Desc) (h : HostView),
    let w := workOf 0x0702 sq d h
    let u := s.withWork w
    u.Dispatches w → u.admChecks w [] = .ok () → (bitOf (w.a 0) 0 = false ∨ u.pendsAsPrimary = false) →
    exec (.leave sq d h) s = .next (u.endMeshWork.leaveMesh.complete w stOk 0).settle) ∧
  (∀ (s : State) (sq : Nat) (d : Desc) (h : HostView) (bs : List Byte),
    let w := workOf 0x0703 sq d h
    let u := s.withWork w
    let sh := w.a 0
    let n := w.ab 1 0 4
    let k := w.ab 1 8 4
    let ids := idList bs n
    let c : ShardConf :=
      { shard := sh, replicas := ids, k, epoch := u.rd .svShard_epoch sh, primary := u.rd .svShard_primary sh }
    let t := (u.moveWork w .running).takeConfig u.myId c
    let v := (ids.filter (fun p => p != t.myId)).foldl (fun s p => s.sendTo p sh c.epoch (.membership (.config c))) t
    u.Dispatches w → u.admChecks w [(16, decide (1 ≤ n ∧ n ≤ 8 ∧ 1 ≤ k ∧ k ≤ n))] = .ok () →
    viewRead h (w.a 2) (2 * n) = some bs → (∀ i ∈ ids, i < 1024) → ids.eraseDups.length = n →
    ids.find? (fun p => p != u.myId && !(u.peer p).member) = none → (u.shard sh).claiming.bind (·.work) = none →
    (ids.find? v.liveMember = some v.myId →
      exec (.shardConfig sq d h) s = .next (v.startClaim sh (c.epoch + 1) (some (sq, d.cid.toNat))).settle) ∧
    (ids.find? v.liveMember ≠ some v.myId → exec (.shardConfig sq d h) s =
      .next (v.setMesh { v.mesh with confs := v.mesh.confs ++ [(sh, c.epoch, sq, d.cid.toNat)] }).settle)) ∧
  (∀ (s : State) (sq : Nat) (d : Desc) (h : HostView),
    let w := workOf 0x0704 sq d h
    let u := s.withWork w
    let ids := ((List.range 1024).filter (fun p => p == u.myId || (u.peer p).member || (u.peer p).joining)).take 1024
    u.Dispatches w → u.admChecks w [] = .ok () →
    exec (.memberQuery sq d h) s = .next ((u.hostOut w (w.a 0)
      (bytesOf ((ids.map u.memberRec).flatten)) []).complete w stOk ids.length).settle) ∧
  (∀ (s : State) (sq : Nat) (d : Desc) (h : HostView),
    let w := workOf 0x0705 sq d h
    let u := s.withWork w
    let sh := w.a 0
    let e := u.rd .svShard_epoch sh
    u.Dispatches w → u.admChecks w [(8, (u.replicasOf sh).contains u.myId)] = .ok () →
    (u.rd .svShard_role sh = 1 → exec (.takeover sq d h) s = .next (u.complete w stOk e).settle) ∧
    (u.rd .svShard_role sh ≠ 1 → u.shardReloading sh = false → (u.shard sh).claiming = none →
      exec (.takeover sq d h) s =
        .next ((u.moveWork w .running).startClaim sh (e + 1) (some (sq, d.cid.toNat))).settle)) ∧
  (∀ (s : State) (f : FrameHdr) (b : MeshBody), s.frameOk f b = true →
    let t := (s.hear f b).takeAck f.src f.ack
    (∀ time ports, b = .keepalive time ports → exec (.keepalive f time ports) s = .next t.settle) ∧
    (b = .ack → exec (.ack f) s = .next t.settle)) ∧
  (∀ (s : State) (f : FrameHdr) (b : MeshBody),
    let r := s.renew f b
    let t := (r.hear f b).takeAck f.src f.ack
    let u := t.setPeer f.src { t.peer f.src with rxSeq := f.seq, ackOwed := true }
    r.frameOk f b = true → f.seq = (t.peer f.src).rxSeq + 1 →
    (∀ x, b = .membership x → exec (.membership f x) s = .next (u.onMembership f x).settle) ∧
    (∀ x, b = .shardWrite x → exec (.shardWrite f x) s = .next (u.onShardWrite f x).settle) ∧
    (∀ x e, b = .shardReply x e → exec (.shardReply f x e) s = .next (u.onShardReply f x e).settle) ∧
    (∀ w, b = .forward w → exec (.forward f w) s = .next (u.onForward f w).settle) ∧
    (∀ c, b = .claim c → exec (.claim f c) s = .next (u.onClaim f c).settle) ∧
    (∀ x v, b = .claimReply x v → exec (.claimReply f x v) s = .next (u.onClaimReply f x v).settle) ∧
    (∀ x, b = .reload x → exec (.reload f x) s = .next (u.onReload f x).settle) ∧
    (∀ m, b = .handoff m → exec (.handoff f m) s = .next (u.onHandoff f m).settle) ∧
    (∀ r : W64, b = .handoffReply r.toNat →
      exec (.handoffReply f r) s = .next (u.onHandoffReply f r.toNat).settle))

/-- NOP returns device time; ERROR_RING_SETUP moves the error ring and writes what waits, as does a consumer count read
(R86); PROFILE_CHANGE joins the queue of changes (R84, R127, R450). RETIRE, RESTORE and SELF_TEST of a unit (R127, R187,
R435, R439): a restored pipeline shows how its test ended and raises its event; the self-test of one begins, and its
descriptor completes when it ends. -/
def Obligations.Maintenance : Prop :=
  (∀ (s : State) (sq : Nat) (d : Desc) (h : HostView),
    let w := workOf 0x0F00 sq d h
    let u := s.withWork w
    u.Dispatches w → badOffset w.admFields = none →
    exec (.nop sq d h) s = .next (u.complete w stOk s.time).settle) ∧
  (∀ (s : State) (sq : Nat) (d : Desc) (h : HostView),
    let w := workOf 0x0F01 sq d h
    let u := s.withWork w
    let k := w.ab 1 0 5
    let g : ErrRing :=
      { base := w.a 0, k, vector := w.ab 1 16 11, countM1 := w.ab 2 0 8, timerUs := w.ab 2 8 10, consumer := w.a 3,
        prod := 0, seen := 0, unsig := 0 }
    u.Dispatches w →
    u.admChecks w [(8, w.a 0 % 4096 == 0), (16, decide (5 ≤ k ∧ k ≤ 16)), (32, w.a 3 % 4 == 0)] = .ok () →
    exec (.errorRingSetup sq d h) s = .next ((State.errDrain 66
      (u.setErr { u.err with ring := some g, readOut := false })).errPoll.complete w stOk 0).settle) ∧
  (∀ (s : State) (sq : Nat) (d : Desc) (h : HostView),
    let w := workOf 0x0F02 sq d h
    let u := s.withWork w
    let v := u.moveWork w .running
    let t := v.setFit { v.fit with profQueue := v.fit.profQueue ++ [(sq, d.cid.toNat, w.a 0)] }
    u.Dispatches w → u.admChecks w [] = .ok () →
    exec (.profileChange sq d h) s =
      .next (if t.flag .globalProfile_switching then t else State.profNext t.fit.profQueue.length t).settle) ∧
  (∀ (s : State) (sq : Nat) (d : Desc) (h : HostView),
    let w := workOf 0x0F03 sq d h
    let u := s.withWork w
    u.Dispatches w → u.unitChecks w = .ok () →
    exec (.retire sq d h) s = .next ((u.retireUnit (w.a 0) 3).complete w stOk 0).settle) ∧
  (∀ (s : State) (sq : Nat) (d : Desc) (h : HostView) (passed : Bool),
    let w := workOf 0x0F04 sq d h .running passed
    let u := s.withWork w
    let x := w.a 0
    let v := if 0x100 ≤ x ∧ x < 0x110 then
      (u.wr .stcPipeState_lastTestFailed (x - 0x100) (b2n (!passed))).raiseTack (146 + (x - 0x100)) 0 else u
    u.Dispatches w → u.unitChecks w = .ok () →
    ((passed = true ∨ 0x300 ≤ x ∧ x < 0x320) → u.isRetired x = true →
      exec (.restore sq d h passed) s = .next ((v.retireClear x).complete w stOk 0).settle) ∧
    ((passed = true ∨ 0x300 ≤ x ∧ x < 0x320) → u.isRetired x = false →
      exec (.restore sq d h passed) s = .next (v.complete w stOk 0).settle) ∧
    (passed = false → ¬(0x300 ≤ x ∧ x < 0x320) → exec (.restore sq d h passed) s =
      .next (v.complete w stResourceRetired (resultOf 0xFF (retiredDetail x) x)).settle)) ∧
  (∀ (s : State) (sq : Nat) (d : Desc) (h : HostView) (failed : Bool),
    let w := workOf 0x0F05 sq d h .running failed
    let u := s.withWork w
    let x := w.a 0
    let p := x - 0x100
    let v := if u.flag .stcPipeState_selfTest p then u else u.startTest p 0
    u.Dispatches w → u.unitChecks w = .ok () →
    (¬(0x100 ≤ x ∧ x < 0x110) → exec (.selfTest sq d h failed) s =
      .next ((if failed then u.latch x 2 else u).complete w stOk (b2n failed)).settle) ∧
    (0x100 ≤ x → x < 0x110 → exec (.selfTest sq d h failed) s = .next ((v.setPipe p
      { v.pipe p with testFor := (v.pipe p).testFor ++ [(sq, d.cid.toNat)] }).moveWork w .running).settle)) ∧
  (∀ (s : State) (g : ErrRing) (count : W32), s.err.ring = some g → s.err.readOut = true →
    exec (.errConsumerReadReturn count) s = .next (State.errDrain 66
      (s.setErr { s.err with readOut := false, ring := some { g with seen := count.toNat } })).errPoll.settle)

/-- RING_RESTART, RING_CLASS, VECTOR_RETARGET and TENANT_LIMITS (R38, R59, R68, R127, R447). A vector that is unmasked
sends what waits, and a coalescing timer signals the records not yet signalled (R34, R80). -/
def Obligations.RingsVectorsTenants : Prop :=
  (∀ (s : State) (sq : Nat) (d : Desc) (h : HostView),
    let w := workOf 0x0F06 sq d h
    let u := s.withWork w
    let n := w.ab 0 0 12
    u.Dispatches w → (u.tenantOf sq = 0 ∨ u.ringOwner n = some (u.tenantOf sq)) → badOffset (w.admFields ++
      [(8, u.flag .ringSqState_stopped n && u.sqStarts n),
       (16, decide (w.ab 1 0 16 < 2 ^ u.rd .ringSqCfg_sizeLog2 n))]) = none →
    exec (.ringRestart sq d h) s = .next ((((u.setSq n { sqDefault n with started := true, pend := true }).wr
      .ringSqState_stopped n 0).wr .ringSqState_head n (w.ab 1 0 16)).complete w stOk 0).settle) ∧
  (∀ (s : State) (sq : Nat) (d : Desc) (h : HostView),
    let w := workOf 0x0F07 sq d h
    let u := s.withWork w
    let n := w.ab 0 0 12
    let v := u.wr .ringSqCfg_classPin n (w.ab 1 0 2)
    u.Dispatches w → u.admChecks w [] = .ok () →
    (∀ c, pinClass (w.ab 1 0 2) = some c →
      exec (.ringClass sq d h) s = .next ((v.wr .ringSqState_class n c).complete w stOk 0).settle) ∧
    (pinClass (w.ab 1 0 2) = none → exec (.ringClass sq d h) s = .next (v.complete w stOk 0).settle)) ∧
  (∀ (s : State) (sq : Nat) (d : Desc) (h : HostView),
    let w := workOf 0x0F08 sq d h
    let u := s.withWork w
    let n := w.ab 0 0 11
    let v := ((u.wr .msix_addr n (w.a 1)).wr .msix_data n (w.ab 2 0 32)).wr .msix_mask n (w.ab 2 32 1)
    u.Dispatches w → u.admChecks w [] = .ok () → (v.pba 0 n = false ∨ v.vecMasked 0 n = true) →
    exec (.vectorRetarget sq d h) s = .next (v.complete w stOk 0).settle) ∧
  (∀ (s : State) (sq : Nat) (d : Desc) (h : HostView),
    let w := workOf 0x0F09 sq d h
    let u := s.withWork w
    let f := w.ab 0 0 8
    let lo := max 1 (w.ab 1 16 16)
    let q : Quota := { entries := w.ab 2 0 25, sessions := w.ab 3 0 17, programs := w.ab 3 24 8 }
    let v := (((u.wr .fitTenant_weight f (w.ab 1 0 16)).wr .fitTenant_minimum f (w.ab 1 16 16)).wr .fitTenant_maximum f
      (w.ab 1 32 16)).wr .fitTenant_effective f (w.ab 1 0 16)
    u.Dispatches w → u.admChecks w [(16, decide (lo ≤ w.ab 1 0 16 ∧ w.ab 1 0 16 ≤ w.ab 1 32 16))] = .ok () →
    exec (.tenantLimits sq d h) s =
      .next ((v.setFit { v.fit with quotas := Store.put quotaDefault v.fit.quotas f q }).complete w stOk 0).settle) ∧
  (∀ (s : State) (fn v : Nat), v < vectorsOf fn → (fn = 0 → s.checking = false ∧ s.locked = false) →
    exec (.msixUnmask fn v) s = .next
      ((if fn = 0 then s.wr .msix_mask v 0 else s.wr .vfMsix_mask (vfVec fn v) 0).sendUnmasked fn v).settle) ∧
  (∀ (s : State) (c : Nat), c < 4096 → s.flag .ringCqCfg_irqEnable c = true → 0 < (s.cq c).unsig →
    exec (.cqCoalTimer c) s =
      .next ((s.setCq c { s.cq c with unsig := 0 }).signal (s.tenantOf c) (s.rd .ringCqCfg_vector c)).settle)

/-- STREAM and STREAM_CMD (R103, R104, R106, R145, R179): a descriptor that passes its checks is a stream in its ring's
admission, its key used, as an entry or by its blob's KEK; its record comes at retirement. -/
def Obligations.StreamDescriptors : Prop :=
  (∀ (s : State) (sq : Nat) (d : Desc) (h : HostView) (v x : Strm),
    let w := workOf 0x0101 sq d h
    let u := s.withWork w
    u.Dispatches w → u.inlineVecs w = .ok v → u.inlineStrm w v = .ok x →
    u.checkFences x.src x.dst0 x.dst1 x.length x.sideBytes = .ok () →
    (x.ks = none → exec (.stream sq d h) s = .next ((u.moveWork w .running).enqueueStrm x).settle) ∧
    (x.ks ≠ none → exec (.stream sq d h) s = .next
      (((u.touchKey h (w.f 59 1 / 16 % 4) (w.f 32 8)).moveWork w .running).enqueueStrm x).settle)) ∧
  (∀ (s : State) (sq : Nat) (d : Desc) (h : HostView) (v x : Strm),
    let w := workOf 0x0102 sq d h
    let u := s.withWork w
    let key := hdrCipher (w.block.getD [])
    u.Dispatches w → u.cmdVecs w = .ok v → u.cmdStrm w v = .ok x →
    u.checkFences x.src x.dst0 x.dst1 x.length x.sideBytes = .ok () →
    (x.ks = none → exec (.streamCmd sq d h) s = .next ((u.moveWork w .running).enqueueStrm x).settle) ∧
    (x.ks ≠ none → exec (.streamCmd sq d h) s = .next
      (((u.touchKey h key.1 key.2).moveWork w .running).enqueueStrm x).settle))

/-- A descriptor with a nonzero reserved header field (R12, R71, R98, R100) completes BAD_DESCRIPTOR with the offset of
the lowest such field and no other effect, for operations of every group that checks no privilege first. -/
def Obligations.ReservedFieldsRefused : Prop :=
  ∀ (s : State) (sq : Nat) (d : Desc) (h : HostView) (o : Nat),
    (∀ op, (workOf op sq d h).header = (workOf 0 sq d h).header) ∧
    (badOffset (workOf 0x0F00 sq d h).header = some o →
      let refused := fun (w : Work) => ((s.withWork w).complete w stBadDescriptor (resultOf o 0 0)).settle
      o < 8 ∧
      ((s.withWork (workOf 0x0F00 sq d h)).Dispatches (workOf 0x0F00 sq d h) →
        exec (.nop sq d h) s = .next (refused (workOf 0x0F00 sq d h))) ∧
      ((s.withWork (workOf 0x0201 sq d h)).Dispatches (workOf 0x0201 sq d h) →
        exec (.sign sq d h) s = .next (refused (workOf 0x0201 sq d h))) ∧
      ((s.withWork (workOf 0x0302 sq d h)).Dispatches (workOf 0x0302 sq d h) →
        exec (.passwordHash sq d h) s = .next (refused (workOf 0x0302 sq d h))) ∧
      ((s.withWork (workOf 0x0401 sq d h)).Dispatches (workOf 0x0401 sq d h) →
        exec (.create sq d h) s = .next (refused (workOf 0x0401 sq d h))) ∧
      ((s.withWork (workOf 0x0504 sq d h)).Dispatches (workOf 0x0504 sq d h) →
        exec (.close sq d h) s = .next (refused (workOf 0x0504 sq d h))) ∧
      ((s.withWork (workOf 0x0603 sq d h)).Dispatches (workOf 0x0603 sq d h) →
        exec (.unload sq d h) s = .next (refused (workOf 0x0603 sq d h))))

/-! ## Streams and pipelines (chapter 06) -/

/-- The life of a stream (R172, R176, R179, R180, R183, R184): it is admitted, its chunks land and run on pipelines,
their outputs drain, it retires in its ring's order, and a hot reset that waited for the last work inside the device
begins (R48, R377). Host bytes of a descriptor's stream are its output; a byte that another descriptor in flight beside it
wrote is a free value (R102). -/
def Obligations.StreamLife : Prop :=
  (∀ (s : State) (r n : Nat) (h : HostView), exec (.streamAdmit (.ring r)) s = .next (s.admitRing r).settle ∧
    exec (.streamAdmit (.needle n h)) s = .next (s.admitPost n h).settle) ∧
  (∀ (s : State) (id : Nat) (x : Strm) (j : Job), s.strm id = some x → s.bolt.writeBack = false →
    x.jobs.find? (fun j => j.at_ == .reading) = some j →
    let nRec := x.recsOf j
    let recAt := j.unit * recLen x.chain
    let nHost := (if x.src.space = 0 then j.len else 0) + (if x.dst1.space = 0 then nRec else 0)
    s.vecFenced x.src j.off j.len = none → s.vecFenced x.dst1 recAt nRec = none →
    s.banksWait (s.vecBanks x.src j.off j.len ++ s.vecBanks x.dst1 recAt nRec ++ s.areaBanks j.inBuf j.len nRec) = false →
    s.areaFenced j.inBuf j.len nRec = false →
    (∀ bs : List Byte, bs.length = nHost →
      let r := s.landBytes x j bs
      let t := (r.2.2.areaPut (r.2.2.bufAt j.inBuf) r.2.1.1).areaPut (r.2.2.sideAt j.inBuf) r.2.1.2
      (r.1 = .ok → exec (.chunkSourceLand id (some bs) .none) s =
        .next (t.mapJob id j.no (fun j => { j with at_ := .ready })).shuttleRun.settle) ∧
      (r.1 ≠ .ok → exec (.chunkSourceLand id (some bs) .none) s =
        .next (r.2.2.endStrm id stDmaFault (resultOf 0xFF 1 0)).shuttleRun.settle) ∧
      (x.src.space = 0 → nRec = 0 → x.early = [] → s.landBytes x j bs = (.ok, (bs, []), s))) ∧
    (nHost ≠ 0 → exec (.chunkSourceLand id none .none) s =
      .next (s.readLost.endStrm id stDmaFault (resultOf 0xFF 1 0)).shuttleRun.settle)) ∧
  (∀ (s : State) (p : Nat) (x : Strm) (j : Job) (k : KsTag),
    (s.pipeJobs p).find? (fun e => e.2.at_ == .onPipe p true) = some (x, j) → x.ks = some k →
    (s.pipe p).slots.contains k = false → (s.pipe p).slots.length < 16 →
    exec (.keyScheduleBuilt p) s = .next (((s.setPipe p { s.pipe p with slots := (s.pipe p).slots ++ [k] }).pipeJobs p).foldl
      (fun s e => if e.2.at_ = .onPipe p true ∧ e.1.ks = some k then
          s.mapJob e.1.id e.2.no (fun j => { j with at_ := .onPipe p false }) else s)
      (s.setPipe p { s.pipe p with slots := (s.pipe p).slots ++ [k] })).settle) ∧
  (∀ (s : State) (p : Nat) (x : Strm) (j : Job),
    (s.pipeJobs p).find? (fun e => e.2.at_ == .onPipe p false) = some (x, j) →
    let q := s.pipe p
    let t := s.setPipe p { q with jobs := q.jobs.filter (fun e => e != (x.id, j.no)) }
    let v := (s.countSat .stcPipeState_jobFaults p).bucketEvent (0x100 + p) 1
    s.banksWait (s.jobBanks x j) = false → s.areaFenced j.inBuf j.len (x.recsOf j) = false →
    s.areaFenced j.outBuf j.len (j.units * recLen x.chain) = false →
    s.areaBad (s.bufAt j.inBuf) j.len = [] → s.areaBad (s.sideAt j.inBuf) (x.recsOf j) = [] →
    exec (.jobFinish p false) s = .next ((t.count .stcPipeState_jobs p).jobDone x j).shuttleRun.settle ∧
    (j.reran = false →
      exec (.jobFinish p true) s = .next ((v.requeue x j p true).count .shtStat_rerun).shuttleRun.settle) ∧
    (j.reran = true → exec (.jobFinish p true) s = .next ((((v.latch (0x100 + p) 1).report (0x100 + p) 0x03 3 1
      (repStitch p)).endStrm x.id stRetryExhausted (resultOf 0xFF 1 (0x100 + p))).shuttleRun).settle)) ∧
  (∀ (s : State) (id : Nat) (x : Strm) (j : Job), s.strm id = some x → s.bolt.writeBack = false →
    x.jobs.find? (fun j => j.at_ == .draining) = some j → x.dst0.space = 0 → recLen x.chain = 0 → j.side = [] →
    s.banksWait (s.areaBanks j.outBuf j.outLen 0) = false → s.areaFenced j.outBuf j.outLen 0 = false →
    s.areaBad (s.bufAt j.outBuf) j.outLen = [] → s.areaBad (s.sideAt j.outBuf) 0 = [] →
    let out := (s.drainBytes j).1
    let m := s.drainTo x x.dst0 x.length j.outOff out
    m.1 = .ok →
    exec (.outputDrainDone id .ok) s = .next ((((m.2.setSht { m.2.sht with free := m.2.sht.free + 1 }).mapStrm id
      (fun x => { x with jobs := x.jobs.filter (fun i => i.no != j.no) })).noteDone id).shuttleRun).settle ∧
    (x.muddled x.dst0 x.length = false → s.rings.wrote = [] →
      m.2.host = (s.vecWrite x.fn x.dst0 j.outOff out).2.host)) ∧
  (∀ (s : State) (fn a : Nat) (key : Nat × Nat) (b : Byte),
    (s.isShared fn key a = false → (s.sharedWrite fn key a [b]).host = (s.hostWrite fn a [b]).host) ∧
    (s.isShared fn key a = true →
      (s.sharedWrite fn key a [b]).host = (s.hostWrite fn a (s.freshBytes 1).1).host)) ∧
  (∀ (s : State) (r st res : Nat) (x : Strm), s.sht.flight.find? (fun x => x.ring == r) = some x → x.ended = some (st, res) →
    let t := s.retireStrm x st res
    let u := (t.resetBy 3).islandsReset
    exec (.streamRetire r) s = .next t.settle ∧
    (t.power.hotDue = true → t.insideWork = false →
      t.settle = ({ u with power := { u.power with inReset := some 3 } } : State).startIslands.settle))

/-- Self-tests, drains and aborts (R17, R186-R188): a test takes the pipeline out of service and its end brings
it back or makes it permanent; FRUGAL's quads are gated once they are idle; what a seam aborts, while its
receiver is held in island reset, runs again or ends, and nothing is aborted otherwise. -/
def Obligations.PipelineTests : Prop :=
  (∀ s : State, s.rd .stcSelftest_intervalMs ≠ 0 →
    let p := s.sht.testTurn % 16
    let t := s.setSht { s.sht with testTurn := (p + 1) % 16 }
    (t.testable p = true → exec .selftestInterval s = .next (t.startTest p 0).settle) ∧
    (t.testable p = false → exec .selftestInterval s = .next t.settle)) ∧
  (∀ (s : State) (p : Nat) (failed : Bool), p < 16 → s.flag .stcPipeState_selfTest p = true →
    exec (.selfTestEnd p failed) s = .next (s.testEnds p failed).settle) ∧
  (∀ s : State, s.sht.draining = true → (∀ i < 8, (s.pipe (8 + i)).jobs = []) →
    let t := (s.gateQuad 2).gateQuad 3
    exec .stitchQuadDrained s = .next (t.setSht { t.sht with draining := false }).settle) ∧
  (∀ (s : State) (q id m : Nat), (q < 4 → s.seamShut (64 + q) = true → exec (.seamAbort (.quad q)) s =
      .next ((List.range 4).foldl (fun s i => s.unload (4 * q + i) false) s).shuttleRun.settle) ∧
    (s.ddrShut id false = true →
      exec (.seamAbort (.ddrRead id)) s = .next (s.endStrm id stDmaFault (resultOf 0xFF 1 0)).shuttleRun.settle) ∧
    (s.ddrShut id true = true →
      exec (.seamAbort (.ddrWrite id)) s = .next (s.endStrm id stDmaFault (resultOf 0xFF 2 0)).shuttleRun.settle) ∧
    exec (.seamAbort (.hub m id)) s = .next (s.hubAbort m id).settle ∧
    (s.Quiet → s.seamShut (64 + q) = false → s.ddrShut id false = false → s.ddrShut id true = false →
      exec (.seamAbort (.quad q)) s = .next s ∧ exec (.seamAbort (.ddrRead id)) s = .next s ∧
      exec (.seamAbort (.ddrWrite id)) s = .next s))

/-! ## The Vault Table (chapter 05) -/

/-- The table engine's own work (R150-R152, R156, R344): one step of the sweep, its end, the free list rebuilt,
the checkpoint mirrored, the vault region read back. -/
def Obligations.TableEngine : Prop :=
  (∀ s : State, s.vault.sweeping = true → s.isReady readyVault = true → s.flag .boltMode_maint = false →
    let i := s.rd .vtStatus_sweepNext
    (s.tableSize ≤ i → exec .rewrapSweepStep s = .next s.sweepEnd.settle) ∧
    (i < s.tableSize → i + 1 < ((s.rewrap i).showSweep (i + 1)).tableSize → (i + 1) % 4096 ≠ 0 →
      exec .rewrapSweepStep s = .next ((s.rewrap i).showSweep (i + 1)).settle)) ∧
  (∀ s : State, s.vault.rebuilding = true → s.tableCond = true → s.vault.sweeping = false →
    let t := ((s.setVault { s.vault with rebuilding := false }).setReady readyVault true).noteLive
    let v := t.showSweep (t.rd .vtStatus_sweepNext)
    t.vault.sweeping = false →
    exec .freeListRebuildDone s = .next (v.setVault { v.vault with fromZero := false }).settle) ∧
  (∀ s : State, s.vault.mirroring = true → s.mirrorNow.tack.ckptGen = none →
    exec .checkpointMirrorDone s =
      .next (s.mirrorNow.setVault { s.mirrorNow.vault with mirroring := false }).settle) ∧
  (∀ (s : State) (nonZero : List (Nat × Nat)), s.bolt.wiping = true → s.isReady (readyTier 0) = true →
    (s.vaultReadback nonZero).debugOpen = false →
    exec (.vaultReadbackDone nonZero) s = .next (s.vaultReadback nonZero).placeKeys.settle)

/-! ## Needles (chapters 07 to 11) -/

/-- The control of an engine (R301, R318, R320, R321): a write of engine_reset resets it, with every session stale (R147);
new mode bits wait for its next
boundary; a gated block drops and counts the write; the clear of a lockup keeps the instruction store and what the
engine was serving. -/
def Obligations.NeedleControl : Prop :=
  (∀ (s : State) (n : Nat), n < 64 → s.gateOff n = false →
    exec (.ndlEngineReset n) s = .next (((s.dropSessions 6).ndlEngineReset n).noteCluster n).settle) ∧
  (∀ (s : State) (n : Nat), s.Quiet → n < 64 → s.gateOff n = true → ∀ remap debug,
    exec (.ndlEngineReset n) s = .next (s.count .clkGatedTouch_count) ∧
    exec (.ndlModeWrite n remap debug) s = .next (s.count .clkGatedTouch_count)) ∧
  (∀ (s : State) (n : Nat) (remap debug : Bool), s.Quiet → n < 64 → s.gateOff n = false →
    ¬(s.ctlRemap n = remap ∧ s.ctlDebug n = debug) →
    let t := (s.wr .ndlCtrl_remap n (b2n remap)).wr .ndlCtrl_debug n (b2n debug)
    exec (.ndlModeWrite n remap debug) s = .next (t.setNd n { t.nd n with modeReq := true })) ∧
  (∀ (s : State) (n : Nat), s.Quiet → s.ndLocked n = true →
    let x := s.nd n
    exec (.lockupClearDone n) s = .next (s.setNd n
      { needleReset with m := { nmemReset with istore := x.m.istore }, inv := x.inv, pc := x.pc, priv := x.priv,
                         tenant := x.tenant, remap := x.remap, debug := x.debug, done := x.done, seq := x.seq,
                         cycles := x.cycles, x := { x.x with sys := x.x.sys } }))

/-- Issue and results (R200, R222, R256, R266, R297): a running Needle with nothing pending issues the bundle at its pc;
a fault or interrupt that is due is taken at the boundary instead, and while a long operation lasts the Needle is held; a
unit's oldest result is pushed; a division, the oldest long operation, ends. -/
def Obligations.NeedleIssue : Prop :=
  (∀ (s : State) (n : Nat) (ecc : Bool), s.ndRuns n = true → (s.nd n).x.entering = none → (s.nd n).held = false →
    (s.nd n).modeReq = false → Store.wf ndlDefault s.ndl = true →
    (∀ e, (s.nd n).x.deferred = some e →
      exec (.bundleIssue { n, ecc }) s = .next (s.ndFault n (elemFault e.rec_ (e.element, e.cause, e.addr)).1 (some e)).settle) ∧
    (∀ c, (s.nd n).x.deferred = none → (s.nd n).x.storeFlt = none → (s.nd n).irqDue = some c →
      exec (.bundleIssue { n, ecc }) s = .next (s.takeIrq n c).settle) ∧
    ((s.nd n).x.deferred = none → (s.nd n).x.storeFlt = none → (s.nd n).irqDue = none → (s.nd n).x.resuming = false →
      ((s.nd n).u.longOp = [] → exec (.bundleIssue { n, ecc }) s = .next (s.fetchIssue n ecc).settle) ∧
      ((s.nd n).u.longOp = [] → ecc = false → exec (.bundleIssue { n, ecc }) s = .next (s.issueAt n).settle) ∧
      ((s.nd n).u.longOp ≠ [] → exec (.bundleIssue { n, ecc }) s = .next (s.heldAt n false).settle))) ∧
  (∀ (s : State) (n : Nat) (ecc : Bool), s.ndRuns n = true → (s.nd n).x.entering = none → (s.nd n).held = true →
    exec (.bundleIssue { n, ecc }) s = .next (s.issueAt n).settle) ∧
  (∀ (s : State) (n unit : Nat) (u : NUnit) (e : QEnt) (l : List QEnt), s.Quiet → unitOf unit = some u → u ≠ .lsu →
    u ≠ .strm → u ≠ .evt → u ≠ .div → u ≠ .bigm → u ≠ .fpu → u.depth ≠ 0 →
    pushOldest ((s.nd n).q 0 u) = some (e, l) →
    exec (.unitResultPush n unit) s = .next (s.setNd n ((s.nd n).setQ 0 u l))) ∧
  (∀ (s : State) (n : Nat) (more : List NUnit), (s.nd n).u.longOp = .div :: more →
    let t := s.heldCycles n 0
    let x := t.nd n
    let y := { x with u := { x.u with longOp := more } }
    x.u.longOp = .div :: more →
    exec (.longOpComplete n) s =
      .next (t.setNd n ((y.setQ 0 .div (pushAll (y.q 0 .div))).setQ 1 .div (pushAll (y.q 1 .div)))).settle)

/-- Loads, stores and vector accesses (R241, R242, R265-R267, R306): an answer reaches the oldest load that waits; a direct
load writes its registers when the LSU gets to it; a store at the front of the buffer is performed or faults; a gather's
element faults, unless its cache line could be read again (R337), as a store then is performed; a fault-only-first count is
pushed. Which half of a split access failed is a free value. -/
def Obligations.NeedleMemory : Prop :=
  (∀ (s : State) (n : Nat) (ans : MemAnswer) (e : QEnt) (l : List QEnt), oldestLoad ((s.nd n).q 0 .lsu) = some e →
    let m := s.memFails n ans e.addrs
    returnOldest m.1 ((s.nd n).q 0 .lsu) = some l →
    exec (.loadReturn n ans) s = .next (m.2.setNd n ((s.nd n).setQ 0 .lsu l)).settle ∧
    (ans = .ok → m = (none, s))) ∧
  (∀ (s : State) (n : Nat) (d : Direct) (ds : List Direct), (s.nd n).m.directs = d :: ds → d.gather = none → d.bad = none →
    let x := s.nd n
    let y := { x with m := { x.m with directs := ds } }
    exec (.directLoadWrite n .ok) s = .next ((s.setNd n (y.writeDirect d none)).tryEnter n).settle ∧
    let h := s.failedHalf d.addrs
    exec (.directLoadWrite n .fault) s =
      .next ((h.2.setNd n (y.noteRegs d (mkFlt cLoad none (some h.1)) none)).tryEnter n).settle) ∧
  (∀ (s : State) (n : Nat), exec (.storePerform n) s = .next (s.storeOne n).settle) ∧
  (∀ (s : State) (n : Nat) (ecc : Bool) (e : SbEnt) (es : List SbEnt), (s.nd n).m.sbuf = e :: es →
    (ecc = false → exec (.storeFaultReport n ecc) s = .next (s.storeFails n e cStore).settle) ∧
    (ecc = true → (s.ndEcc n e.addr).1 = false →
      exec (.storeFaultReport n ecc) s = .next ((s.ndEcc n e.addr).2.storeFails n e cEcc).settle) ∧
    (ecc = true → (s.ndEcc n e.addr).1 = true →
      exec (.storeFaultReport n ecc) s = .next ((s.ndEcc n e.addr).2.storeOne n).settle)) ∧
  (∀ (s : State) (n i : Nat) (l : List Nat), elemAt i (s.nd n).m.directs = some l →
    let h := s.failedHalf l
    let x := h.2.nd n
    exec (.gatherElementFault n i false) s = .next (h.2.setNd n
      { x with m := { x.m with directs := failGather i cLoad h.1 x.m.directs } }).settle ∧
    (let r := h.2.ndEcc n h.1
     let y := r.2.nd n
     (r.1 = false → exec (.gatherElementFault n i true) s = .next (r.2.setNd n
       { y with m := { y.m with directs := failGather i cEcc h.1 y.m.directs } }).settle) ∧
     (r.1 = true → exec (.gatherElementFault n i true) s = .next r.2.settle))) ∧
  (∀ (s : State) (n m : Nat) (l : List QEnt), s.Quiet → pushFf ((s.nd n).q 0 .vec) = some (m, l) →
    let y := (s.nd n).setQ 0 .vec l
    exec (.vgatherFfCount n) s = .next (s.setNd n { y with u := { y.u with vl := m } }))

/-- Interrupts, the watchdog and critical windows (R295, R296, R299): each request becomes pending; a
held Needle's watchdog faults and is counted; a window that overruns its cap is counted. -/
def Obligations.NeedleInterrupts : Prop :=
  (∀ (s : State) (n : Nat), (s.nd n).inv ≠ none → exec (.budgetExpiry n) s = .next (s.raiseIrq n 2).settle) ∧
  (∀ (s : State) (n : Nat), s.fitterAlive = true → n ≤ 64 → exec (.fitterInterrupt n) s = .next (s.raiseIrq n 3).settle) ∧
  (∀ (s : State) (n : Nat), s.debugOpen = true → n ≤ 64 → exec (.debugHalt n) s = .next (s.raiseIrq n 4).settle) ∧
  (∀ (s : State) (n : Nat), n < 64 → s.ndRuns n = true → (s.nd n).x.entering = none →
    ((s.nd n).held = true ∨ (s.nd n).u.longOp ≠ []) →
    let t := s.countSat .ndlCount_watchdog n
    exec (.watchdogExpiry n) s =
      .next ((if 1 ≤ (s.nd n).priv then t.bucketEvent n 1 else t).ndFault n (mkFlt cWatchdog) none).settle) ∧
  (∀ (s : State) (n : Nat) (c : Crit), s.Quiet → n < 64 → (s.nd n).x.crit = some c →
    let t := s.setNd n (s.nd n).closeCrit
    exec (.critWindowExpiry n) s =
      .next (if t.critCap n ≤ t.cyclesIn n (c.since - c.opened) + c.asked then t.countSat .ndlCount_critOverrun n else t))

/-- Shifts and rotates (R233): by the whole unsigned amount, for shl, shr, sar, ror, rol and their .w forms, on operands
whose tags SHF accepts; and the worked values. -/
def Obligations.ShiftAmounts : Prop :=
  (∀ (a b c : Val), needAll .other [a, b] = .ok () →
    let x := a.lo
    let n := b.lo.toNat
    (shfOp 0x08 a b c = .ok (int64 (if n ≥ 64 then 0 else x <<< n))) ∧
    (shfOp 0x09 a b c = .ok (int64 (if n ≥ 64 then 0 else x >>> n))) ∧
    (n < 64 → shfOp 0x0A a b c = .ok (int64 (x.sshiftRight n))) ∧
    (64 ≤ n → shfOp 0x0A a b c = .ok (int64 (if x.msb then BitVec.allOnes 64 else 0))) ∧
    (shfOp 0x0B a b c = .ok (int64 (x.rotateRight (n % 64)))) ∧
    (shfOp 0x0C a b c = .ok (int64 (x.rotateLeft (n % 64)))) ∧
    let y : W32 := x.setWidth 32
    (shfOp 0x0D a b c = .ok (int64 (sext32 (if n ≥ 32 then 0 else y <<< n)))) ∧
    (shfOp 0x0E a b c = .ok (int64 (sext32 (if n ≥ 32 then 0 else y >>> n)))) ∧
    (n < 32 → shfOp 0x0F a b c = .ok (int64 (sext32 (y.sshiftRight n)))) ∧
    (32 ≤ n → shfOp 0x0F a b c = .ok (int64 (sext32 (if y.msb then BitVec.allOnes 32 else 0)))) ∧
    (shfOp 0x10 a b c = .ok (int64 (sext32 (y.rotateLeft (n % 32))))) ∧
    (shfOp 0x11 a b c = .ok (int64 (sext32 (y.rotateRight (n % 32)))))) ∧
  (∀ c : Val, shfOp 0x0F (intVal 0x80000000) (intVal 40) c = .ok (int64 0xFFFFFFFFFFFFFFFF) ∧
    shfOp 0x0E (intVal 0x80000000) (intVal 0) c = .ok (int64 0xFFFFFFFF80000000))

/-- Division (R236): a zero divisor gives all ones and the dividend; the most negative number by minus one gives itself
and zero; the trapping forms fault; otherwise dividend = quotient × divisor + remainder. -/
def Obligations.DivisionEdges : Prop :=
  (∀ (signed : Bool) (x : W64), divide signed 64 x 0 = (BitVec.allOnes 64, x)) ∧
  (divide true 64 (BitVec.intMin 64) (BitVec.allOnes 64) = (BitVec.intMin 64, 0)) ∧
  (∀ a b : Val, needAll .other [a, b] = .ok () → b.lo = 0 →
    divOp 0x0A a b = .error cDivZero ∧ divOp 0x0B a b = .error cDivZero) ∧
  (∀ a b : Val, needAll .other [a, b] = .ok () → a.lo = BitVec.intMin 64 → b.lo = BitVec.allOnes 64 →
    divOp 0x0A a b = .error cOverflow) ∧
  (∀ a b : Val, needAll .other [a, b] = .ok () → b.lo.setWidth 32 = (0 : W32) →
    divOp 0x0C a b = .ok (int64 (BitVec.allOnes 64), int64 (sext32 (a.lo.setWidth 32))) ∧
    divOp 0x0D a b = .ok (int64 (BitVec.allOnes 64), int64 (sext32 (a.lo.setWidth 32)))) ∧
  (∀ a b : Val, needAll .other [a, b] = .ok () → a.lo.setWidth 32 = BitVec.intMin 32 →
    b.lo.setWidth 32 = BitVec.allOnes 32 →
    divOp 0x0C a b = .ok (int64 (sext32 (BitVec.intMin 32)), int64 0)) ∧
  (∀ x y : W64, y ≠ 0 → (divide false 64 x y).1 * y + (divide false 64 x y).2 = x ∧
    (divide true 64 x y).1 * y + (divide true 64 x y).2 = x)

/-! ## The Bolt (chapter 12) -/

/-- Banks and their power (R341, R342), donors (R345), the cache's write-back (R346), the scrubber (R339), and one cycle of
bank arbitration (R329): a bank with no request is left as it is. -/
def Obligations.BoltBanks : Prop :=
  (∀ (s : State) (b : Nat), s.Quiet → b < 48 → s.rd .boltPwrIdle_idleUs ≠ 0 → s.rd .boltBankState_power b = 0 →
    1 < s.partOfBank b → s.rd .boltBankCfg_pwr b = 1 →
    exec (.bankIdleTimeout b) s = .next (s.wr .boltBankState_power b 1)) ∧
  (∀ (s : State) (b : Nat), b < 48 → s.rd .boltPwrIdle_idleUs ≠ 0 → s.rd .boltBankState_power b = 0 →
    1 < s.partOfBank b → 2 ≤ s.rd .boltBankCfg_pwr b →
    let t := if s.partOfBank b = 3 then s.cacheEmptyBank b else s
    exec (.bankIdleTimeout b) s = .next ((t.loseBank b).wr .boltBankState_power b 2).settle) ∧
  (∀ (s : State) (b : Nat), s.Quiet → b < 48 → s.rd .boltBankState_power b = 3 →
    exec (.bankWakeDone b) s = .next (s.wr .boltBankState_power b 0)) ∧
  (∀ (s : State) (b donor : Nat), s.bolt.copying.find? (fun c => c.1 == b) = some (b, donor) →
    let v := s.dropDonor b
    let t := v.setBolt { v.bolt with copying := v.bolt.copying.erase (b, donor), donors := v.bolt.donors ++ [(b, donor)] }
    exec (.donorCopyDone b) s =
      .next (((t.wr .boltBankState_donor donor 1).wr .boltBankState_replaces donor b).showLayout).settle) ∧
  (∀ s : State, s.bolt.writeBack = true → s.locked = true →
    (∀ c < 8, s.flag .ddrcState_retired c = true ∨ s.isReady (readyDdr c) = true) →
    exec .cacheWritebackDone s = .next (s.cacheEmpty.setBolt { s.cacheEmpty.bolt with writeBack := false }).settle) ∧
  (∀ (s : State) (ecc : EccEvent) (wrote : Bool), s.rd .boltScrub_rateMbs ≠ 0 →
    (∀ (w : Nat) (before : Bool), s.scrubNext 48 s.bolt.scrubAt false = some (w, before) →
      let t := (s.scrubPass before).scrubFound (w / 65536) (w % 65536) ecc wrote
      let v := (w + 1) % (48 * 65536)
      let n := (t.scrubNext 49 v (v == 0)).getD (v, v == 0)
      exec (.boltScrubRead ecc wrote) s = .next ((t.setBolt { t.bolt with scrubAt := n.1 }).scrubPass n.2).settle) ∧
    (s.Quiet → s.scrubNext 48 s.bolt.scrubAt false = none → exec (.boltScrubRead ecc wrote) s = .next s)) ∧
  (∀ (s : State), s.Quiet → exec (.boltCycle []) s = .next (s.setBolt { s.bolt with commits := [], resp := [] })) ∧
  (∀ (s : State) (r : BoltReq), r.wf = true → s.flag .boltMode_maint = false →
    exec (.boltCycle [r]) s =
      .next ((s.setBolt { s.bolt with commits := [], resp := [] }).bankCycle s.bolt.commits r.bank [r]).settle)

/-! ## Hub and Tack (chapters 13 and 14) -/

/-- Hub transactions (R348, R349, R351, R352, R354): a well-formed request joins those that wait and the Hub serves what it
can; one that stands alone before a target that need not wait is served at once: a decode error where nothing answers, a
refusal where R349 gives no permission, else its target's answer; a response frees its transaction; one that breaks the rules
of R348 is not accepted. Events (R358, R361-R365): a cycle takes every pending source, counts it, drops generation 7, and sends
one merged trigger to each input its routes name; a trigger on its way arrives, behind those before it in its seam (R17); a GPIO
edge shows on the input and raises its source where the set-up asks for it; a timer that expires restarts or stops and raises
its source when it is to. -/
def Obligations.HubAndTack : Prop :=
  (∀ (s : State) (r : HubReq), hubWellFormed r = true →
    let w : HubWait := { req := r, orphan := false }
    exec (.hubRequest r) s = .next (s.setHub { s.hub with waiting := s.hub.waiting ++ [w] }).hubDrain.settle ∧
    (s.hub.waiting = [] → s.clocked = true → s.hubOut r.master < s.hubMax r.master → s.hubTargetWaits r = false →
      exec (.hubRequest r) s = .next ((s.hubServe w).hub.waiting.foldl
        (fun s w => if s.hubTargetWaits w.req then s.hubWake w.req else s) (s.hubServe w)).settle) ∧
    (s.hubDecode r.addr = .none → s.hubServe w = s.hubAnswer r 16 .decerr []) ∧
    (∀ p, s.hubDecode r.addr = p → p ≠ .none → s.hubPermits r.master r.priv p.gate = false →
      s.hubServe w = (s.hubLog r 3).hubAnswer r p.target .refused []) ∧
    (∀ p, s.hubDecode r.addr = p → p ≠ .none → s.hubPermits r.master r.priv p.gate = true →
      let x := (s.hubGrant r p.target).hubTarget r repHub p
      s.hubServe w = x.2.2.hubAnswer r p.target x.1 x.2.1)) ∧
  (∀ (s : State) (r : HubReq), hubWellFormed r = false → exec (.hubRequest r) s = .next s.settle) ∧
  (∀ (s : State) (m id : Nat),
    (∀ t, s.hub.flight.find? (fun t => t.req.master == m && t.req.id == id) = some t →
      let u := s.setHub { s.hub with flight := s.hub.flight.erase t, back := [t] }
      exec (.hubResponse m id) s = .next u.hubDrain.settle ∧
      (s.hub.waiting = [] → exec (.hubResponse m id) s = .next u.settle)) ∧
    (s.hub.flight.find? (fun t => t.req.master == m && t.req.id == id) = none →
      exec (.hubResponse m id) s = .next s.settle)) ∧
  (∀ s : State, s.isReady readyTack = true →
    let evs := s.tack.pend
    let t := evs.foldl (fun s e => s.count .tckSrc_raised e.1) (s.setTack { s.tack with pend := [] })
    let u := (evs.filter (fun e => e.2 == 7)).foldl (fun s e => s.loopDrop e.1) t
    let hits := ((evs.filter (fun e => e.2 != 7)).map (fun e => (u.routes e.1).map (fun i => (i, e.1, e.2)))).flatten
    exec .tackCycle s = .next (((List.range 285).filter (fun i => hits.any (fun h => h.1 == i))).foldl (fun s i =>
      (s.countSat .tckMerge_count i ((hits.filter (fun h => h.1 == i)).length - 1)).tackSend (mergeAt i hits)) u).settle) ∧
  (∀ s : State, s.isReady readyTack = false → exec .tackCycle s = .next s.settle) ∧
  (∀ (s : State) (src gen : Nat), s.isReady readyTack = true → s.tack.pend = [(src, gen)] → gen ≠ 7 →
    let t := (s.setTack { s.tack with pend := [] }).count .tckSrc_raised src
    (t.routes src = [] → exec .tackCycle s = .next t.settle) ∧
    (∀ i < 285, t.routes src = [i] →
      exec .tackCycle s = .next ((t.countSat .tckMerge_count i 0).tackSend (i, min 255 src, gen)).settle)) ∧
  (∀ (s : State) (i : Nat),
    let line := s.tack.flying.filter (fun e => sameSeam e.1 i)
    (line.any (fun e => e.1 == i) = true →
      exec (.tackDelivery i) s = .next ((seamPrefix i line).foldl (fun s e =>
        (s.setTack { s.tack with flying := s.tack.flying.erase e }).tackArrive e.1 e.2.1 e.2.2) s).settle) ∧
    (line.any (fun e => e.1 == i) = false → exec (.tackDelivery i) s = .next s.settle)) ∧
  (∀ (s : State) (pin : Nat) (rising : Bool),
    let t : State := { s with pins := { s.pins with gpioIn := withBit s.pins.gpioIn pin rising } }
    let chosen := bitOf (s.rd .periGpioCfg_dir) pin = false ∧ bitOf (s.rd .periGpioEvt_edgeEn) pin = true ∧
      bitOf (s.rd .periGpioEvt_edgeFall) pin = !rising
    (pin < 16 → chosen → exec (.gpioEdge pin rising) s = .next (t.raiseTack (162 + pin) 0).settle) ∧
    (pin < 16 → ¬chosen → exec (.gpioEdge pin rising) s = .next t.settle) ∧
    (16 ≤ pin → exec (.gpioEdge pin rising) s = .next s.settle)) ∧
  (∀ (s : State) (t : Nat),
    let v := s.setTimer t { s.timer t with armed := s.flag .periTimer_repeat t, since := s.time }
    let runs := t < 8 ∧ (s.timer t).armed = true ∧ s.rd .periTimer_periodUs t ≠ 0
    (runs → s.flag .periTimer_event t = true → exec (.periTimerExpiry t) s = .next
      (v.raiseTack (178 + t) (match (s.timer t).gen with | some g => g + 1 | none => 0)).settle) ∧
    (runs → s.flag .periTimer_event t = false → exec (.periTimerExpiry t) s = .next v.settle) ∧
    (¬runs → exec (.periTimerExpiry t) s = .next s.settle))

/-! ## Clocks and islands (chapter 15) -/

/-- The crystal, the root and CLOCK_HOLD (R369, R370, R375, R486): a missing edge while the root runs holds the
clocks and is counted, else the judgement restarts; a stable crystal and the lock start the islands; a trip stops the
clocks until SYS_RST_N. Islands (R372, R373, R377): a divisor switches when it is the one wanted; a droop's stretched
edges are counted; Fitter firmware resets an island whose clock runs, each kind of island in its own way. -/
def Obligations.ClocksAndIslands : Prop :=
  (∀ s : State, s.power.porActive = false → s.power.rootLock = true →
    let t := s.clocksStop.countSat .rstStatus_holdCount
    exec .missingEdge s = .next ({ t with power := { t.power with
      hold := true, holdCause := if t.power.inReset = some 2 then some 2 else none } } : State).settle) ∧
  (∀ s : State, s.Quiet → s.power.porActive = false → s.power.rootLock = false →
    exec .missingEdge s = .next (({ s with power := { s.power with xtalStable := false } } : State).countSat
      .clkStatus_judgeRestarts)) ∧
  (∀ s : State, s.Quiet → s.thmHeld = false → s.power.rootLock = false →
    exec .xtalJudgedStable s = .next ({ s with power := { s.power with xtalStable := true } } : State)) ∧
  (∀ s : State, s.thmHeld = false → s.power.rootLock = false → s.power.xtalStable = true →
    let t : State := { s with power := { s.power with rootLock := true, hold := false, holdCause := none } }
    ((s.power.hold = false ∨ s.power.holdCause ≠ none) → exec .rootPllLock s = .next t.thimbleRuns.spreadLock.startIslands.settle) ∧
    (s.power.hold = true → s.power.holdCause = none →
      exec .rootPllLock s = .next (t.resetBy 4).thimbleRuns.spreadLock.startIslands.settle)) ∧
  (∀ s : State, s.power.trip = false →
    exec .thermalTrip s = .next ({ s.clocksStop with power := { s.clocksStop.power with trip := true } } : State).settle) ∧
  (∀ (s : State) (i : Nat), i < 85 → s.power.rootLock = true →
    exec (.divisorSwitch i (s.wantedDivisor i)) s = .next (s.switchDivisor i (s.wantedDivisor i)).settle) ∧
  (∀ (s : State) (i edges : Nat), s.Quiet → i < 85 → s.flag .clkIsland_running i = true →
    exec (.droopStretch i edges) s = .next (s.count .clkIsland_stretched i edges)) ∧
  (∀ (s : State) (i : Nat), i < 85 → s.fitterAlive = true → s.flag .clkIsland_running i = true →
    let v := s.islandBegins i
    (i < 64 → exec (.islandReset i) s = .next (v.resetNeedleIsland i).settle) ∧
    (64 ≤ i → i < 68 → exec (.islandReset i) s = .next (v.resetQuad (i - 64)).settle) ∧
    (i = 68 → exec (.islandReset i) s = .next v.resetHubIsland.settle) ∧
    (69 ≤ i → i < 77 → exec (.islandReset i) s = .next (v.resetDdrIsland (i - 69)).settle) ∧
    (i = 77 → exec (.islandReset i) s = .next v.hotReset.settle) ∧
    (78 ≤ i → i < 82 →
      exec (.islandReset i) s = .next ((v.portLink (i - 78) false 0).startPort (i - 78)).settle) ∧
    (i = 82 → exec (.islandReset i) s = .next v.resetFitterIsland.settle) ∧
    (i = 83 → exec (.islandReset i) s = .next v.resetThimbleIsland.settle) ∧
    (i = 84 → exec (.islandReset i) s = .next v.resetPeripheral.settle))

/-! ## DDR5 (chapter 16) -/

/-- Periodic work on a channel in service (R388, R397-R399): each changes its channel only, and a channel or rank
that is not in service is left alone. -/
def Obligations.DdrPeriodic : Prop :=
  (∀ (s : State) (c r : Nat) (drift : Int), s.Quiet → s.rankUp c r = true → 1 < drift.natAbs →
    exec (.dqsOscInterval c r drift) s = .next (s.setChan c
      { s.chan c with dqs := Store.modify (fun _ => (0 : Int)) (s.chan c).dqs r (fun d => d + drift) })) ∧
  (∀ (s : State) (c r : Nat), s.Quiet → s.rankUp c r = true →
    exec (.zqCalInterval c r) s = .next (s.setChan c { s.chan c with zq := (s.chan c).zq + 1 }) ∧
    exec (.rankSweepBurst c r) s = .next (s.wr .ddrcState_sweeping c 1)) ∧
  (∀ (s : State) (c : Nat) (hot : Bool), s.Quiet → s.chanUp c = true →
    exec (.ddrRefresh c hot) s =
      .next (s.setChan c { s.chan c with refreshes := (s.chan c).refreshes + 1, hotRefresh := hot })) ∧
  (∀ (s : State) (c r : Nat) (drift : Int), s.Quiet → s.rankUp c r = false →
    exec (.dqsOscInterval c r drift) s = .next s ∧ exec (.zqCalInterval c r) s = .next s ∧
    exec (.rankSweepBurst c r) s = .next s ∧ exec (.rankSweepEnd c r []) s = .next s) ∧
  (∀ (s : State) (c r : Nat) (m : LaneMargin), s.Quiet → s.rankUp c r = true →
    0 < Store.get (fun _ => 0) (s.chan c).unsettled r → m.width < 64 → m.height < 256 →
    let k := 2 * c + r
    let t := (((((s.wr .ddrcState_sweeping c 0).count .ddrcMargin_sweeps k).wr .ddrcMargin_width64ui k
      (min 63 m.width)).wr .ddrcMargin_heightMv k (min 255 m.height)).wr .ddrcMargin_worstLane k 0)
    exec (.rankSweepEnd c r [m]) s = .next (t.setChan c { t.chan c with
      unsettled := Store.put (fun _ => 0) (t.chan c).unsettled r (Store.get (fun _ => 0) (t.chan c).unsettled r - 1) })) ∧
  (∀ (s : State) (c : Nat) (wrote : Bool), s.Quiet → s.chanUp c = true → s.rd .ddrCfg_scrubH ≠ 0 → 256 ≤ s.ddrUsable →
    let g := s.scrubGranule c (s.chan c).scrubAt
    s.scrubGranule c (g + 1) < s.ddrUsable / 256 →
    exec (.patrolScrubStep c .none wrote) s = .next (s.setChan c { s.chan c with scrubAt := g + 1 }))

/-- A channel comes into service (R391, R395, R396, R403): one absent, outside the population rules or not trained is latched
for retirement; one that restores serves again on its contents; a repair made at test time is entered. Its memory is
then stored to and read, and the migration to map 7 copies a granule at a time (R393, R405). -/
def Obligations.DdrChannels : Prop :=
  (∀ (s : State) (c : Nat) (f0 : DdrFound), 1 ≤ c → c < 8 → s.locked = true → (s.chan c).started = true →
    (s.chan c).restoring = false → s.flag .ddrcState_trained c = false → s.chanOut c = false →
    let f := s.foundAs c f0
    (let t := (s.setChan c { s.chan c with found := some f }).showGeom c f (s.badPopulation c f)
     (f.present = false ∨ s.badPopulation c f = true ∨ f.trained = false) →
     exec (.ddrTrainingDone c f0) s = .next (t.latch (0x300 + c) 5).settle) ∧
    (let t := (((s.setChan c { s.chan c with found := some f }).showGeom c f false).takePop f).clearChannel c
     let u := ((t.wr .ddrcState_trained c 1).wr .ddrcState_spprUsed c
       (t.fit.sppr.filter (fun r => r.ch == c)).length).wr .ddrcState_selfRefresh c 0
     let v := u.setChan c { u.chan c with record := some (u.ddr.rate, u.ddr.spare), record8000 := u.ddr.rate == 5,
                                          rate := u.ddrRateNow, low := [], dqs := [],
                                          unsettled := [(0, 16), (1, 16)], scrubAt := 0 }
     f.present = true → s.badPopulation c f = false → f.trained = true →
     exec (.ddrTrainingDone c f0) s = .next ((v.setReady (readyDdr c) true).startFaults c f).settle)) ∧
  (∀ (s : State) (c : Nat) (sweeps : List (List LaneMargin)), c < 8 → s.locked = true → (s.chan c).started = true →
    (s.chan c).restoring = true → s.chanOut c = false → bitOf (s.rd .clkGate_ddr) c = true →
    let t := (s.wr .ddrcState_selfRefresh c 0).wr .ddrcState_trained c 1
    let u := t.setChan c { s.chan c with restoring := false, rate := t.ddrRateNow, low := [], dqs := [],
                                         unsettled := [(0, 16), (1, 16)] }
    let v := match (s.chan c).found with | some f => (u.showGeom c f false).takePop f | none => u
    let x := v.wr .ddrcState_spprUsed c (v.fit.sppr.filter (fun r => r.ch == c)).length
    exec (.ddrRestoreDone { ch := c, sweeps }) s = .next ((sweeps.zipIdx.foldl (fun s e =>
      if e.1.isEmpty || decide (s.rd .ddrcGeom_ranks c ≤ e.2) || bitOf (s.rd .ddrStatus_fencedRank) (2 * c + e.2) then s
      else s.rankSwept c e.2 e.1) x).setReady (readyDdr c) true).settle) ∧
  (∀ (s : State) (c : Nat) (lost : List Nat) (r : Sppr), s.ddr.repairs.find? (fun r => r.ch == c) = some r →
    let t := s.setDdr { s.ddr with repairs := s.ddr.repairs.erase r }
    (t.chanOut c = true → exec (.ddrSpprDone { ch := c, lost }) s = .next t.settle) ∧
    (t.chanOut c = false →
      let u := (((lost.filter (fun k => decide (k < t.ddrC))).map (t.rowGranules r)).flatten).foldl
        (fun s g => (s.poisonLine (2 * g)).poisonLine (2 * g + 1)) t
      let v : State := { u with fit := { u.fit with sppr := u.fit.sppr ++ [r] } }
      exec (.ddrSpprDone { ch := c, lost }) s = .next (v.wr .ddrcState_spprUsed c (v.rd .ddrcState_spprUsed c + 1)).settle)) ∧
  (∀ (s : State) (r : DdrReq),
    let n := match r.data with | some d => d.length | none => r.len
    r.offset + n ≤ s.ddrUsable → s.ddrRefused r.offset n = false → s.ddrPoisoned r.offset n = false →
    r.crcRetries = 0 → r.parityRetries = 0 → r.exhausted = false → r.ecc = .none →
    (∀ d, r.data = some d → exec (.ddrAccess r) s =
      .next ((s.ddrStore r.offset d).setDdr { (s.ddrStore r.offset d).ddr with ans := some (.ok, []) }).settle) ∧
    (r.data = none → exec (.ddrAccess r) s =
      .next (s.setDdr { s.ddr with ans := some (.ok, s.ddrBytes r.offset r.len) }).settle)) ∧
  (∀ s : State, s.flag .ddrMigrate_running = true → 2 ≤ s.rd .ddrMigrate_next →
    s.migrates = true →
    let g := s.rd .ddrMigrate_next - 1
    s.ddrFenced (s.ddrPlace7 g) = false →
    exec (.migrationGranuleCopy false) s = .next (s.wr .ddrMigrate_next 0 g).settle)

/-- DDR5 accesses and the migration (R166, R393, R401, R404-R406): an access past the usable size is answered by a
decode error; one to a fenced channel is refused, and ends its Shuttle stream RESOURCE_RETIRED; another stores its bytes,
or reads them, or meets a word that cannot be corrected; the migration copies granules downwards. -/
def Obligations.DdrAccesses : Prop :=
  (∀ (s : State) (r : DdrReq), s.Quiet → s.ddrUsable < r.offset + (match r.data with | some d => d.length | none => r.len) →
    exec (.ddrAccess r) s = .next (s.setDdr { s.ddr with ans := some (.decerr, []) })) ∧
  (∀ (s : State) (r : DdrReq),
    let n := match r.data with | some d => d.length | none => r.len
    let t := s.setDdr { s.ddr with ans := some (.refused, []) }
    r.offset + n ≤ s.ddrUsable → s.ddrRefused r.offset n = true →
    (r.stream = none → exec (.ddrAccess r) s = .next t.settle) ∧
    (∀ id u, r.stream = some id → s.fencedUnit r.offset n = some u →
      exec (.ddrAccess r) s = .next (t.strmFenced id u).settle)) ∧
  (∀ (s : State) (r : DdrReq) (d : List Byte), r.data = some d → r.offset + d.length ≤ s.ddrUsable →
    s.ddrRefused r.offset d.length = false → r.crcRetries = 0 → r.parityRetries = 0 → r.exhausted = false →
    let t := s.ddrStore r.offset d
    exec (.ddrAccess r) s = .next (t.setDdr { t.ddr with ans := some (.ok, []) }).settle) ∧
  (∀ (s : State) (r : DdrReq), r.data = none → r.offset + r.len ≤ s.ddrUsable → s.ddrRefused r.offset r.len = false →
    r.crcRetries = 0 → r.parityRetries = 0 → r.exhausted = false →
    let rep := repDdr (s.ddrPlace r.offset).ch
    let t := s.ddrEcc r.ecc r.offset rep
    let u := if r.ecc ≠ .double ∧ s.ddrPoisoned r.offset r.len = true then t.ddrMet r.offset rep else t
    let bad := r.ecc = .double ∨ u.ddrPoisoned r.offset r.len = true
    (¬bad → exec (.ddrAccess r) s =
      .next (u.setDdr { u.ddr with ans := some (.ok, u.ddrBytes r.offset r.len) }).settle) ∧
    (bad → r.stream = none → exec (.ddrAccess r) s =
      .next (u.setDdr { u.ddr with ans := some (.ecc, []) }).settle)) ∧
  (∀ s : State, s.Quiet → s.flag .ddrMigrate_running = true → 2 ≤ s.rd .ddrMigrate_next →
    s.migrates = true →
    s.ddrFenced (s.ddrPlace7 (s.rd .ddrMigrate_next - 1)) = false →
    exec (.migrationGranuleCopy false) s = .next (s.wr .ddrMigrate_next 0 (s.rd .ddrMigrate_next - 1)))

/-! ## The mesh (chapter 17) -/

/-- Frames (R413, R414, R417-R424): a KEEPALIVE or ACK that is valid makes its path live and releases what it
acknowledges, an invalid one is discarded and counted; every other frame is received in its sequence and acts by its
class: the next one acts, any other is only acknowledged. A first frame sent for the first time, where later ones have been
received, begins the pair's sequences again before it is received (log 43). -/
def Obligations.MeshFrames : Prop :=
  ∀ (s : State) (f : FrameHdr),
    (∀ time ports, let b : MeshBody := .keepalive time ports
      (s.frameOk f b = true → exec (.keepalive f time ports) s = .next ((s.hear f b).takeAck f.src f.ack).settle) ∧
      (s.frameOk f b = false → exec (.keepalive f time ports) s = .next (s.discardFrame f b).settle)) ∧
    (s.frameOk f .ack = true → exec (.ack f) s = .next ((s.hear f .ack).takeAck f.src f.ack).settle) ∧
    (∀ b, exec (.membership f b) s = .next (s.arrive f (.membership b) (fun s => s.onMembership f b)).settle) ∧
    (∀ b, exec (.shardWrite f b) s = .next (s.arrive f (.shardWrite b) (fun s => s.onShardWrite f b)).settle) ∧
    (∀ b e, exec (.shardReply f b e) s = .next (s.arrive f (.shardReply b e) (fun s => s.onShardReply f b e)).settle) ∧
    (∀ w, exec (.forward f w) s = .next (s.arrive f (.forward w) (fun s => s.onForward f w)).settle) ∧
    (∀ c, exec (.claim f c) s = .next (s.arrive f (.claim c) (fun s => s.onClaim f c)).settle) ∧
    (∀ b v, exec (.claimReply f b v) s = .next (s.arrive f (.claimReply b v) (fun s => s.onClaimReply f b v)).settle) ∧
    (∀ b, exec (.reload f b) s = .next (s.arrive f (.reload b) (fun s => s.onReload f b)).settle) ∧
    (∀ m, exec (.handoff f m) s = .next (s.arrive f (.handoff m) (fun s => s.onHandoff f m)).settle) ∧
    (∀ r : W64, exec (.handoffReply f r) s =
      .next (s.arrive f (.handoffReply r.toNat) (fun s => s.onHandoffReply f r.toNat)).settle) ∧
    (∀ b act, s.renews f b = false → s.arrive f b act = s.receive f b act) ∧
    (∀ b act, s.frameOk f b = false → s.receive f b act = s.discardFrame f b) ∧
    (∀ b act, s.frameOk f b = true →
      let t := (s.hear f b).takeAck f.src f.ack
      let p := t.peer f.src
      (f.seq = p.rxSeq + 1 → s.receive f b act = act (t.setPeer f.src { p with rxSeq := f.seq, ackOwed := true })) ∧
      (f.seq ≠ p.rxSeq + 1 → s.receive f b act = t.setPeer f.src { p with ackOwed := true }))

/-- Mesh timers (R414, R417, R418, R420): keepalives while joined; a peer that is lost once; acknowledgements that no
frame carried; a JOIN that nobody answered; the claim of an abandoned claimant, above the highest epoch seen. Ports and
lanes (R408, R416, R427): the link of an enabled port comes up, on one pair where the 100 Gb/s type is negotiated or a lane is
retired, and that is permitted; it goes down; each lane's window is judged and the next begins; a renegotiation ends, or its third failure in a second latches the port. -/
def Obligations.MeshTimersAndPorts : Prop :=
  (∀ s : State, s.joined = true →
    exec .keepaliveTimer s = .next (s.sendGroup (.keepalive s.time s.portsUp.length)).settle) ∧
  (∀ s : State, s.Quiet → s.joined = false → exec .keepaliveTimer s = .next s) ∧
  (∀ (s : State) (p : Nat), s.Quiet → ((s.peer p).member = false ∨ (s.peer p).lost = true) →
    exec (.peerLostTimeout p) s = .next s) ∧
  (∀ (s : State) (p : Nat), exec (.peerLostTimeout p) s = .next (s.peerLost p).settle) ∧
  (∀ (s : State) (p : Nat), exec (.retransmitTimer p) s = .next (s.retransmit p).settle) ∧
  (∀ (s : State) (p port : Nat), (s.peer p).ackOwed = true → s.portFor p = some port →
    exec (.ackTimer p) s = .next (s.putFrame
      { s.newFrame p 0 0 0 .ack with port, sends := 1, at_ := s.time }).settle) ∧
  (∀ (s : State) (j : Joining), s.mesh.joining = some j →
    (j.answered = [] → exec .joinTimeout s = .next (s.failJoin j stTimeout (resultOf 0xFF 2 0)).settle) ∧
    (j.answered ≠ [] → exec .joinTimeout s = .next (s.finishJoin j).settle)) ∧
  (∀ (s : State) (sh : Nat) (c : Claiming), (s.shard sh).claiming = some c → c.abandoned = true →
    exec (.claimRetryTimer sh) s = .next (s.startClaim sh ((s.shard sh).highest + 1) c.work).settle) ∧
  (∀ (s : State) (p : Nat) (hundred : Bool), p < 4 → s.locked = true → s.flag .svPortCtrl_enable p = true →
    s.flag .svPortState_retired p = false → s.portGated p = false → s.mesh.reneg.contains p = false → s.clocked = true →
    let two := hundred = true ∨ s.rd .svPortState_laneRetired p ≠ 0
    (two → s.flag .svPortCtrl_allow100g p = true →
      exec (.svLinkUp { port := p, hundred }) s = .next ((s.portLink p true 1).berBegins p).settle) ∧
    (two → s.flag .svPortCtrl_allow100g p = false → exec (.svLinkUp { port := p, hundred }) s = .next s.settle) ∧
    (¬two → exec (.svLinkUp { port := p, hundred }) s = .next ((s.portLink p true 2).berBegins p).settle)) ∧
  (∀ (s : State) (p : Nat), p < 4 → s.flag .svPortState_linkUp p = true → s.clocked = true →
    exec (.svLinkDown p) s = .next (s.portLink p false 0).settle) ∧
  (∀ (s : State) (p : Nat) (cor : List Nat) (lost : Nat), p < 4 → s.flag .svPortState_linkUp p = true → s.clocked = true →
    exec (.berWindowEnd p cor lost) s = .next (((s.countSat .svPortErr_fecUncorr p lost).each 4 (fun l s =>
      if s.laneOut p l then s else s.laneWindow p l (cor.getD l 0))).berBegins p).settle) ∧
  (∀ (s : State) (p : Nat), s.mesh.reneg.contains p = true → s.clocked = true →
    let t := s.setMesh { s.mesh with reneg := s.mesh.reneg.filter (fun q => q != p) }
    let mine := s.mesh.renegFail.filter (fun e => e.1 == p && decide (s.time < e.2 + 1000000000))
    let v := s.setMesh { s.mesh with renegFail := s.mesh.renegFail.filter (fun e => e.1 != p) ++ mine ++ [(p, s.time)] }
    exec (.renegotiationDone p true) s = .next ((t.portLink p true 1).berBegins p).settle ∧
    (s.Quiet → mine.length < 2 → exec (.renegotiationDone p false) s = .next v) ∧
    (2 ≤ mine.length → exec (.renegotiationDone p false) s = .next (v.latch (0x400 + p) 1).settle))

/-! ## The Fitter (chapter 18) -/

/-- The Fitter's life (R428, R429, R445, R448, R483): its heartbeat, its end, its restarts with at most three an hour,
its return with what it missed; the policy summary; adaptation off, and on for one tenant. -/
def Obligations.FitterLife : Prop :=
  (∀ s : State, s.Quiet → s.fitterAlive = true → s.power.hold = false → s.power.trip = false →
    exec .hbOutToggle s = .next ({ s with pins := { s.pins with hbOut := !s.pins.hbOut } } : State)) ∧
  (∀ (s : State) (lockup : Bool), s.Quiet → s.fitterAlive = true →
    let t := (s.wr .fitStatus_alive 0 0).setReady readyFitter false
    exec (.livenessDeadlineMiss lockup) s =
      .next (t.setFit { t.fit with downCause := if lockup then 2 else 1, lockup, restarting := false })) ∧
  (∀ s : State, s.fitterAlive = false → s.fit.stopped = false → s.fit.restarting = false →
    s.fit.downCause ≠ 0 → s.clocked = true →
    let recent := s.fit.restartAt.filter (fun t => decide (s.time < t + 3600000000000))
    let r := ((s.countSat .fitStatus_restarts).islandBegins 82).resetFitterIsland
    (recent.length < 3 → exec .fitterRestart s = .next (r.setFit { r.fit with restartAt := recent ++ [r.time] }).settle) ∧
    (s.Quiet → 3 ≤ recent.length → exec .fitterRestart s = .next (s.setFit { s.fit with stopped := true }))) ∧
  (∀ s : State, s.fitterAlive = false → s.fit.restarting = true → s.isReady readyBoot = true → s.imagesOk 64 = true →
    s.clocked = true →
    let t := s.setErr { s.err with held := [], heldDrop := 0 }
    exec .fitterAlive s = .next (s.err.held.foldl State.coalesce
      ((State.classifyLatched 256 t.fitterRuns.nameResets).report 0x0040 0x15 4
        (s.fit.downCause + min s.err.heldDrop 65535 * 65536) repFitter)).settle) ∧
  (∀ s : State, s.fitterAlive = true →
    s.fit.promotions + s.fit.demotions + s.fit.weightChanges + s.fit.avoidances ≠ 0 →
    exec .policyInterval s =
      .next ((s.setFit { s.fit with promotions := 0, demotions := 0, weightChanges := 0, avoidances := 0 }).report 0x0606
        0x10 0 (s.fit.promotions % 65536 + s.fit.demotions % 65536 * 2 ^ 16 + s.fit.weightChanges % 65536 * 2 ^ 32
          + s.fit.avoidances % 65536 * 2 ^ 48) repFitter).settle) ∧
  (∀ (s : State) (use : List QueueUse), s.fitterAlive = true → s.flag .fitCtrl_adapt = false →
    let moved := (List.range 256).filter (fun f => s.rd .fitTenant_effective f != s.rd .fitTenant_weight f)
    exec (.adaptPeriod use) s = .next (s.weightsBack.setFit
      { s.fit with weightChanges := s.fit.weightChanges + moved.length }).settle) ∧
  (∀ (s : State) (use : QueueUse), s.fitterAlive = true → s.flag .fitCtrl_adapt = true →
    s.flag .fitStatus_settled = true →
    let w := newWeight (s.rd .fitTenant_effective 0) (s.rd .fitTenant_weight 0) (max 1 (s.rd .fitTenant_minimum 0))
      (s.rd .fitTenant_maximum 0) use false
    (w = s.rd .fitTenant_effective 0 → exec (.adaptPeriod [use]) s = .next s.settle) ∧
    (w ≠ s.rd .fitTenant_effective 0 → exec (.adaptPeriod [use]) s = .next
      ((s.wr .fitTenant_effective 0 w).setFit { s.fit with weightChanges := s.fit.weightChanges + 1 }).settle)) ∧
  (∀ s : State, s.Quiet → s.fitterAlive = true → s.flag .fitCtrl_adapt = true → s.flag .fitStatus_settled = true →
    exec (.adaptPeriod []) s = .next s)

/-- The Fitter's records (R430, R432, R438, R442, R449, R450): samples, each entering its average with weight 1/16, buckets, the retirement log, coalescing windows,
and the end of a profile switch, which completes the descriptor that asked for it. -/
def Obligations.FitterRecords : Prop :=
  (∀ (s : State) (i : Nat) (values : List Nat), s.fitterAlive = true → i < 85 → s.flag .clkIsland_running i = true →
    exec (.tapeSample { island := i, values }) s = .next (s.setFit { s.fit with
      samples := Store.modify (fun _ => 0) s.fit.samples i (fun n => min 16 (n + 1)),
      averages := Store.put (fun _ => []) s.fit.averages i
        (tapeAverages (Store.get (fun _ => []) s.fit.averages i) values) }).noteSettled.settle) ∧
  (∀ n k v : Nat, tapeAverage (some (n, k)) v = (15 * n + v * 16 ^ k, k + 1) ∧ tapeAverage none v = (v, 0)) ∧
  (∀ (s : State) (u : Nat),
    let l := 0 :: (s.bucket u).take 15
    let t := s.setBucket u (if l.all (fun x => x == 0) then [] else l)
    let aged := t.fit.rowEv.map (fun e => if e.1 = u then (e.1, e.2.1 + 1, e.2.2) else e)
    let v := t.setFit { t.fit with rowEv := aged.filter (fun e => decide (e.2.1 < 16)) }
    (¬(0x200 ≤ u ∧ u ≤ 0x22F) → exec (.bucketSliceAdvance u) s = .next v.settle) ∧
    (0x200 ≤ u → u ≤ 0x22F → exec (.bucketSliceAdvance u) s = .next (v.noteAvoid (u - 0x200)).settle)) ∧
  (∀ (s : State) (r : LogRec) (more : List LogRec), s.fit.logQueue = r :: more →
    let t := s.setFit { s.fit with logQueue := more }
    exec .retirementLogWrite s = .next (({ t with log := t.log.append r } : State).swapLog).showLog.settle) ∧
  (∀ (s : State) (origin cls : Nat) (w : ErrWindow),
    s.err.windows.find? (fun w => w.origin == origin && w.cls == cls) = some w →
    exec (.coalWindowClose origin cls) s = .next ((s.closeWindow w).forgetPlaces origin cls).settle) ∧
  (∀ s : State, s.flag .globalProfile_switching = true → s.fitterAlive = true → s.sht.draining = false →
    let p := s.rd .globalProfile_requested
    (s.flag .ddrMigrate_running = false ∨ p ≠ 2 ∧ s.fit.profPrev ≠ 2) →
    let t := (s.wr .globalProfile_active 0 p).wr .globalProfile_switching 0 0
    let u := t.each 64 (fun n s => if s.flag .clkIsland_running n then s.switchDivisor n (s.wantedDivisor n) else s)
    let v := u.each 8 (fun c s =>
      let x := s.chan c
      if x.started && x.record8000 && x.rate != s.ddrRateNow then
        s.setChan c { x with rate := s.ddrRateNow, unsettled := [(0, max 1 (Store.get (fun _ => 0) x.unsettled 0)),
                                                                 (1, max 1 (Store.get (fun _ => 0) x.unsettled 1))] }
      else s)
    let x := if s.fit.profPrev = 1 then
      (v.demoteTo 2 (v.rd .ringPoll_hotMax) 4096).demoteTo 1 (v.rd .ringPoll_warmMax) 4096 else v
    let y := x.report 0x0606 0x0D 0 (p + 4 * s.fit.profPrev) repFitter
    (y.fit.profQueue = [] → exec .profileSwitchDone s = .next y.settle) ∧
    (∀ sq cid q more, y.fit.profQueue = (sq, cid, q) :: more →
      let z := y.finish sq cid stOk s.fit.profPrev
      exec .profileSwitchDone s =
        .next (State.profNext (more.length + 1) (z.setFit { z.fit with profQueue := more })).settle))

/-- Temperature and power (R451, R452): FIT_STATUS shows each reading, and a Fitter that is not alive does no more. Each 1 ms at
or above throttle_c, ten samples in a row, takes the thermal step up by one, to three at most; 10 ms below release_c, a hundred
samples, takes it down by one; a sample between the two ends both counts. A 10 ms window above the cap takes the power step up
by one, to three at most; one below 95 % of it down by one; any other leaves it. Each change is reported. -/
def Obligations.ThermalAndPower : Prop :=
  (∀ (s : State) (c : Nat),
    let t := s.wr .fitStatus_hottestC 0 (min c 255)
    let hi := min 100 (t.rd .fitThermal_throttleC)
    let lo := if hi ≤ t.rd .fitThermal_releaseC then hi - 1 else t.rd .fitThermal_releaseC
    let step := t.rd .fitStatus_thermalStep
    let ended := t.setFit { t.fit with hotMs := 0, coolMs := 0 }
    (t.fitterAlive = false → exec (.thermalSample c) s = .next t.settle) ∧
    (t.fitterAlive = true → hi ≤ c →
      (t.fit.hotMs + 1 < 10 →
        exec (.thermalSample c) s = .next (t.setFit { t.fit with hotMs := t.fit.hotMs + 1, coolMs := 0 }).settle) ∧
      (10 ≤ t.fit.hotMs + 1 → step < 3 → exec (.thermalSample c) s = .next (ended.thermalStep (step + 1) c).settle) ∧
      (10 ≤ t.fit.hotMs + 1 → 3 ≤ step → exec (.thermalSample c) s = .next ended.settle)) ∧
    (t.fitterAlive = true → c < hi → c < lo →
      (t.fit.coolMs + 1 < 100 →
        exec (.thermalSample c) s = .next (t.setFit { t.fit with coolMs := t.fit.coolMs + 1, hotMs := 0 }).settle) ∧
      (100 ≤ t.fit.coolMs + 1 → 0 < step → exec (.thermalSample c) s = .next (ended.thermalStep (step - 1) c).settle) ∧
      (100 ≤ t.fit.coolMs + 1 → step = 0 → exec (.thermalSample c) s = .next ended.settle)) ∧
    (t.fitterAlive = true → c < hi → lo ≤ c → exec (.thermalSample c) s = .next ended.settle)) ∧
  (∀ (s : State) (w : Nat),
    let t := s.wr .fitStatus_powerW 0 (min w 4095)
    let n := t.rd .fitStatus_powerStep
    let stepped := fun (m : Nat) => ((t.wr .fitStatus_powerStep 0 m).report 0x0606 0x0F 1
      (m + w % 65536 * 65536) repFitter).settle
    (t.fitterAlive = false → exec (.powerWindow w) s = .next t.settle) ∧
    (t.fitterAlive = true → t.powerCap < w → n < 3 → exec (.powerWindow w) s = .next (stepped (n + 1))) ∧
    (t.fitterAlive = true → t.powerCap < w → 3 ≤ n → exec (.powerWindow w) s = .next t.settle) ∧
    (t.fitterAlive = true → w * 100 < t.powerCap * 95 → 0 < n → exec (.powerWindow w) s = .next (stepped (n - 1))) ∧
    (t.fitterAlive = true → w * 100 < t.powerCap * 95 → n = 0 → exec (.powerWindow w) s = .next t.settle) ∧
    (t.fitterAlive = true → w ≤ t.powerCap → t.powerCap * 95 ≤ w * 100 → exec (.powerWindow w) s = .next t.settle)) ∧
  (∀ s : State, s.powerCap = if s.rd .globalProfile_active = 3 then min 120 (max 60 (min 240 (s.rd .fitPower_capW)))
    else max 60 (min 240 (s.rd .fitPower_capW)))

/-! ## The Thimble (chapter 19) -/

/-- Boot, the watchdog, debug unlock and provisioning (R456, R461, R462, R469-R471): the active slot runs
when it verifies, else the other one, else the boot stops; an image accepted is measured, the Fitter's starts it, and
the Needles start when all three are accepted and the Fitter is alive. -/
def Obligations.BootAndLifeCycle : Prop :=
  (∀ (s : State) (active other : ImageJudge), s.thmHeld = false → s.thm.stopped = false → s.isReady readyBoot = false →
    let a := s.bootSlot
    let t := s.rejected a 1 (judgeCode s.rollback 128 active)
    (judgeCode s.rollback 128 active = 0 →
      exec (.stage1Verified active other) s = .next (s.stage1Runs a (judgeSvn active)).settle) ∧
    (judgeCode s.rollback 128 active ≠ 0 → judgeCode t.rollback 128 other = 0 →
      exec (.stage1Verified active other) s = .next (t.stage1Runs (1 - a) (judgeSvn other)).settle) ∧
    (judgeCode s.rollback 128 active ≠ 0 → judgeCode t.rollback 128 other ≠ 0 →
      let v := t.rejected (1 - a) 1 (judgeCode t.rollback 128 other)
      exec (.stage1Verified active other) s = .next (v.setThm { v.thm with stopped := true }).settle)) ∧
  (∀ (s : State) (kind : Nat) (j : ImageJudge), s.thmHeld = false → s.isReady readyBoot = true → s.isReady readyHub = true →
    2 ≤ kind → kind ≤ 4 → s.thm.judged.contains kind = false →
    let c := judgeCode s.bundle.svn s.bundle.svn j
    let t := ((s.showBundle s.bundle).judgedOk kind).measure kind
    let x := s.rejected s.bundle.slot kind c
    (c ≠ 0 → kind = 3 → exec (.imageVerified kind j) s = .next (x.setFit { x.fit with restarting := false }).settle) ∧
    (c ≠ 0 → kind ≠ 3 → exec (.imageVerified kind j) s = .next x.settle) ∧
    let u := if kind = 3 && !t.fit.restarting then t.fitterUp else t
    (c = 0 → exec (.imageVerified kind j) s = .next
      (if [2, 3, 4].all (fun k => u.thm.judged.contains k) && u.fitterAlive then u.needlesUp else u).settle)) ∧
  (∀ s : State, s.thmHeld = false →
    let t := (s.vaultWipe.resampleProg.setReady readyBoot false).setReady readyTrng false
    exec .thimbleWatchdogExpiry s =
      .next ((t.setThm { t.thm with drbg := false, stopped := false, sessions := [], rolling := none }).thmReport
        0x36 4 0).settle) ∧
  (∀ s : State, s.thmHeld = false → s.isReady readyBoot = true → s.lifeState = lcProvisioned →
    s.flag .thmLc_debugOpen = false →
    exec (.debugUnlock true) s = .next (s.vaultWipe.wr .thmLc_debugOpen 0 1).settle) ∧
  (∀ s : State, s.Quiet → exec (.debugUnlock false) s = .next s) ∧
  (∀ s : State, s.thmHeld = false → s.lifeState = lcBlank → s.thm.drbg = true →
    exec .jtagProvisionRequest s = .next ((s.freshBytes 32).2.lcTransition lcProvisioned 0
      (fun t => t.programItem fuSeed 6 (s.freshBytes 32).1)).settle)

/-- The random source and tampering (R459, R462, R467-R469): start-up makes the source ready, and a stage 1 that runs unseals the
keys; a failed health test takes
it away and is reported, the third in a minute for good; reseeds are counted; a tamper trip destroys the keys, takes a
fuse word, is shown, counted, reported and measured. -/
def Obligations.RandomAndTamper : Prop :=
  (∀ s : State, s.thmHeld = false → s.power.rootLock = true → s.power.hold = false → s.thm.trngDead = false →
    s.isReady readyTrng = false →
    let t := (s.setThm { s.thm with drbg := true }).setReady readyTrng true
    (t.isReady readyBoot = true → exec .trngStartupDone s = .next t.unseal.settle) ∧
    (t.isReady readyBoot = true → s.thm.sealed = none → s.vault.sealedCur = true →
      exec .trngStartupDone s = .next t.placeKeys.settle) ∧
    (t.isReady readyBoot = false → exec .trngStartupDone s = .next t.settle)) ∧
  (∀ (s : State) (adaptive : Bool), s.thmHeld = false → s.power.rootLock = true → s.thm.trngDead = false →
    let t := s.countSat (if adaptive then .thmTrng_aptFail else .thmTrng_rctFail)
    let l := t.thm.trngFails.filter (fun x => decide (t.time < x + 60000000000)) ++ [t.time]
    exec (.trngHealthFail adaptive) s =
      .next (((t.setThm { t.thm with drbg := false, trngFails := l, trngDead := decide (3 ≤ l.length) }).setReady readyTrng
        false).thmReport 0x33 3 (b2n adaptive + min l.length 255 * 256)).settle) ∧
  (∀ s : State, s.Quiet → s.thm.drbg = true → exec .drbgReseed s = .next (s.count .thmTrng_reseeds)) ∧
  (∀ (s : State) (sensor celsius : Nat), s.power.porActive = false → s.sensorOn sensor = true →
    let t := s.keyDestruction
    let word := 2 ^ sensor + t.thm.coldCount % 65536 * 2 ^ 16 + celsius % 65536 * 2 ^ 32
    (∀ i, t.nextFuse fuTamper 16 = some i → exec (.tamperTrip sensor celsius) s =
      .next (((((t.programFuse i word).wr .thmTamperStat_last 0 (2 ^ sensor)).countSat .thmTamperStat_count).thmReport 0x32 4
        (2 ^ sensor + (i - fuTamper) * 2 ^ 16)).measure 5).settle) ∧
    (t.nextFuse fuTamper 16 = none → exec (.tamperTrip sensor celsius) s =
      .next ((((t.wr .thmTamperStat_last 0 (2 ^ sensor)).countSat .thmTamperStat_count).thmReport 0x32 4
        (2 ^ sensor + 15 * 2 ^ 16)).measure 5).settle))

/-- SPDM and vendor requests (R456, R463, R466): the Thimble answers; what changes the part needs a
secured session authenticated by the owner. -/
def Obligations.SpdmAndVendor : Prop :=
  (∀ s : State, s.thmHeld = false → s.isReady readyBoot = true →
    (∀ i, 1 ≤ i → i ≤ 8 → exec (.spdmRequest (.getMeasurement i)) s =
      .next (s.signed.2.answer (.measurement i (s.digestOf i) s.signed.1)).settle) ∧
    (∀ k, k < 8 → exec (.spdmRequest (.getCertificate k)) s =
      .next (s.answer (.certificate k (s.norBytes (certBase k) 0x2000))).settle) ∧
    (∀ k chain v, s.vendorOk v = false →
      exec (.spdmRequest (.setCertificate k chain v)) s = .next (s.answer .unsupported).settle) ∧
    (∀ n, exec (.spdmRequest (.challenge n)) s = .next (s.signed.2.answer (.signed s.signed.1)).settle)) ∧
  (∀ (s : State) (v : VendorAuth) (off : Nat) (data : List Byte), s.thmHeld = false →
    s.isReady readyBoot = true → data.length ≤ 4096 → off + data.length ≤ 0x800000 →
    (s.vendorOk v = true → exec (.fwWrite v off data) s =
      .next ((s.norWrite (bundleBase (1 - s.bundle.slot) + off) data).answer .ok).settle) ∧
    (s.vendorOk v = false → exec (.fwWrite v off data) s = .next (s.answer .unsupported).settle)) ∧
  (∀ (s : State) (v : VendorAuth) (j : ImageJudge), judgeCode s.rollback 128 j = 0 →
    s.thmHeld = false → s.isReady readyBoot = true → s.vendorOk v = true →
    exec (.fwActivate v j) s = .next (s.rollTo (1 - s.bundle.slot) (judgeSvn j) 2).settle) ∧
  (∀ (s : State) (v : VendorAuth), s.thmHeld = false → s.isReady readyBoot = true →
    s.vendorOk v = true → s.bundle.trial = 1 → s.thm.rolling = none →
    exec (.fwRevert v) s = .next (s.rollTo (1 - s.bundle.slot) s.thm.oldSvn 4).settle ∧
    (s.bundle.svn ≤ s.rollback → exec (.fwCommit v) s =
      .next (((((s.writeBoot s.bundle.slot 0).showBundle { s.bundle with trial := 0 }).thmReport 0x31 0
        (3 + s.bundle.svn * 256)).measure 5).answer .ok).settle)) ∧
  (∀ (s : State) (v : VendorAuth) (key : List Byte) (number : W32), s.thmHeld = false → s.isReady readyBoot = true →
    s.vendorOk v = true → key.length = 32 →
    s.lifeState ≠ lcRetired →
    let t := ((s.setThm { s.thm with sealed := some (key, number.toNat, s.sealEpoch) }).setMesh
      { s.mesh with key := some (key, number.toNat) }).sealRecord 2 number.toNat key
    exec (.meshKeyInstall v key number) s = .next ((t.thmReport 0x37 0 number.toNat).answer .ok).settle) ∧
  (∀ (s : State) (v : VendorAuth), s.thmHeld = false → s.isReady readyBoot = true →
    s.vendorOk v = true → s.lifeState = lcDeployed → v.owner = true →
    exec (.lcRetire v) s = .next ((s.lcTransition lcRetired 0 (fun s => s)).answer .ok).settle)
end

