-- ==== Sys2Proof/Laws/Store.lean ====
section
/-! SUPPORT. Stores: what a read gives after a write, and that every operation keeps the canonical form. -/

namespace Sys2Proof.Machine.Store

variable {α : Type} [DecidableEq α] {d : Nat → α}

theorem wfFrom_none_of (lo : Option Nat) (m : List (Nat × α)) (h : wfFrom d lo m = true) : wf d m = true := by
  cases m with
  | nil => rfl
  | cons e m =>
    obtain ⟨a, v⟩ := e
    simp only [wf, wfFrom, Bool.and_eq_true] at h ⊢
    exact ⟨⟨trivial, h.1.2⟩, h.2⟩

theorem wfFrom_tail {lo : Option Nat} {a : Nat} {v : α} {m : List (Nat × α)} (h : wfFrom d lo ((a, v) :: m) = true) :
    wfFrom d (some a) m = true := by
  simp only [wfFrom, Bool.and_eq_true] at h
  exact h.2

theorem wfFrom_lower {l l' : Nat} {m : List (Nat × α)} (hl : l' ≤ l) (h : wfFrom d (some l) m = true) :
    wfFrom d (some l') m = true := by
  cases m with
  | nil => rfl
  | cons e m =>
    obtain ⟨a, v⟩ := e
    simp only [wfFrom, Bool.and_eq_true, decide_eq_true_eq] at h ⊢
    exact ⟨⟨by omega, h.1.2⟩, h.2⟩

theorem wfFrom_of_ge {l c : Nat} (hl : l < c) {m : List (Nat × α)} (h : wf d m = true) (hm : ∀ e ∈ m, c ≤ e.1) :
    wfFrom d (some l) m = true := by
  cases m with
  | nil => rfl
  | cons e m =>
    obtain ⟨a, v⟩ := e
    have := hm (a, v) (by simp)
    simp only [wf, wfFrom, Bool.and_eq_true, decide_eq_true_eq] at h ⊢
    exact ⟨⟨by omega, h.1.2⟩, h.2⟩

/-- Canonical stores, the first below `c` and the second from `c` on, stand one after the other. -/
theorem append_wfFrom {c : Nat} {b : List (Nat × α)} (hb : wf d b = true) (hc : ∀ e ∈ b, c ≤ e.1) :
    ∀ (a : List (Nat × α)) (lo : Option Nat), (∀ e ∈ a, e.1 < c) → (∀ l, lo = some l → l < c) →
      wfFrom d lo a = true → wfFrom d lo (a ++ b) = true := by
  intro a
  induction a with
  | nil =>
    intro lo _ hlo _
    cases lo with
    | none => exact hb
    | some l => exact wfFrom_of_ge (hlo l rfl) hb hc
  | cons e a ih =>
    obtain ⟨k, v⟩ := e
    intro lo ha _ h
    have hk := ha (k, v) (by simp)
    have ht := ih (some k) (fun e he => ha e (by simp [he])) (by intro l hl; cases hl; exact hk) (wfFrom_tail h)
    simp only [List.cons_append, wfFrom, Bool.and_eq_true] at h ⊢
    exact ⟨h.1, ht⟩

theorem append_wf {c : Nat} {a b : List (Nat × α)} (ha : wf d a = true) (hb : wf d b = true) (hac : ∀ e ∈ a, e.1 < c)
    (hbc : ∀ e ∈ b, c ≤ e.1) : wf d (a ++ b) = true :=
  append_wfFrom hb hbc a none hac (by intro l hl; cases hl) ha

/-- A key at or below the bound of a canonical store reads as its default. -/
theorem get_below {l k : Nat} (hk : k ≤ l) : ∀ (m : List (Nat × α)), wfFrom d (some l) m = true → get d m k = d k := by
  intro m
  induction m generalizing l with
  | nil => intro; rfl
  | cons e m ih =>
    obtain ⟨a, v⟩ := e
    intro h
    have ht := wfFrom_tail h
    simp only [wfFrom, Bool.and_eq_true, decide_eq_true_eq] at h
    have hne : a ≠ k := by omega
    simp only [get, hne, if_false]
    exact ih (l := a) (by omega) ht

theorem insert_wfFrom {k : Nat} {v : α} (hv : v ≠ d k) : ∀ (m : List (Nat × α)) (lo : Option Nat),
    (∀ l, lo = some l → l < k) → wfFrom d lo m = true → wfFrom d lo (insert m k v) = true := by
  intro m
  induction m with
  | nil =>
    intro lo hlo _
    cases lo with
    | none => simp [insert, wfFrom, hv]
    | some l => simp [insert, wfFrom, hv, hlo l rfl]
  | cons e m ih =>
    obtain ⟨a, w⟩ := e
    intro lo hlo h
    have ht := wfFrom_tail h
    simp only [insert]
    by_cases h1 : k < a
    · simp only [h1, if_true]
      simp only [wfFrom, Bool.and_eq_true, decide_eq_true_eq] at h ⊢
      cases lo with
      | none => exact ⟨⟨rfl, hv⟩, ⟨h1, h.1.2⟩, h.2⟩
      | some l => exact ⟨⟨by simpa using hlo l rfl, hv⟩, ⟨h1, h.1.2⟩, h.2⟩
    · by_cases h2 : k = a
      · subst h2
        simp only [lt_irrefl, if_false, if_true]
        simp only [wfFrom, Bool.and_eq_true, decide_eq_true_eq] at h ⊢
        exact ⟨⟨h.1.1, hv⟩, h.2⟩
      · simp only [h1, h2, if_false]
        have hrec := ih (some a) (by intro l hl; cases hl; omega) ht
        simp only [wfFrom, Bool.and_eq_true] at h ⊢
        exact ⟨h.1, hrec⟩

theorem filter_wfFrom (p : Nat × α → Bool) : ∀ (m : List (Nat × α)) (lo : Option Nat), wfFrom d lo m = true →
    wfFrom d lo (m.filter p) = true := by
  intro m
  induction m with
  | nil => intro lo h; exact h
  | cons e m ih =>
    obtain ⟨a, v⟩ := e
    intro lo h
    have ht := wfFrom_tail h
    simp only [List.filter_cons]
    split
    · have hr := ih (some a) ht
      simp only [wfFrom, Bool.and_eq_true] at h ⊢
      exact ⟨h.1, hr⟩
    · cases lo with
      | none => exact wfFrom_none_of _ _ (ih (some a) ht)
      | some l =>
        have hl : l < a := by
          simp only [wfFrom, Bool.and_eq_true, decide_eq_true_eq] at h
          exact h.1.1
        exact wfFrom_lower (Nat.le_of_lt hl) (ih (some a) ht)

/-- Forgetting entries keeps the canonical form. -/
theorem filter_wf (p : Nat × α → Bool) {m : List (Nat × α)} (h : wf d m = true) : wf d (m.filter p) = true :=
  filter_wfFrom p m none h

/-- A write keeps the canonical form. -/
theorem put_wf {k : Nat} {v : α} {m : List (Nat × α)} (h : wf d m = true) : wf d (put d m k v) = true := by
  unfold put
  split
  · exact filter_wf _ h
  · rename_i hv
    exact insert_wfFrom hv m none (by intro l hl; cases hl) h

theorem putAll_wf : ∀ (vs : List α) (m : List (Nat × α)) (k : Nat), wf d m = true → wf d (putAll d m k vs) = true := by
  intro vs
  induction vs with
  | nil => intro m k h; exact h
  | cons v vs ih => intro m k h; exact ih _ _ (put_wf h)

omit [DecidableEq α] in
theorem mem_insert {k : Nat} {v : α} {e : Nat × α} : ∀ (m : List (Nat × α)), e ∈ insert m k v → e.1 = k ∨ e ∈ m := by
  intro m
  induction m with
  | nil => intro h; simp only [insert, List.mem_singleton] at h; exact .inl (by rw [h])
  | cons x m ih =>
    obtain ⟨a, w⟩ := x
    intro h
    simp only [insert] at h
    split at h
    · rcases List.mem_cons.1 h with h | h
      · exact .inl (by rw [h])
      · exact .inr h
    · split at h
      · rcases List.mem_cons.1 h with h | h
        · exact .inl (by rw [h])
        · exact .inr (by simp [h])
      · rcases List.mem_cons.1 h with h | h
        · exact .inr (by simp [h])
        · rcases ih h with h | h
          · exact .inl h
          · exact .inr (by simp [h])

theorem mem_put {k : Nat} {v : α} {e : Nat × α} {m : List (Nat × α)} (h : e ∈ put d m k v) : e.1 = k ∨ e ∈ m := by
  unfold put at h
  split at h
  · exact .inr (List.mem_filter.1 h).1
  · exact mem_insert m h

/-- Writing a run adds entries at the keys of the run alone. -/
theorem mem_putAll {e : Nat × α} : ∀ (vs : List α) (m : List (Nat × α)) (k : Nat), e ∈ putAll d m k vs →
    (k ≤ e.1 ∧ e.1 < k + vs.length) ∨ e ∈ m := by
  intro vs
  induction vs with
  | nil => intro m k h; exact .inr h
  | cons v vs ih =>
    intro m k h
    rw [List.length_cons]
    rcases ih _ _ h with h | h
    · exact .inl (by omega)
    · rcases mem_put h with h | h
      · exact .inl (by omega)
      · exact .inr h

/-- A run written over its own entries keeps the canonical form. -/
theorem putRun_wf (vs : List α) {m : List (Nat × α)} (k : Nat) (h : wf d m = true) : wf d (putRun d m k vs) = true := by
  have hin : ∀ e ∈ putAll d (window m k vs.length) k vs, k ≤ e.1 ∧ e.1 < k + vs.length := by
    intro e he
    rcases mem_putAll _ _ _ he with h | h
    · exact h
    · simpa [window] using (List.mem_filter.1 h).2
  refine append_wf (c := k) (filter_wf _ h) (append_wf (c := k + vs.length) (putAll_wf _ _ _ (filter_wf _ h)) (filter_wf _ h)
    (fun e he => (hin e he).2) (fun e he => by simpa using (List.mem_filter.1 he).2))
    (fun e he => by simpa using (List.mem_filter.1 he).2) ?_
  intro e he
  rcases List.mem_append.1 he with he | he
  · exact (hin e he).1
  · have := (List.mem_filter.1 he).2
    simp only [decide_eq_true_eq] at this
    omega

theorem modify_wf {k : Nat} {f : α → α} {m : List (Nat × α)} (h : wf d m = true) : wf d (modify d m k f) = true :=
  put_wf h

omit [DecidableEq α] in
theorem get_filter {k j : Nat} : ∀ (m : List (Nat × α)),
    get d (m.filter (fun e => e.1 != k)) j = if j = k then d k else get d m j := by
  intro m
  induction m with
  | nil => simp only [List.filter_nil, get]; split <;> simp_all
  | cons e m ih =>
    obtain ⟨a, w⟩ := e
    simp only [List.filter_cons]
    by_cases ha : a = k
    · subst ha
      simp only [bne_self_eq_false, Bool.false_eq_true, if_false, ih, get]
      by_cases hj : j = a
      · simp [hj]
      · have : a ≠ j := fun e => hj e.symm
        simp [hj, this]
    · have hb : (a != k) = true := by simpa using ha
      simp only [hb, if_true, get, ih]
      by_cases hj : a = j
      · subst hj; simp [ha]
      · simp [hj]

omit [DecidableEq α] in
theorem get_insert {k j : Nat} {v : α} : ∀ (m : List (Nat × α)),
    get d (insert m k v) j = if j = k then v else get d m j := by
  intro m
  induction m with
  | nil =>
    simp only [insert, get]
    by_cases hj : k = j
    · simp [hj]
    · have : ¬ j = k := fun e => hj e.symm
      simp [hj, this]
  | cons e m ih =>
    obtain ⟨a, w⟩ := e
    simp only [insert]
    by_cases h1 : k < a
    · simp only [h1, if_true, get]
      by_cases hj : k = j
      · simp [hj]
      · have : ¬ j = k := fun e => hj e.symm
        simp [hj, this]
    · by_cases h2 : k = a
      · subst h2
        simp only [lt_irrefl, if_false, if_true, get]
        by_cases hj : k = j
        · simp [hj]
        · have : ¬ j = k := fun e => hj e.symm
          simp [hj, this]
      · simp only [h1, h2, if_false, get, ih]
        by_cases ha : a = j
        · subst ha
          have : ¬ a = k := fun e => h2 e.symm
          simp [this]
        · simp [ha]

/-- A read after a write: the value at the key written, else what was there. -/
theorem get_put {k j : Nat} {v : α} (m : List (Nat × α)) :
    get d (put d m k v) j = if j = k then v else get d m j := by
  unfold put
  split
  · rename_i hv; rw [get_filter, hv]
  · exact get_insert m

@[simp] theorem get_put_self {k : Nat} {v : α} (m : List (Nat × α)) : get d (put d m k v) k = v := by
  rw [get_put]; simp

theorem get_put_ne {k j : Nat} {v : α} (m : List (Nat × α)) (hj : j ≠ k) :
    get d (put d m k v) j = get d m j := by
  rw [get_put]; simp [hj]

/-- Bytes outside a run written stay. -/
theorem get_putAll_ne : ∀ (vs : List α) (m : List (Nat × α)) (k j : Nat),
    (j < k ∨ k + vs.length ≤ j) → get d (putAll d m k vs) j = get d m j := by
  intro vs
  induction vs with
  | nil => intro m k j _; rfl
  | cons v vs ih =>
    intro m k j hj
    simp only [List.length_cons] at hj
    simp only [putAll]
    rw [ih _ _ _ (by omega), get_put_ne _ (by omega)]

/-- A byte of a run written. -/
theorem get_putAll_in : ∀ (vs : List α) (m : List (Nat × α)) (k i : Nat), (hi : i < vs.length) →
    get d (putAll d m k vs) (k + i) = vs[i] := by
  intro vs
  induction vs with
  | nil => intro m k i hi; simp at hi
  | cons v vs ih =>
    intro m k i hi
    simp only [putAll]
    cases i with
    | zero => rw [get_putAll_ne _ _ _ _ (by omega)]; simp
    | succ i =>
      have := ih (put d m k v) (k + 1) i (by simpa using hi)
      simpa [Nat.add_assoc, Nat.add_comm 1 i] using this

theorem filter_below {l k : Nat} (hk : k ≤ l) : ∀ (m : List (Nat × α)), wfFrom d (some l) m = true →
    m.filter (fun e => e.1 != k) = m := by
  intro m
  induction m generalizing l with
  | nil => intro; rfl
  | cons e m ih =>
    obtain ⟨a, v⟩ := e
    intro h
    have ht := wfFrom_tail h
    simp only [wfFrom, Bool.and_eq_true, decide_eq_true_eq] at h
    have hne : (a != k) = true := by simp; omega
    rw [List.filter_cons, if_pos hne, ih (l := a) (by omega) ht]

theorem put_get_from {k : Nat} : ∀ (m : List (Nat × α)) (lo : Option Nat), (∀ l, lo = some l → l < k) →
    wfFrom d lo m = true → put d m k (get d m k) = m := by
  intro m
  induction m with
  | nil => intro lo _ _; simp [put, get]
  | cons e m ih =>
    obtain ⟨a, w⟩ := e
    intro lo hlo h
    have ht := wfFrom_tail h
    have hw : w ≠ d a := by
      simp only [wfFrom, Bool.and_eq_true, decide_eq_true_eq] at h
      exact h.1.2
    by_cases h1 : a = k
    · subst h1
      simp [put, get, insert, hw]
    · have hget : get d ((a, w) :: m) k = get d m k := by simp [get, h1]
      rw [hget]
      by_cases h2 : k < a
      · have hg : get d m k = d k := get_below (Nat.le_of_lt h2) m ht
        have hb : (a != k) = true := by simpa using h1
        rw [hg]
        simp only [put, if_true]
        rw [List.filter_cons, if_pos hb, filter_below (Nat.le_of_lt h2) m ht]
      · have hr := ih (some a) (by intro l hl; cases hl; omega) ht
        have h3 : ¬ k = a := fun e => h1 e.symm
        have hb : (a != k) = true := by simpa using h1
        unfold put at hr ⊢
        by_cases hd : get d m k = d k
        · simp only [hd, if_true] at hr ⊢
          rw [List.filter_cons, if_pos hb, hr]
        · simp only [hd, if_false] at hr ⊢
          simp only [insert, h2, h3, if_false, hr]

/-- Writing what is there changes nothing. -/
theorem put_get {k : Nat} {m : List (Nat × α)} (h : wf d m = true) : put d m k (get d m k) = m :=
  put_get_from m none (by intro l hl; cases hl) h

end Sys2Proof.Machine.Store
end

