-- ==== Sys2Proof/Laws/Regs.lean ====
section
/-! SUPPORT. Register fields: a field keeps what is written to it, cut to its width, and no other field changes. -/

namespace Sys2Proof.Machine

open Sys2Proof

theorem fldAll_ctorIdx (f : Fld) : fldAll[f.ctorIdx]? = some f := by
  cases f <;> rfl

theorem ctorIdx_inj {f g : Fld} (h : f.ctorIdx = g.ctorIdx) : f = g := by
  have hf := fldAll_ctorIdx f
  rw [h, fldAll_ctorIdx g] at hf
  exact (Option.some.inj hf).symm

theorem key_fld {f g : Fld} {i j : Nat} (h : f.key i = g.key j) : f = g := by
  unfold Fld.key at h
  exact ctorIdx_inj (by omega)

theorem key_inj {f g : Fld} {i j : Nat} (hi : i < 65536) (hj : j < 65536) (h : f.key i = g.key j) : f = g ∧ i = j := by
  refine ⟨key_fld h, ?_⟩
  have := key_fld h
  subst this
  unfold Fld.key at h
  omega

theorem wr_regsWf {s : State} {f : Fld} {i v : Nat} (h : Store.wf (regDefault s.part) s.regs = true) :
    Store.wf (regDefault (s.wr f i v).part) (s.wr f i v).regs = true := Store.put_wf h

@[simp] theorem wr_part (s : State) (f : Fld) (i v : Nat) : (s.wr f i v).part = s.part := rfl

/-- The field written. -/
@[simp] theorem rd_wr_same (s : State) (f : Fld) (i v : Nat) : (s.wr f i v).rd f i = v % 2 ^ f.spec.width :=
  Store.get_put_self _

/-- Every other field. -/
theorem rd_wr_other (s : State) {f g : Fld} {i j : Nat} (v : Nat) (hi : i < 65536) (hj : j < 65536)
    (hne : ¬(g = f ∧ j = i)) : (s.wr f i v).rd g j = s.rd g j := by
  refine Store.get_put_ne _ ?_
  intro hk
  exact hne (key_inj hj hi hk)

/-- Every element of every other field. -/
theorem rd_wr_ne (s : State) {f g : Fld} {i j : Nat} (v : Nat) (hne : g ≠ f) : (s.wr f i v).rd g j = s.rd g j := by
  refine Store.get_put_ne _ ?_
  intro hk
  exact hne (key_fld hk)

/-- Both together. -/
theorem rd_wr (s : State) {f g : Fld} {i j : Nat} (v : Nat) (hi : i < 65536) (hj : j < 65536) :
    (s.wr f i v).rd g j = if g = f ∧ j = i then v % 2 ^ f.spec.width else s.rd g j := by
  split
  · rename_i he; obtain ⟨rfl, rfl⟩ := he; exact rd_wr_same s g j v
  · rename_i he; exact rd_wr_other s v hi hj he

/-- Writing what a field holds changes nothing. -/
theorem wr_rd {s : State} (h : Store.wf (regDefault s.part) s.regs = true) (f : Fld) (i : Nat)
    (hw : s.rd f i < 2 ^ f.spec.width) : s.wr f i (s.rd f i) = s := by
  unfold State.wr
  rw [Nat.mod_eq_of_lt hw]
  unfold State.rd
  rw [Store.put_get h]

end Sys2Proof.Machine
end

