-- ==== Sys2Proof/Laws/State.lean ====
section
/-! SUPPORT. One lemma per field of State and per update: what an update changes and what it leaves. -/

namespace Sys2Proof.Machine

open Sys2Proof

variable (s : State)

/-! ## State.wr -/

@[simp] theorem wr_pending (f : Fld) (i v : Nat) : (s.wr f i v).pending = s.pending := rfl
@[simp] theorem wr_time (f : Fld) (i v : Nat) : (s.wr f i v).time = s.time := rfl
@[simp] theorem wr_freeCtr (f : Fld) (i v : Nat) : (s.wr f i v).freeCtr = s.freeCtr := rfl
@[simp] theorem wr_power (f : Fld) (i v : Nat) : (s.wr f i v).power = s.power := rfl
@[simp] theorem wr_pins (f : Fld) (i v : Nat) : (s.wr f i v).pins = s.pins := rfl
@[simp] theorem wr_pcie (f : Fld) (i v : Nat) : (s.wr f i v).pcie = s.pcie := rfl
@[simp] theorem wr_host (f : Fld) (i v : Nat) : (s.wr f i v).host = s.host := rfl
@[simp] theorem wr_rings (f : Fld) (i v : Nat) : (s.wr f i v).rings = s.rings := rfl
@[simp] theorem wr_err (f : Fld) (i v : Nat) : (s.wr f i v).err = s.err := rfl
@[simp] theorem wr_fit (f : Fld) (i v : Nat) : (s.wr f i v).fit = s.fit := rfl
@[simp] theorem wr_log (f : Fld) (i v : Nat) : (s.wr f i v).log = s.log := rfl
@[simp] theorem wr_vault (f : Fld) (i v : Nat) : (s.wr f i v).vault = s.vault := rfl
@[simp] theorem wr_mesh (f : Fld) (i v : Nat) : (s.wr f i v).mesh = s.mesh := rfl
@[simp] theorem wr_bolt (f : Fld) (i v : Nat) : (s.wr f i v).bolt = s.bolt := rfl
@[simp] theorem wr_ddr (f : Fld) (i v : Nat) : (s.wr f i v).ddr = s.ddr := rfl
@[simp] theorem wr_hub (f : Fld) (i v : Nat) : (s.wr f i v).hub = s.hub := rfl
@[simp] theorem wr_tack (f : Fld) (i v : Nat) : (s.wr f i v).tack = s.tack := rfl
@[simp] theorem wr_sht (f : Fld) (i v : Nat) : (s.wr f i v).sht = s.sht := rfl
@[simp] theorem wr_thm (f : Fld) (i v : Nat) : (s.wr f i v).thm = s.thm := rfl
@[simp] theorem wr_ndl (f : Fld) (i v : Nat) : (s.wr f i v).ndl = s.ndl := rfl

/-! ## State.setFit -/

@[simp] theorem setFit_pending (x : FitState) : (s.setFit x).pending = s.pending := rfl
@[simp] theorem setFit_part (x : FitState) : (s.setFit x).part = s.part := rfl
@[simp] theorem setFit_time (x : FitState) : (s.setFit x).time = s.time := rfl
@[simp] theorem setFit_freeCtr (x : FitState) : (s.setFit x).freeCtr = s.freeCtr := rfl
@[simp] theorem setFit_regs (x : FitState) : (s.setFit x).regs = s.regs := rfl
@[simp] theorem setFit_power (x : FitState) : (s.setFit x).power = s.power := rfl
@[simp] theorem setFit_pins (x : FitState) : (s.setFit x).pins = s.pins := rfl
@[simp] theorem setFit_pcie (x : FitState) : (s.setFit x).pcie = s.pcie := rfl
@[simp] theorem setFit_host (x : FitState) : (s.setFit x).host = s.host := rfl
@[simp] theorem setFit_rings (x : FitState) : (s.setFit x).rings = s.rings := rfl
@[simp] theorem setFit_err (x : FitState) : (s.setFit x).err = s.err := rfl
@[simp] theorem setFit_fit (x : FitState) : (s.setFit x).fit = x := rfl
@[simp] theorem setFit_log (x : FitState) : (s.setFit x).log = s.log := rfl
@[simp] theorem setFit_vault (x : FitState) : (s.setFit x).vault = s.vault := rfl
@[simp] theorem setFit_mesh (x : FitState) : (s.setFit x).mesh = s.mesh := rfl
@[simp] theorem setFit_bolt (x : FitState) : (s.setFit x).bolt = s.bolt := rfl
@[simp] theorem setFit_ddr (x : FitState) : (s.setFit x).ddr = s.ddr := rfl
@[simp] theorem setFit_hub (x : FitState) : (s.setFit x).hub = s.hub := rfl
@[simp] theorem setFit_tack (x : FitState) : (s.setFit x).tack = s.tack := rfl
@[simp] theorem setFit_sht (x : FitState) : (s.setFit x).sht = s.sht := rfl
@[simp] theorem setFit_thm (x : FitState) : (s.setFit x).thm = s.thm := rfl
@[simp] theorem setFit_ndl (x : FitState) : (s.setFit x).ndl = s.ndl := rfl
@[simp] theorem setFit_rd (x : FitState) (g : Fld) (j : Nat) : (s.setFit x).rd g j = s.rd g j := rfl
@[simp] theorem setFit_flag (x : FitState) (g : Fld) (j : Nat) : (s.setFit x).flag g j = s.flag g j := rfl

/-! ## State.setThm -/

@[simp] theorem setThm_pending (x : Thm) : (s.setThm x).pending = s.pending := rfl
@[simp] theorem setThm_part (x : Thm) : (s.setThm x).part = s.part := rfl
@[simp] theorem setThm_time (x : Thm) : (s.setThm x).time = s.time := rfl
@[simp] theorem setThm_freeCtr (x : Thm) : (s.setThm x).freeCtr = s.freeCtr := rfl
@[simp] theorem setThm_regs (x : Thm) : (s.setThm x).regs = s.regs := rfl
@[simp] theorem setThm_power (x : Thm) : (s.setThm x).power = s.power := rfl
@[simp] theorem setThm_pins (x : Thm) : (s.setThm x).pins = s.pins := rfl
@[simp] theorem setThm_pcie (x : Thm) : (s.setThm x).pcie = s.pcie := rfl
@[simp] theorem setThm_host (x : Thm) : (s.setThm x).host = s.host := rfl
@[simp] theorem setThm_rings (x : Thm) : (s.setThm x).rings = s.rings := rfl
@[simp] theorem setThm_err (x : Thm) : (s.setThm x).err = s.err := rfl
@[simp] theorem setThm_fit (x : Thm) : (s.setThm x).fit = s.fit := rfl
@[simp] theorem setThm_log (x : Thm) : (s.setThm x).log = s.log := rfl
@[simp] theorem setThm_vault (x : Thm) : (s.setThm x).vault = s.vault := rfl
@[simp] theorem setThm_mesh (x : Thm) : (s.setThm x).mesh = s.mesh := rfl
@[simp] theorem setThm_bolt (x : Thm) : (s.setThm x).bolt = s.bolt := rfl
@[simp] theorem setThm_ddr (x : Thm) : (s.setThm x).ddr = s.ddr := rfl
@[simp] theorem setThm_hub (x : Thm) : (s.setThm x).hub = s.hub := rfl
@[simp] theorem setThm_tack (x : Thm) : (s.setThm x).tack = s.tack := rfl
@[simp] theorem setThm_sht (x : Thm) : (s.setThm x).sht = s.sht := rfl
@[simp] theorem setThm_thm (x : Thm) : (s.setThm x).thm = x := rfl
@[simp] theorem setThm_ndl (x : Thm) : (s.setThm x).ndl = s.ndl := rfl
@[simp] theorem setThm_rd (x : Thm) (g : Fld) (j : Nat) : (s.setThm x).rd g j = s.rd g j := rfl
@[simp] theorem setThm_flag (x : Thm) (g : Fld) (j : Nat) : (s.setThm x).flag g j = s.flag g j := rfl

/-! ## State.setHub -/

@[simp] theorem setHub_pending (x : Hub) : (s.setHub x).pending = s.pending := rfl
@[simp] theorem setHub_part (x : Hub) : (s.setHub x).part = s.part := rfl
@[simp] theorem setHub_time (x : Hub) : (s.setHub x).time = s.time := rfl
@[simp] theorem setHub_freeCtr (x : Hub) : (s.setHub x).freeCtr = s.freeCtr := rfl
@[simp] theorem setHub_regs (x : Hub) : (s.setHub x).regs = s.regs := rfl
@[simp] theorem setHub_power (x : Hub) : (s.setHub x).power = s.power := rfl
@[simp] theorem setHub_pins (x : Hub) : (s.setHub x).pins = s.pins := rfl
@[simp] theorem setHub_pcie (x : Hub) : (s.setHub x).pcie = s.pcie := rfl
@[simp] theorem setHub_host (x : Hub) : (s.setHub x).host = s.host := rfl
@[simp] theorem setHub_rings (x : Hub) : (s.setHub x).rings = s.rings := rfl
@[simp] theorem setHub_err (x : Hub) : (s.setHub x).err = s.err := rfl
@[simp] theorem setHub_fit (x : Hub) : (s.setHub x).fit = s.fit := rfl
@[simp] theorem setHub_log (x : Hub) : (s.setHub x).log = s.log := rfl
@[simp] theorem setHub_vault (x : Hub) : (s.setHub x).vault = s.vault := rfl
@[simp] theorem setHub_mesh (x : Hub) : (s.setHub x).mesh = s.mesh := rfl
@[simp] theorem setHub_bolt (x : Hub) : (s.setHub x).bolt = s.bolt := rfl
@[simp] theorem setHub_ddr (x : Hub) : (s.setHub x).ddr = s.ddr := rfl
@[simp] theorem setHub_hub (x : Hub) : (s.setHub x).hub = x := rfl
@[simp] theorem setHub_tack (x : Hub) : (s.setHub x).tack = s.tack := rfl
@[simp] theorem setHub_sht (x : Hub) : (s.setHub x).sht = s.sht := rfl
@[simp] theorem setHub_thm (x : Hub) : (s.setHub x).thm = s.thm := rfl
@[simp] theorem setHub_ndl (x : Hub) : (s.setHub x).ndl = s.ndl := rfl
@[simp] theorem setHub_rd (x : Hub) (g : Fld) (j : Nat) : (s.setHub x).rd g j = s.rd g j := rfl
@[simp] theorem setHub_flag (x : Hub) (g : Fld) (j : Nat) : (s.setHub x).flag g j = s.flag g j := rfl

/-! ## State.setBolt -/

@[simp] theorem setBolt_pending (x : Bolt) : (s.setBolt x).pending = s.pending := rfl
@[simp] theorem setBolt_part (x : Bolt) : (s.setBolt x).part = s.part := rfl
@[simp] theorem setBolt_time (x : Bolt) : (s.setBolt x).time = s.time := rfl
@[simp] theorem setBolt_freeCtr (x : Bolt) : (s.setBolt x).freeCtr = s.freeCtr := rfl
@[simp] theorem setBolt_regs (x : Bolt) : (s.setBolt x).regs = s.regs := rfl
@[simp] theorem setBolt_power (x : Bolt) : (s.setBolt x).power = s.power := rfl
@[simp] theorem setBolt_pins (x : Bolt) : (s.setBolt x).pins = s.pins := rfl
@[simp] theorem setBolt_pcie (x : Bolt) : (s.setBolt x).pcie = s.pcie := rfl
@[simp] theorem setBolt_host (x : Bolt) : (s.setBolt x).host = s.host := rfl
@[simp] theorem setBolt_rings (x : Bolt) : (s.setBolt x).rings = s.rings := rfl
@[simp] theorem setBolt_err (x : Bolt) : (s.setBolt x).err = s.err := rfl
@[simp] theorem setBolt_fit (x : Bolt) : (s.setBolt x).fit = s.fit := rfl
@[simp] theorem setBolt_log (x : Bolt) : (s.setBolt x).log = s.log := rfl
@[simp] theorem setBolt_vault (x : Bolt) : (s.setBolt x).vault = s.vault := rfl
@[simp] theorem setBolt_mesh (x : Bolt) : (s.setBolt x).mesh = s.mesh := rfl
@[simp] theorem setBolt_bolt (x : Bolt) : (s.setBolt x).bolt = x := rfl
@[simp] theorem setBolt_ddr (x : Bolt) : (s.setBolt x).ddr = s.ddr := rfl
@[simp] theorem setBolt_hub (x : Bolt) : (s.setBolt x).hub = s.hub := rfl
@[simp] theorem setBolt_tack (x : Bolt) : (s.setBolt x).tack = s.tack := rfl
@[simp] theorem setBolt_sht (x : Bolt) : (s.setBolt x).sht = s.sht := rfl
@[simp] theorem setBolt_thm (x : Bolt) : (s.setBolt x).thm = s.thm := rfl
@[simp] theorem setBolt_ndl (x : Bolt) : (s.setBolt x).ndl = s.ndl := rfl
@[simp] theorem setBolt_rd (x : Bolt) (g : Fld) (j : Nat) : (s.setBolt x).rd g j = s.rd g j := rfl
@[simp] theorem setBolt_flag (x : Bolt) (g : Fld) (j : Nat) : (s.setBolt x).flag g j = s.flag g j := rfl

/-! ## State.setDdr -/

@[simp] theorem setDdr_pending (x : Ddr) : (s.setDdr x).pending = s.pending := rfl
@[simp] theorem setDdr_part (x : Ddr) : (s.setDdr x).part = s.part := rfl
@[simp] theorem setDdr_time (x : Ddr) : (s.setDdr x).time = s.time := rfl
@[simp] theorem setDdr_freeCtr (x : Ddr) : (s.setDdr x).freeCtr = s.freeCtr := rfl
@[simp] theorem setDdr_regs (x : Ddr) : (s.setDdr x).regs = s.regs := rfl
@[simp] theorem setDdr_power (x : Ddr) : (s.setDdr x).power = s.power := rfl
@[simp] theorem setDdr_pins (x : Ddr) : (s.setDdr x).pins = s.pins := rfl
@[simp] theorem setDdr_pcie (x : Ddr) : (s.setDdr x).pcie = s.pcie := rfl
@[simp] theorem setDdr_host (x : Ddr) : (s.setDdr x).host = s.host := rfl
@[simp] theorem setDdr_rings (x : Ddr) : (s.setDdr x).rings = s.rings := rfl
@[simp] theorem setDdr_err (x : Ddr) : (s.setDdr x).err = s.err := rfl
@[simp] theorem setDdr_fit (x : Ddr) : (s.setDdr x).fit = s.fit := rfl
@[simp] theorem setDdr_log (x : Ddr) : (s.setDdr x).log = s.log := rfl
@[simp] theorem setDdr_vault (x : Ddr) : (s.setDdr x).vault = s.vault := rfl
@[simp] theorem setDdr_mesh (x : Ddr) : (s.setDdr x).mesh = s.mesh := rfl
@[simp] theorem setDdr_bolt (x : Ddr) : (s.setDdr x).bolt = s.bolt := rfl
@[simp] theorem setDdr_ddr (x : Ddr) : (s.setDdr x).ddr = x := rfl
@[simp] theorem setDdr_hub (x : Ddr) : (s.setDdr x).hub = s.hub := rfl
@[simp] theorem setDdr_tack (x : Ddr) : (s.setDdr x).tack = s.tack := rfl
@[simp] theorem setDdr_sht (x : Ddr) : (s.setDdr x).sht = s.sht := rfl
@[simp] theorem setDdr_thm (x : Ddr) : (s.setDdr x).thm = s.thm := rfl
@[simp] theorem setDdr_ndl (x : Ddr) : (s.setDdr x).ndl = s.ndl := rfl
@[simp] theorem setDdr_rd (x : Ddr) (g : Fld) (j : Nat) : (s.setDdr x).rd g j = s.rd g j := rfl
@[simp] theorem setDdr_flag (x : Ddr) (g : Fld) (j : Nat) : (s.setDdr x).flag g j = s.flag g j := rfl

/-! ## State.setMesh -/

@[simp] theorem setMesh_pending (x : Mesh) : (s.setMesh x).pending = s.pending := rfl
@[simp] theorem setMesh_part (x : Mesh) : (s.setMesh x).part = s.part := rfl
@[simp] theorem setMesh_time (x : Mesh) : (s.setMesh x).time = s.time := rfl
@[simp] theorem setMesh_freeCtr (x : Mesh) : (s.setMesh x).freeCtr = s.freeCtr := rfl
@[simp] theorem setMesh_regs (x : Mesh) : (s.setMesh x).regs = s.regs := rfl
@[simp] theorem setMesh_power (x : Mesh) : (s.setMesh x).power = s.power := rfl
@[simp] theorem setMesh_pins (x : Mesh) : (s.setMesh x).pins = s.pins := rfl
@[simp] theorem setMesh_pcie (x : Mesh) : (s.setMesh x).pcie = s.pcie := rfl
@[simp] theorem setMesh_host (x : Mesh) : (s.setMesh x).host = s.host := rfl
@[simp] theorem setMesh_rings (x : Mesh) : (s.setMesh x).rings = s.rings := rfl
@[simp] theorem setMesh_err (x : Mesh) : (s.setMesh x).err = s.err := rfl
@[simp] theorem setMesh_fit (x : Mesh) : (s.setMesh x).fit = s.fit := rfl
@[simp] theorem setMesh_log (x : Mesh) : (s.setMesh x).log = s.log := rfl
@[simp] theorem setMesh_vault (x : Mesh) : (s.setMesh x).vault = s.vault := rfl
@[simp] theorem setMesh_mesh (x : Mesh) : (s.setMesh x).mesh = x := rfl
@[simp] theorem setMesh_bolt (x : Mesh) : (s.setMesh x).bolt = s.bolt := rfl
@[simp] theorem setMesh_ddr (x : Mesh) : (s.setMesh x).ddr = s.ddr := rfl
@[simp] theorem setMesh_hub (x : Mesh) : (s.setMesh x).hub = s.hub := rfl
@[simp] theorem setMesh_tack (x : Mesh) : (s.setMesh x).tack = s.tack := rfl
@[simp] theorem setMesh_sht (x : Mesh) : (s.setMesh x).sht = s.sht := rfl
@[simp] theorem setMesh_thm (x : Mesh) : (s.setMesh x).thm = s.thm := rfl
@[simp] theorem setMesh_ndl (x : Mesh) : (s.setMesh x).ndl = s.ndl := rfl
@[simp] theorem setMesh_rd (x : Mesh) (g : Fld) (j : Nat) : (s.setMesh x).rd g j = s.rd g j := rfl
@[simp] theorem setMesh_flag (x : Mesh) (g : Fld) (j : Nat) : (s.setMesh x).flag g j = s.flag g j := rfl

/-! ## State.setSht -/

@[simp] theorem setSht_pending (x : Shuttle) : (s.setSht x).pending = s.pending := rfl
@[simp] theorem setSht_part (x : Shuttle) : (s.setSht x).part = s.part := rfl
@[simp] theorem setSht_time (x : Shuttle) : (s.setSht x).time = s.time := rfl
@[simp] theorem setSht_freeCtr (x : Shuttle) : (s.setSht x).freeCtr = s.freeCtr := rfl
@[simp] theorem setSht_regs (x : Shuttle) : (s.setSht x).regs = s.regs := rfl
@[simp] theorem setSht_power (x : Shuttle) : (s.setSht x).power = s.power := rfl
@[simp] theorem setSht_pins (x : Shuttle) : (s.setSht x).pins = s.pins := rfl
@[simp] theorem setSht_pcie (x : Shuttle) : (s.setSht x).pcie = s.pcie := rfl
@[simp] theorem setSht_host (x : Shuttle) : (s.setSht x).host = s.host := rfl
@[simp] theorem setSht_rings (x : Shuttle) : (s.setSht x).rings = s.rings := rfl
@[simp] theorem setSht_err (x : Shuttle) : (s.setSht x).err = s.err := rfl
@[simp] theorem setSht_fit (x : Shuttle) : (s.setSht x).fit = s.fit := rfl
@[simp] theorem setSht_log (x : Shuttle) : (s.setSht x).log = s.log := rfl
@[simp] theorem setSht_vault (x : Shuttle) : (s.setSht x).vault = s.vault := rfl
@[simp] theorem setSht_mesh (x : Shuttle) : (s.setSht x).mesh = s.mesh := rfl
@[simp] theorem setSht_bolt (x : Shuttle) : (s.setSht x).bolt = s.bolt := rfl
@[simp] theorem setSht_ddr (x : Shuttle) : (s.setSht x).ddr = s.ddr := rfl
@[simp] theorem setSht_hub (x : Shuttle) : (s.setSht x).hub = s.hub := rfl
@[simp] theorem setSht_tack (x : Shuttle) : (s.setSht x).tack = s.tack := rfl
@[simp] theorem setSht_sht (x : Shuttle) : (s.setSht x).sht = x := rfl
@[simp] theorem setSht_thm (x : Shuttle) : (s.setSht x).thm = s.thm := rfl
@[simp] theorem setSht_ndl (x : Shuttle) : (s.setSht x).ndl = s.ndl := rfl
@[simp] theorem setSht_rd (x : Shuttle) (g : Fld) (j : Nat) : (s.setSht x).rd g j = s.rd g j := rfl
@[simp] theorem setSht_flag (x : Shuttle) (g : Fld) (j : Nat) : (s.setSht x).flag g j = s.flag g j := rfl

/-! ## State.setTack -/

@[simp] theorem setTack_pending (x : Tack) : (s.setTack x).pending = s.pending := rfl
@[simp] theorem setTack_part (x : Tack) : (s.setTack x).part = s.part := rfl
@[simp] theorem setTack_time (x : Tack) : (s.setTack x).time = s.time := rfl
@[simp] theorem setTack_freeCtr (x : Tack) : (s.setTack x).freeCtr = s.freeCtr := rfl
@[simp] theorem setTack_regs (x : Tack) : (s.setTack x).regs = s.regs := rfl
@[simp] theorem setTack_power (x : Tack) : (s.setTack x).power = s.power := rfl
@[simp] theorem setTack_pins (x : Tack) : (s.setTack x).pins = s.pins := rfl
@[simp] theorem setTack_pcie (x : Tack) : (s.setTack x).pcie = s.pcie := rfl
@[simp] theorem setTack_host (x : Tack) : (s.setTack x).host = s.host := rfl
@[simp] theorem setTack_rings (x : Tack) : (s.setTack x).rings = s.rings := rfl
@[simp] theorem setTack_err (x : Tack) : (s.setTack x).err = s.err := rfl
@[simp] theorem setTack_fit (x : Tack) : (s.setTack x).fit = s.fit := rfl
@[simp] theorem setTack_log (x : Tack) : (s.setTack x).log = s.log := rfl
@[simp] theorem setTack_vault (x : Tack) : (s.setTack x).vault = s.vault := rfl
@[simp] theorem setTack_mesh (x : Tack) : (s.setTack x).mesh = s.mesh := rfl
@[simp] theorem setTack_bolt (x : Tack) : (s.setTack x).bolt = s.bolt := rfl
@[simp] theorem setTack_ddr (x : Tack) : (s.setTack x).ddr = s.ddr := rfl
@[simp] theorem setTack_hub (x : Tack) : (s.setTack x).hub = s.hub := rfl
@[simp] theorem setTack_tack (x : Tack) : (s.setTack x).tack = x := rfl
@[simp] theorem setTack_sht (x : Tack) : (s.setTack x).sht = s.sht := rfl
@[simp] theorem setTack_thm (x : Tack) : (s.setTack x).thm = s.thm := rfl
@[simp] theorem setTack_ndl (x : Tack) : (s.setTack x).ndl = s.ndl := rfl
@[simp] theorem setTack_rd (x : Tack) (g : Fld) (j : Nat) : (s.setTack x).rd g j = s.rd g j := rfl
@[simp] theorem setTack_flag (x : Tack) (g : Fld) (j : Nat) : (s.setTack x).flag g j = s.flag g j := rfl

/-! ## State.setVault -/

@[simp] theorem setVault_pending (x : Vault) : (s.setVault x).pending = s.pending := rfl
@[simp] theorem setVault_part (x : Vault) : (s.setVault x).part = s.part := rfl
@[simp] theorem setVault_time (x : Vault) : (s.setVault x).time = s.time := rfl
@[simp] theorem setVault_freeCtr (x : Vault) : (s.setVault x).freeCtr = s.freeCtr := rfl
@[simp] theorem setVault_regs (x : Vault) : (s.setVault x).regs = s.regs := rfl
@[simp] theorem setVault_power (x : Vault) : (s.setVault x).power = s.power := rfl
@[simp] theorem setVault_pins (x : Vault) : (s.setVault x).pins = s.pins := rfl
@[simp] theorem setVault_pcie (x : Vault) : (s.setVault x).pcie = s.pcie := rfl
@[simp] theorem setVault_host (x : Vault) : (s.setVault x).host = s.host := rfl
@[simp] theorem setVault_rings (x : Vault) : (s.setVault x).rings = s.rings := rfl
@[simp] theorem setVault_err (x : Vault) : (s.setVault x).err = s.err := rfl
@[simp] theorem setVault_fit (x : Vault) : (s.setVault x).fit = s.fit := rfl
@[simp] theorem setVault_log (x : Vault) : (s.setVault x).log = s.log := rfl
@[simp] theorem setVault_vault (x : Vault) : (s.setVault x).vault = x := rfl
@[simp] theorem setVault_mesh (x : Vault) : (s.setVault x).mesh = s.mesh := rfl
@[simp] theorem setVault_bolt (x : Vault) : (s.setVault x).bolt = s.bolt := rfl
@[simp] theorem setVault_ddr (x : Vault) : (s.setVault x).ddr = s.ddr := rfl
@[simp] theorem setVault_hub (x : Vault) : (s.setVault x).hub = s.hub := rfl
@[simp] theorem setVault_tack (x : Vault) : (s.setVault x).tack = s.tack := rfl
@[simp] theorem setVault_sht (x : Vault) : (s.setVault x).sht = s.sht := rfl
@[simp] theorem setVault_thm (x : Vault) : (s.setVault x).thm = s.thm := rfl
@[simp] theorem setVault_ndl (x : Vault) : (s.setVault x).ndl = s.ndl := rfl
@[simp] theorem setVault_rd (x : Vault) (g : Fld) (j : Nat) : (s.setVault x).rd g j = s.rd g j := rfl
@[simp] theorem setVault_flag (x : Vault) (g : Fld) (j : Nat) : (s.setVault x).flag g j = s.flag g j := rfl

/-! ## State.setErr -/

@[simp] theorem setErr_pending (x : ErrState) : (s.setErr x).pending = s.pending := rfl
@[simp] theorem setErr_part (x : ErrState) : (s.setErr x).part = s.part := rfl
@[simp] theorem setErr_time (x : ErrState) : (s.setErr x).time = s.time := rfl
@[simp] theorem setErr_freeCtr (x : ErrState) : (s.setErr x).freeCtr = s.freeCtr := rfl
@[simp] theorem setErr_regs (x : ErrState) : (s.setErr x).regs = s.regs := rfl
@[simp] theorem setErr_power (x : ErrState) : (s.setErr x).power = s.power := rfl
@[simp] theorem setErr_pins (x : ErrState) : (s.setErr x).pins = s.pins := rfl
@[simp] theorem setErr_pcie (x : ErrState) : (s.setErr x).pcie = s.pcie := rfl
@[simp] theorem setErr_host (x : ErrState) : (s.setErr x).host = s.host := rfl
@[simp] theorem setErr_rings (x : ErrState) : (s.setErr x).rings = s.rings := rfl
@[simp] theorem setErr_err (x : ErrState) : (s.setErr x).err = x := rfl
@[simp] theorem setErr_fit (x : ErrState) : (s.setErr x).fit = s.fit := rfl
@[simp] theorem setErr_log (x : ErrState) : (s.setErr x).log = s.log := rfl
@[simp] theorem setErr_vault (x : ErrState) : (s.setErr x).vault = s.vault := rfl
@[simp] theorem setErr_mesh (x : ErrState) : (s.setErr x).mesh = s.mesh := rfl
@[simp] theorem setErr_bolt (x : ErrState) : (s.setErr x).bolt = s.bolt := rfl
@[simp] theorem setErr_ddr (x : ErrState) : (s.setErr x).ddr = s.ddr := rfl
@[simp] theorem setErr_hub (x : ErrState) : (s.setErr x).hub = s.hub := rfl
@[simp] theorem setErr_tack (x : ErrState) : (s.setErr x).tack = s.tack := rfl
@[simp] theorem setErr_sht (x : ErrState) : (s.setErr x).sht = s.sht := rfl
@[simp] theorem setErr_thm (x : ErrState) : (s.setErr x).thm = s.thm := rfl
@[simp] theorem setErr_ndl (x : ErrState) : (s.setErr x).ndl = s.ndl := rfl
@[simp] theorem setErr_rd (x : ErrState) (g : Fld) (j : Nat) : (s.setErr x).rd g j = s.rd g j := rfl
@[simp] theorem setErr_flag (x : ErrState) (g : Fld) (j : Nat) : (s.setErr x).flag g j = s.flag g j := rfl

/-! ## State.setNd -/

@[simp] theorem setNd_pending (n : Nat) (x : Needle) : (s.setNd n x).pending = s.pending := rfl
@[simp] theorem setNd_part (n : Nat) (x : Needle) : (s.setNd n x).part = s.part := rfl
@[simp] theorem setNd_time (n : Nat) (x : Needle) : (s.setNd n x).time = s.time := rfl
@[simp] theorem setNd_freeCtr (n : Nat) (x : Needle) : (s.setNd n x).freeCtr = s.freeCtr := rfl
@[simp] theorem setNd_regs (n : Nat) (x : Needle) : (s.setNd n x).regs = s.regs := rfl
@[simp] theorem setNd_power (n : Nat) (x : Needle) : (s.setNd n x).power = s.power := rfl
@[simp] theorem setNd_pins (n : Nat) (x : Needle) : (s.setNd n x).pins = s.pins := rfl
@[simp] theorem setNd_pcie (n : Nat) (x : Needle) : (s.setNd n x).pcie = s.pcie := rfl
@[simp] theorem setNd_host (n : Nat) (x : Needle) : (s.setNd n x).host = s.host := rfl
@[simp] theorem setNd_rings (n : Nat) (x : Needle) : (s.setNd n x).rings = s.rings := rfl
@[simp] theorem setNd_err (n : Nat) (x : Needle) : (s.setNd n x).err = s.err := rfl
@[simp] theorem setNd_fit (n : Nat) (x : Needle) : (s.setNd n x).fit = s.fit := rfl
@[simp] theorem setNd_log (n : Nat) (x : Needle) : (s.setNd n x).log = s.log := rfl
@[simp] theorem setNd_vault (n : Nat) (x : Needle) : (s.setNd n x).vault = s.vault := rfl
@[simp] theorem setNd_mesh (n : Nat) (x : Needle) : (s.setNd n x).mesh = s.mesh := rfl
@[simp] theorem setNd_bolt (n : Nat) (x : Needle) : (s.setNd n x).bolt = s.bolt := rfl
@[simp] theorem setNd_ddr (n : Nat) (x : Needle) : (s.setNd n x).ddr = s.ddr := rfl
@[simp] theorem setNd_hub (n : Nat) (x : Needle) : (s.setNd n x).hub = s.hub := rfl
@[simp] theorem setNd_tack (n : Nat) (x : Needle) : (s.setNd n x).tack = s.tack := rfl
@[simp] theorem setNd_sht (n : Nat) (x : Needle) : (s.setNd n x).sht = s.sht := rfl
@[simp] theorem setNd_thm (n : Nat) (x : Needle) : (s.setNd n x).thm = s.thm := rfl
@[simp] theorem setNd_rd (n : Nat) (x : Needle) (g : Fld) (j : Nat) : (s.setNd n x).rd g j = s.rd g j := rfl
@[simp] theorem setNd_flag (n : Nat) (x : Needle) (g : Fld) (j : Nat) : (s.setNd n x).flag g j = s.flag g j := rfl

/-! ## State.setFnCfg -/

@[simp] theorem setFnCfg_pending (n : Nat) (x : FnCfg) : (s.setFnCfg n x).pending = s.pending := rfl
@[simp] theorem setFnCfg_part (n : Nat) (x : FnCfg) : (s.setFnCfg n x).part = s.part := rfl
@[simp] theorem setFnCfg_time (n : Nat) (x : FnCfg) : (s.setFnCfg n x).time = s.time := rfl
@[simp] theorem setFnCfg_freeCtr (n : Nat) (x : FnCfg) : (s.setFnCfg n x).freeCtr = s.freeCtr := rfl
@[simp] theorem setFnCfg_regs (n : Nat) (x : FnCfg) : (s.setFnCfg n x).regs = s.regs := rfl
@[simp] theorem setFnCfg_power (n : Nat) (x : FnCfg) : (s.setFnCfg n x).power = s.power := rfl
@[simp] theorem setFnCfg_pins (n : Nat) (x : FnCfg) : (s.setFnCfg n x).pins = s.pins := rfl
@[simp] theorem setFnCfg_host (n : Nat) (x : FnCfg) : (s.setFnCfg n x).host = s.host := rfl
@[simp] theorem setFnCfg_rings (n : Nat) (x : FnCfg) : (s.setFnCfg n x).rings = s.rings := rfl
@[simp] theorem setFnCfg_err (n : Nat) (x : FnCfg) : (s.setFnCfg n x).err = s.err := rfl
@[simp] theorem setFnCfg_fit (n : Nat) (x : FnCfg) : (s.setFnCfg n x).fit = s.fit := rfl
@[simp] theorem setFnCfg_log (n : Nat) (x : FnCfg) : (s.setFnCfg n x).log = s.log := rfl
@[simp] theorem setFnCfg_vault (n : Nat) (x : FnCfg) : (s.setFnCfg n x).vault = s.vault := rfl
@[simp] theorem setFnCfg_mesh (n : Nat) (x : FnCfg) : (s.setFnCfg n x).mesh = s.mesh := rfl
@[simp] theorem setFnCfg_bolt (n : Nat) (x : FnCfg) : (s.setFnCfg n x).bolt = s.bolt := rfl
@[simp] theorem setFnCfg_ddr (n : Nat) (x : FnCfg) : (s.setFnCfg n x).ddr = s.ddr := rfl
@[simp] theorem setFnCfg_hub (n : Nat) (x : FnCfg) : (s.setFnCfg n x).hub = s.hub := rfl
@[simp] theorem setFnCfg_tack (n : Nat) (x : FnCfg) : (s.setFnCfg n x).tack = s.tack := rfl
@[simp] theorem setFnCfg_sht (n : Nat) (x : FnCfg) : (s.setFnCfg n x).sht = s.sht := rfl
@[simp] theorem setFnCfg_thm (n : Nat) (x : FnCfg) : (s.setFnCfg n x).thm = s.thm := rfl
@[simp] theorem setFnCfg_ndl (n : Nat) (x : FnCfg) : (s.setFnCfg n x).ndl = s.ndl := rfl
@[simp] theorem setFnCfg_rd (n : Nat) (x : FnCfg) (g : Fld) (j : Nat) : (s.setFnCfg n x).rd g j = s.rd g j := rfl
@[simp] theorem setFnCfg_flag (n : Nat) (x : FnCfg) (g : Fld) (j : Nat) : (s.setFnCfg n x).flag g j = s.flag g j := rfl

/-! ## State.setSq -/

@[simp] theorem setSq_pending (n : Nat) (x : SqDyn) : (s.setSq n x).pending = s.pending := rfl
@[simp] theorem setSq_part (n : Nat) (x : SqDyn) : (s.setSq n x).part = s.part := rfl
@[simp] theorem setSq_time (n : Nat) (x : SqDyn) : (s.setSq n x).time = s.time := rfl
@[simp] theorem setSq_freeCtr (n : Nat) (x : SqDyn) : (s.setSq n x).freeCtr = s.freeCtr := rfl
@[simp] theorem setSq_regs (n : Nat) (x : SqDyn) : (s.setSq n x).regs = s.regs := rfl
@[simp] theorem setSq_power (n : Nat) (x : SqDyn) : (s.setSq n x).power = s.power := rfl
@[simp] theorem setSq_pins (n : Nat) (x : SqDyn) : (s.setSq n x).pins = s.pins := rfl
@[simp] theorem setSq_pcie (n : Nat) (x : SqDyn) : (s.setSq n x).pcie = s.pcie := rfl
@[simp] theorem setSq_host (n : Nat) (x : SqDyn) : (s.setSq n x).host = s.host := rfl
@[simp] theorem setSq_err (n : Nat) (x : SqDyn) : (s.setSq n x).err = s.err := rfl
@[simp] theorem setSq_fit (n : Nat) (x : SqDyn) : (s.setSq n x).fit = s.fit := rfl
@[simp] theorem setSq_log (n : Nat) (x : SqDyn) : (s.setSq n x).log = s.log := rfl
@[simp] theorem setSq_vault (n : Nat) (x : SqDyn) : (s.setSq n x).vault = s.vault := rfl
@[simp] theorem setSq_mesh (n : Nat) (x : SqDyn) : (s.setSq n x).mesh = s.mesh := rfl
@[simp] theorem setSq_bolt (n : Nat) (x : SqDyn) : (s.setSq n x).bolt = s.bolt := rfl
@[simp] theorem setSq_ddr (n : Nat) (x : SqDyn) : (s.setSq n x).ddr = s.ddr := rfl
@[simp] theorem setSq_hub (n : Nat) (x : SqDyn) : (s.setSq n x).hub = s.hub := rfl
@[simp] theorem setSq_tack (n : Nat) (x : SqDyn) : (s.setSq n x).tack = s.tack := rfl
@[simp] theorem setSq_sht (n : Nat) (x : SqDyn) : (s.setSq n x).sht = s.sht := rfl
@[simp] theorem setSq_thm (n : Nat) (x : SqDyn) : (s.setSq n x).thm = s.thm := rfl
@[simp] theorem setSq_ndl (n : Nat) (x : SqDyn) : (s.setSq n x).ndl = s.ndl := rfl
@[simp] theorem setSq_rd (n : Nat) (x : SqDyn) (g : Fld) (j : Nat) : (s.setSq n x).rd g j = s.rd g j := rfl
@[simp] theorem setSq_flag (n : Nat) (x : SqDyn) (g : Fld) (j : Nat) : (s.setSq n x).flag g j = s.flag g j := rfl

/-! ## State.setCq -/

@[simp] theorem setCq_pending (n : Nat) (x : CqDyn) : (s.setCq n x).pending = s.pending := rfl
@[simp] theorem setCq_part (n : Nat) (x : CqDyn) : (s.setCq n x).part = s.part := rfl
@[simp] theorem setCq_time (n : Nat) (x : CqDyn) : (s.setCq n x).time = s.time := rfl
@[simp] theorem setCq_freeCtr (n : Nat) (x : CqDyn) : (s.setCq n x).freeCtr = s.freeCtr := rfl
@[simp] theorem setCq_regs (n : Nat) (x : CqDyn) : (s.setCq n x).regs = s.regs := rfl
@[simp] theorem setCq_power (n : Nat) (x : CqDyn) : (s.setCq n x).power = s.power := rfl
@[simp] theorem setCq_pins (n : Nat) (x : CqDyn) : (s.setCq n x).pins = s.pins := rfl
@[simp] theorem setCq_pcie (n : Nat) (x : CqDyn) : (s.setCq n x).pcie = s.pcie := rfl
@[simp] theorem setCq_host (n : Nat) (x : CqDyn) : (s.setCq n x).host = s.host := rfl
@[simp] theorem setCq_err (n : Nat) (x : CqDyn) : (s.setCq n x).err = s.err := rfl
@[simp] theorem setCq_fit (n : Nat) (x : CqDyn) : (s.setCq n x).fit = s.fit := rfl
@[simp] theorem setCq_log (n : Nat) (x : CqDyn) : (s.setCq n x).log = s.log := rfl
@[simp] theorem setCq_vault (n : Nat) (x : CqDyn) : (s.setCq n x).vault = s.vault := rfl
@[simp] theorem setCq_mesh (n : Nat) (x : CqDyn) : (s.setCq n x).mesh = s.mesh := rfl
@[simp] theorem setCq_bolt (n : Nat) (x : CqDyn) : (s.setCq n x).bolt = s.bolt := rfl
@[simp] theorem setCq_ddr (n : Nat) (x : CqDyn) : (s.setCq n x).ddr = s.ddr := rfl
@[simp] theorem setCq_hub (n : Nat) (x : CqDyn) : (s.setCq n x).hub = s.hub := rfl
@[simp] theorem setCq_tack (n : Nat) (x : CqDyn) : (s.setCq n x).tack = s.tack := rfl
@[simp] theorem setCq_sht (n : Nat) (x : CqDyn) : (s.setCq n x).sht = s.sht := rfl
@[simp] theorem setCq_thm (n : Nat) (x : CqDyn) : (s.setCq n x).thm = s.thm := rfl
@[simp] theorem setCq_ndl (n : Nat) (x : CqDyn) : (s.setCq n x).ndl = s.ndl := rfl
@[simp] theorem setCq_rd (n : Nat) (x : CqDyn) (g : Fld) (j : Nat) : (s.setCq n x).rd g j = s.rd g j := rfl
@[simp] theorem setCq_flag (n : Nat) (x : CqDyn) (g : Fld) (j : Nat) : (s.setCq n x).flag g j = s.flag g j := rfl

/-! ## State.putEntry -/

@[simp] theorem putEntry_pending (n : Nat) (x : Entry) : (s.putEntry n x).pending = s.pending := rfl
@[simp] theorem putEntry_part (n : Nat) (x : Entry) : (s.putEntry n x).part = s.part := rfl
@[simp] theorem putEntry_time (n : Nat) (x : Entry) : (s.putEntry n x).time = s.time := rfl
@[simp] theorem putEntry_freeCtr (n : Nat) (x : Entry) : (s.putEntry n x).freeCtr = s.freeCtr := rfl
@[simp] theorem putEntry_regs (n : Nat) (x : Entry) : (s.putEntry n x).regs = s.regs := rfl
@[simp] theorem putEntry_power (n : Nat) (x : Entry) : (s.putEntry n x).power = s.power := rfl
@[simp] theorem putEntry_pins (n : Nat) (x : Entry) : (s.putEntry n x).pins = s.pins := rfl
@[simp] theorem putEntry_pcie (n : Nat) (x : Entry) : (s.putEntry n x).pcie = s.pcie := rfl
@[simp] theorem putEntry_host (n : Nat) (x : Entry) : (s.putEntry n x).host = s.host := rfl
@[simp] theorem putEntry_rings (n : Nat) (x : Entry) : (s.putEntry n x).rings = s.rings := rfl
@[simp] theorem putEntry_err (n : Nat) (x : Entry) : (s.putEntry n x).err = s.err := rfl
@[simp] theorem putEntry_fit (n : Nat) (x : Entry) : (s.putEntry n x).fit = s.fit := rfl
@[simp] theorem putEntry_log (n : Nat) (x : Entry) : (s.putEntry n x).log = s.log := rfl
@[simp] theorem putEntry_mesh (n : Nat) (x : Entry) : (s.putEntry n x).mesh = s.mesh := rfl
@[simp] theorem putEntry_bolt (n : Nat) (x : Entry) : (s.putEntry n x).bolt = s.bolt := rfl
@[simp] theorem putEntry_ddr (n : Nat) (x : Entry) : (s.putEntry n x).ddr = s.ddr := rfl
@[simp] theorem putEntry_hub (n : Nat) (x : Entry) : (s.putEntry n x).hub = s.hub := rfl
@[simp] theorem putEntry_tack (n : Nat) (x : Entry) : (s.putEntry n x).tack = s.tack := rfl
@[simp] theorem putEntry_sht (n : Nat) (x : Entry) : (s.putEntry n x).sht = s.sht := rfl
@[simp] theorem putEntry_thm (n : Nat) (x : Entry) : (s.putEntry n x).thm = s.thm := rfl
@[simp] theorem putEntry_ndl (n : Nat) (x : Entry) : (s.putEntry n x).ndl = s.ndl := rfl
@[simp] theorem putEntry_rd (n : Nat) (x : Entry) (g : Fld) (j : Nat) : (s.putEntry n x).rd g j = s.rd g j := rfl
@[simp] theorem putEntry_flag (n : Nat) (x : Entry) (g : Fld) (j : Nat) : (s.putEntry n x).flag g j = s.flag g j := rfl

/-! ## State.setPeer -/

@[simp] theorem setPeer_pending (n : Nat) (x : Peer) : (s.setPeer n x).pending = s.pending := rfl
@[simp] theorem setPeer_part (n : Nat) (x : Peer) : (s.setPeer n x).part = s.part := rfl
@[simp] theorem setPeer_time (n : Nat) (x : Peer) : (s.setPeer n x).time = s.time := rfl
@[simp] theorem setPeer_freeCtr (n : Nat) (x : Peer) : (s.setPeer n x).freeCtr = s.freeCtr := rfl
@[simp] theorem setPeer_regs (n : Nat) (x : Peer) : (s.setPeer n x).regs = s.regs := rfl
@[simp] theorem setPeer_power (n : Nat) (x : Peer) : (s.setPeer n x).power = s.power := rfl
@[simp] theorem setPeer_pins (n : Nat) (x : Peer) : (s.setPeer n x).pins = s.pins := rfl
@[simp] theorem setPeer_pcie (n : Nat) (x : Peer) : (s.setPeer n x).pcie = s.pcie := rfl
@[simp] theorem setPeer_host (n : Nat) (x : Peer) : (s.setPeer n x).host = s.host := rfl
@[simp] theorem setPeer_rings (n : Nat) (x : Peer) : (s.setPeer n x).rings = s.rings := rfl
@[simp] theorem setPeer_err (n : Nat) (x : Peer) : (s.setPeer n x).err = s.err := rfl
@[simp] theorem setPeer_fit (n : Nat) (x : Peer) : (s.setPeer n x).fit = s.fit := rfl
@[simp] theorem setPeer_log (n : Nat) (x : Peer) : (s.setPeer n x).log = s.log := rfl
@[simp] theorem setPeer_vault (n : Nat) (x : Peer) : (s.setPeer n x).vault = s.vault := rfl
@[simp] theorem setPeer_bolt (n : Nat) (x : Peer) : (s.setPeer n x).bolt = s.bolt := rfl
@[simp] theorem setPeer_ddr (n : Nat) (x : Peer) : (s.setPeer n x).ddr = s.ddr := rfl
@[simp] theorem setPeer_hub (n : Nat) (x : Peer) : (s.setPeer n x).hub = s.hub := rfl
@[simp] theorem setPeer_tack (n : Nat) (x : Peer) : (s.setPeer n x).tack = s.tack := rfl
@[simp] theorem setPeer_sht (n : Nat) (x : Peer) : (s.setPeer n x).sht = s.sht := rfl
@[simp] theorem setPeer_thm (n : Nat) (x : Peer) : (s.setPeer n x).thm = s.thm := rfl
@[simp] theorem setPeer_ndl (n : Nat) (x : Peer) : (s.setPeer n x).ndl = s.ndl := rfl
@[simp] theorem setPeer_rd (n : Nat) (x : Peer) (g : Fld) (j : Nat) : (s.setPeer n x).rd g j = s.rd g j := rfl
@[simp] theorem setPeer_flag (n : Nat) (x : Peer) (g : Fld) (j : Nat) : (s.setPeer n x).flag g j = s.flag g j := rfl

/-! ## State.setShard -/

@[simp] theorem setShard_pending (n : Nat) (x : Shard) : (s.setShard n x).pending = s.pending := rfl
@[simp] theorem setShard_part (n : Nat) (x : Shard) : (s.setShard n x).part = s.part := rfl
@[simp] theorem setShard_time (n : Nat) (x : Shard) : (s.setShard n x).time = s.time := rfl
@[simp] theorem setShard_freeCtr (n : Nat) (x : Shard) : (s.setShard n x).freeCtr = s.freeCtr := rfl
@[simp] theorem setShard_regs (n : Nat) (x : Shard) : (s.setShard n x).regs = s.regs := rfl
@[simp] theorem setShard_power (n : Nat) (x : Shard) : (s.setShard n x).power = s.power := rfl
@[simp] theorem setShard_pins (n : Nat) (x : Shard) : (s.setShard n x).pins = s.pins := rfl
@[simp] theorem setShard_pcie (n : Nat) (x : Shard) : (s.setShard n x).pcie = s.pcie := rfl
@[simp] theorem setShard_host (n : Nat) (x : Shard) : (s.setShard n x).host = s.host := rfl
@[simp] theorem setShard_rings (n : Nat) (x : Shard) : (s.setShard n x).rings = s.rings := rfl
@[simp] theorem setShard_err (n : Nat) (x : Shard) : (s.setShard n x).err = s.err := rfl
@[simp] theorem setShard_fit (n : Nat) (x : Shard) : (s.setShard n x).fit = s.fit := rfl
@[simp] theorem setShard_log (n : Nat) (x : Shard) : (s.setShard n x).log = s.log := rfl
@[simp] theorem setShard_vault (n : Nat) (x : Shard) : (s.setShard n x).vault = s.vault := rfl
@[simp] theorem setShard_bolt (n : Nat) (x : Shard) : (s.setShard n x).bolt = s.bolt := rfl
@[simp] theorem setShard_ddr (n : Nat) (x : Shard) : (s.setShard n x).ddr = s.ddr := rfl
@[simp] theorem setShard_hub (n : Nat) (x : Shard) : (s.setShard n x).hub = s.hub := rfl
@[simp] theorem setShard_tack (n : Nat) (x : Shard) : (s.setShard n x).tack = s.tack := rfl
@[simp] theorem setShard_sht (n : Nat) (x : Shard) : (s.setShard n x).sht = s.sht := rfl
@[simp] theorem setShard_thm (n : Nat) (x : Shard) : (s.setShard n x).thm = s.thm := rfl
@[simp] theorem setShard_ndl (n : Nat) (x : Shard) : (s.setShard n x).ndl = s.ndl := rfl
@[simp] theorem setShard_rd (n : Nat) (x : Shard) (g : Fld) (j : Nat) : (s.setShard n x).rd g j = s.rd g j := rfl
@[simp] theorem setShard_flag (n : Nat) (x : Shard) (g : Fld) (j : Nat) : (s.setShard n x).flag g j = s.flag g j := rfl

/-! ## State.setChan -/

@[simp] theorem setChan_pending (n : Nat) (x : DdrChan) : (s.setChan n x).pending = s.pending := rfl
@[simp] theorem setChan_part (n : Nat) (x : DdrChan) : (s.setChan n x).part = s.part := rfl
@[simp] theorem setChan_time (n : Nat) (x : DdrChan) : (s.setChan n x).time = s.time := rfl
@[simp] theorem setChan_freeCtr (n : Nat) (x : DdrChan) : (s.setChan n x).freeCtr = s.freeCtr := rfl
@[simp] theorem setChan_regs (n : Nat) (x : DdrChan) : (s.setChan n x).regs = s.regs := rfl
@[simp] theorem setChan_power (n : Nat) (x : DdrChan) : (s.setChan n x).power = s.power := rfl
@[simp] theorem setChan_pins (n : Nat) (x : DdrChan) : (s.setChan n x).pins = s.pins := rfl
@[simp] theorem setChan_pcie (n : Nat) (x : DdrChan) : (s.setChan n x).pcie = s.pcie := rfl
@[simp] theorem setChan_host (n : Nat) (x : DdrChan) : (s.setChan n x).host = s.host := rfl
@[simp] theorem setChan_rings (n : Nat) (x : DdrChan) : (s.setChan n x).rings = s.rings := rfl
@[simp] theorem setChan_err (n : Nat) (x : DdrChan) : (s.setChan n x).err = s.err := rfl
@[simp] theorem setChan_fit (n : Nat) (x : DdrChan) : (s.setChan n x).fit = s.fit := rfl
@[simp] theorem setChan_log (n : Nat) (x : DdrChan) : (s.setChan n x).log = s.log := rfl
@[simp] theorem setChan_vault (n : Nat) (x : DdrChan) : (s.setChan n x).vault = s.vault := rfl
@[simp] theorem setChan_mesh (n : Nat) (x : DdrChan) : (s.setChan n x).mesh = s.mesh := rfl
@[simp] theorem setChan_bolt (n : Nat) (x : DdrChan) : (s.setChan n x).bolt = s.bolt := rfl
@[simp] theorem setChan_hub (n : Nat) (x : DdrChan) : (s.setChan n x).hub = s.hub := rfl
@[simp] theorem setChan_tack (n : Nat) (x : DdrChan) : (s.setChan n x).tack = s.tack := rfl
@[simp] theorem setChan_sht (n : Nat) (x : DdrChan) : (s.setChan n x).sht = s.sht := rfl
@[simp] theorem setChan_thm (n : Nat) (x : DdrChan) : (s.setChan n x).thm = s.thm := rfl
@[simp] theorem setChan_ndl (n : Nat) (x : DdrChan) : (s.setChan n x).ndl = s.ndl := rfl
@[simp] theorem setChan_rd (n : Nat) (x : DdrChan) (g : Fld) (j : Nat) : (s.setChan n x).rd g j = s.rd g j := rfl
@[simp] theorem setChan_flag (n : Nat) (x : DdrChan) (g : Fld) (j : Nat) : (s.setChan n x).flag g j = s.flag g j := rfl

/-! ## State.setTimer -/

@[simp] theorem setTimer_pending (n : Nat) (x : PTimer) : (s.setTimer n x).pending = s.pending := rfl
@[simp] theorem setTimer_part (n : Nat) (x : PTimer) : (s.setTimer n x).part = s.part := rfl
@[simp] theorem setTimer_time (n : Nat) (x : PTimer) : (s.setTimer n x).time = s.time := rfl
@[simp] theorem setTimer_freeCtr (n : Nat) (x : PTimer) : (s.setTimer n x).freeCtr = s.freeCtr := rfl
@[simp] theorem setTimer_regs (n : Nat) (x : PTimer) : (s.setTimer n x).regs = s.regs := rfl
@[simp] theorem setTimer_power (n : Nat) (x : PTimer) : (s.setTimer n x).power = s.power := rfl
@[simp] theorem setTimer_pins (n : Nat) (x : PTimer) : (s.setTimer n x).pins = s.pins := rfl
@[simp] theorem setTimer_pcie (n : Nat) (x : PTimer) : (s.setTimer n x).pcie = s.pcie := rfl
@[simp] theorem setTimer_host (n : Nat) (x : PTimer) : (s.setTimer n x).host = s.host := rfl
@[simp] theorem setTimer_rings (n : Nat) (x : PTimer) : (s.setTimer n x).rings = s.rings := rfl
@[simp] theorem setTimer_err (n : Nat) (x : PTimer) : (s.setTimer n x).err = s.err := rfl
@[simp] theorem setTimer_fit (n : Nat) (x : PTimer) : (s.setTimer n x).fit = s.fit := rfl
@[simp] theorem setTimer_log (n : Nat) (x : PTimer) : (s.setTimer n x).log = s.log := rfl
@[simp] theorem setTimer_vault (n : Nat) (x : PTimer) : (s.setTimer n x).vault = s.vault := rfl
@[simp] theorem setTimer_mesh (n : Nat) (x : PTimer) : (s.setTimer n x).mesh = s.mesh := rfl
@[simp] theorem setTimer_bolt (n : Nat) (x : PTimer) : (s.setTimer n x).bolt = s.bolt := rfl
@[simp] theorem setTimer_ddr (n : Nat) (x : PTimer) : (s.setTimer n x).ddr = s.ddr := rfl
@[simp] theorem setTimer_hub (n : Nat) (x : PTimer) : (s.setTimer n x).hub = s.hub := rfl
@[simp] theorem setTimer_sht (n : Nat) (x : PTimer) : (s.setTimer n x).sht = s.sht := rfl
@[simp] theorem setTimer_thm (n : Nat) (x : PTimer) : (s.setTimer n x).thm = s.thm := rfl
@[simp] theorem setTimer_ndl (n : Nat) (x : PTimer) : (s.setTimer n x).ndl = s.ndl := rfl
@[simp] theorem setTimer_rd (n : Nat) (x : PTimer) (g : Fld) (j : Nat) : (s.setTimer n x).rd g j = s.rd g j := rfl
@[simp] theorem setTimer_flag (n : Nat) (x : PTimer) (g : Fld) (j : Nat) : (s.setTimer n x).flag g j = s.flag g j := rfl

/-! ## State.setProg -/

@[simp] theorem setProg_pending (n : Nat) (x : Prog) : (s.setProg n x).pending = s.pending := rfl
@[simp] theorem setProg_part (n : Nat) (x : Prog) : (s.setProg n x).part = s.part := rfl
@[simp] theorem setProg_time (n : Nat) (x : Prog) : (s.setProg n x).time = s.time := rfl
@[simp] theorem setProg_freeCtr (n : Nat) (x : Prog) : (s.setProg n x).freeCtr = s.freeCtr := rfl
@[simp] theorem setProg_regs (n : Nat) (x : Prog) : (s.setProg n x).regs = s.regs := rfl
@[simp] theorem setProg_power (n : Nat) (x : Prog) : (s.setProg n x).power = s.power := rfl
@[simp] theorem setProg_pins (n : Nat) (x : Prog) : (s.setProg n x).pins = s.pins := rfl
@[simp] theorem setProg_pcie (n : Nat) (x : Prog) : (s.setProg n x).pcie = s.pcie := rfl
@[simp] theorem setProg_host (n : Nat) (x : Prog) : (s.setProg n x).host = s.host := rfl
@[simp] theorem setProg_rings (n : Nat) (x : Prog) : (s.setProg n x).rings = s.rings := rfl
@[simp] theorem setProg_err (n : Nat) (x : Prog) : (s.setProg n x).err = s.err := rfl
@[simp] theorem setProg_fit (n : Nat) (x : Prog) : (s.setProg n x).fit = s.fit := rfl
@[simp] theorem setProg_log (n : Nat) (x : Prog) : (s.setProg n x).log = s.log := rfl
@[simp] theorem setProg_vault (n : Nat) (x : Prog) : (s.setProg n x).vault = s.vault := rfl
@[simp] theorem setProg_mesh (n : Nat) (x : Prog) : (s.setProg n x).mesh = s.mesh := rfl
@[simp] theorem setProg_bolt (n : Nat) (x : Prog) : (s.setProg n x).bolt = s.bolt := rfl
@[simp] theorem setProg_ddr (n : Nat) (x : Prog) : (s.setProg n x).ddr = s.ddr := rfl
@[simp] theorem setProg_hub (n : Nat) (x : Prog) : (s.setProg n x).hub = s.hub := rfl
@[simp] theorem setProg_tack (n : Nat) (x : Prog) : (s.setProg n x).tack = s.tack := rfl
@[simp] theorem setProg_sht (n : Nat) (x : Prog) : (s.setProg n x).sht = s.sht := rfl
@[simp] theorem setProg_ndl (n : Nat) (x : Prog) : (s.setProg n x).ndl = s.ndl := rfl
@[simp] theorem setProg_rd (n : Nat) (x : Prog) (g : Fld) (j : Nat) : (s.setProg n x).rd g j = s.rd g j := rfl
@[simp] theorem setProg_flag (n : Nat) (x : Prog) (g : Fld) (j : Nat) : (s.setProg n x).flag g j = s.flag g j := rfl

/-! ## State.emit -/

@[simp] theorem emit_pending (o : Out) : (s.emit o).pending = s.pending := rfl
@[simp] theorem emit_part (o : Out) : (s.emit o).part = s.part := rfl
@[simp] theorem emit_time (o : Out) : (s.emit o).time = s.time := rfl
@[simp] theorem emit_freeCtr (o : Out) : (s.emit o).freeCtr = s.freeCtr := rfl
@[simp] theorem emit_regs (o : Out) : (s.emit o).regs = s.regs := rfl
@[simp] theorem emit_power (o : Out) : (s.emit o).power = s.power := rfl
@[simp] theorem emit_pins (o : Out) : (s.emit o).pins = s.pins := rfl
@[simp] theorem emit_host (o : Out) : (s.emit o).host = s.host := rfl
@[simp] theorem emit_rings (o : Out) : (s.emit o).rings = s.rings := rfl
@[simp] theorem emit_err (o : Out) : (s.emit o).err = s.err := rfl
@[simp] theorem emit_fit (o : Out) : (s.emit o).fit = s.fit := rfl
@[simp] theorem emit_log (o : Out) : (s.emit o).log = s.log := rfl
@[simp] theorem emit_vault (o : Out) : (s.emit o).vault = s.vault := rfl
@[simp] theorem emit_mesh (o : Out) : (s.emit o).mesh = s.mesh := rfl
@[simp] theorem emit_bolt (o : Out) : (s.emit o).bolt = s.bolt := rfl
@[simp] theorem emit_ddr (o : Out) : (s.emit o).ddr = s.ddr := rfl
@[simp] theorem emit_hub (o : Out) : (s.emit o).hub = s.hub := rfl
@[simp] theorem emit_tack (o : Out) : (s.emit o).tack = s.tack := rfl
@[simp] theorem emit_sht (o : Out) : (s.emit o).sht = s.sht := rfl
@[simp] theorem emit_thm (o : Out) : (s.emit o).thm = s.thm := rfl
@[simp] theorem emit_ndl (o : Out) : (s.emit o).ndl = s.ndl := rfl
@[simp] theorem emit_rd (o : Out) (g : Fld) (j : Nat) : (s.emit o).rd g j = s.rd g j := rfl
@[simp] theorem emit_flag (o : Out) (g : Fld) (j : Nat) : (s.emit o).flag g j = s.flag g j := rfl

/-! ## State.dropWork -/

@[simp] theorem dropWork_pending (w : Work) : (s.dropWork w).pending = s.pending := rfl
@[simp] theorem dropWork_part (w : Work) : (s.dropWork w).part = s.part := rfl
@[simp] theorem dropWork_time (w : Work) : (s.dropWork w).time = s.time := rfl
@[simp] theorem dropWork_freeCtr (w : Work) : (s.dropWork w).freeCtr = s.freeCtr := rfl
@[simp] theorem dropWork_regs (w : Work) : (s.dropWork w).regs = s.regs := rfl
@[simp] theorem dropWork_power (w : Work) : (s.dropWork w).power = s.power := rfl
@[simp] theorem dropWork_pins (w : Work) : (s.dropWork w).pins = s.pins := rfl
@[simp] theorem dropWork_pcie (w : Work) : (s.dropWork w).pcie = s.pcie := rfl
@[simp] theorem dropWork_host (w : Work) : (s.dropWork w).host = s.host := rfl
@[simp] theorem dropWork_err (w : Work) : (s.dropWork w).err = s.err := rfl
@[simp] theorem dropWork_fit (w : Work) : (s.dropWork w).fit = s.fit := rfl
@[simp] theorem dropWork_log (w : Work) : (s.dropWork w).log = s.log := rfl
@[simp] theorem dropWork_vault (w : Work) : (s.dropWork w).vault = s.vault := rfl
@[simp] theorem dropWork_mesh (w : Work) : (s.dropWork w).mesh = s.mesh := rfl
@[simp] theorem dropWork_bolt (w : Work) : (s.dropWork w).bolt = s.bolt := rfl
@[simp] theorem dropWork_ddr (w : Work) : (s.dropWork w).ddr = s.ddr := rfl
@[simp] theorem dropWork_hub (w : Work) : (s.dropWork w).hub = s.hub := rfl
@[simp] theorem dropWork_tack (w : Work) : (s.dropWork w).tack = s.tack := rfl
@[simp] theorem dropWork_sht (w : Work) : (s.dropWork w).sht = s.sht := rfl
@[simp] theorem dropWork_thm (w : Work) : (s.dropWork w).thm = s.thm := rfl
@[simp] theorem dropWork_ndl (w : Work) : (s.dropWork w).ndl = s.ndl := rfl
@[simp] theorem dropWork_rd (w : Work) (g : Fld) (j : Nat) : (s.dropWork w).rd g j = s.rd g j := rfl
@[simp] theorem dropWork_flag (w : Work) (g : Fld) (j : Nat) : (s.dropWork w).flag g j = s.flag g j := rfl

/-! ## State.moveWork -/

@[simp] theorem moveWork_pending (w : Work) (a : WorkAt) : (s.moveWork w a).pending = s.pending := rfl
@[simp] theorem moveWork_part (w : Work) (a : WorkAt) : (s.moveWork w a).part = s.part := rfl
@[simp] theorem moveWork_time (w : Work) (a : WorkAt) : (s.moveWork w a).time = s.time := rfl
@[simp] theorem moveWork_freeCtr (w : Work) (a : WorkAt) : (s.moveWork w a).freeCtr = s.freeCtr := rfl
@[simp] theorem moveWork_regs (w : Work) (a : WorkAt) : (s.moveWork w a).regs = s.regs := rfl
@[simp] theorem moveWork_power (w : Work) (a : WorkAt) : (s.moveWork w a).power = s.power := rfl
@[simp] theorem moveWork_pins (w : Work) (a : WorkAt) : (s.moveWork w a).pins = s.pins := rfl
@[simp] theorem moveWork_pcie (w : Work) (a : WorkAt) : (s.moveWork w a).pcie = s.pcie := rfl
@[simp] theorem moveWork_host (w : Work) (a : WorkAt) : (s.moveWork w a).host = s.host := rfl
@[simp] theorem moveWork_err (w : Work) (a : WorkAt) : (s.moveWork w a).err = s.err := rfl
@[simp] theorem moveWork_fit (w : Work) (a : WorkAt) : (s.moveWork w a).fit = s.fit := rfl
@[simp] theorem moveWork_log (w : Work) (a : WorkAt) : (s.moveWork w a).log = s.log := rfl
@[simp] theorem moveWork_vault (w : Work) (a : WorkAt) : (s.moveWork w a).vault = s.vault := rfl
@[simp] theorem moveWork_mesh (w : Work) (a : WorkAt) : (s.moveWork w a).mesh = s.mesh := rfl
@[simp] theorem moveWork_bolt (w : Work) (a : WorkAt) : (s.moveWork w a).bolt = s.bolt := rfl
@[simp] theorem moveWork_ddr (w : Work) (a : WorkAt) : (s.moveWork w a).ddr = s.ddr := rfl
@[simp] theorem moveWork_hub (w : Work) (a : WorkAt) : (s.moveWork w a).hub = s.hub := rfl
@[simp] theorem moveWork_tack (w : Work) (a : WorkAt) : (s.moveWork w a).tack = s.tack := rfl
@[simp] theorem moveWork_sht (w : Work) (a : WorkAt) : (s.moveWork w a).sht = s.sht := rfl
@[simp] theorem moveWork_thm (w : Work) (a : WorkAt) : (s.moveWork w a).thm = s.thm := rfl
@[simp] theorem moveWork_ndl (w : Work) (a : WorkAt) : (s.moveWork w a).ndl = s.ndl := rfl
@[simp] theorem moveWork_rd (w : Work) (a : WorkAt) (g : Fld) (j : Nat) : (s.moveWork w a).rd g j = s.rd g j := rfl
@[simp] theorem moveWork_flag (w : Work) (a : WorkAt) (g : Fld) (j : Nat) : (s.moveWork w a).flag g j = s.flag g j := rfl

/-! ## The queue -/

@[simp] theorem queue_part (q : List Instr) : ({ s with pending := q } : State).part = s.part := rfl
@[simp] theorem queue_time (q : List Instr) : ({ s with pending := q } : State).time = s.time := rfl
@[simp] theorem queue_freeCtr (q : List Instr) : ({ s with pending := q } : State).freeCtr = s.freeCtr := rfl
@[simp] theorem queue_regs (q : List Instr) : ({ s with pending := q } : State).regs = s.regs := rfl
@[simp] theorem queue_power (q : List Instr) : ({ s with pending := q } : State).power = s.power := rfl
@[simp] theorem queue_pins (q : List Instr) : ({ s with pending := q } : State).pins = s.pins := rfl
@[simp] theorem queue_pcie (q : List Instr) : ({ s with pending := q } : State).pcie = s.pcie := rfl
@[simp] theorem queue_host (q : List Instr) : ({ s with pending := q } : State).host = s.host := rfl
@[simp] theorem queue_rings (q : List Instr) : ({ s with pending := q } : State).rings = s.rings := rfl
@[simp] theorem queue_err (q : List Instr) : ({ s with pending := q } : State).err = s.err := rfl
@[simp] theorem queue_fit (q : List Instr) : ({ s with pending := q } : State).fit = s.fit := rfl
@[simp] theorem queue_log (q : List Instr) : ({ s with pending := q } : State).log = s.log := rfl
@[simp] theorem queue_vault (q : List Instr) : ({ s with pending := q } : State).vault = s.vault := rfl
@[simp] theorem queue_mesh (q : List Instr) : ({ s with pending := q } : State).mesh = s.mesh := rfl
@[simp] theorem queue_bolt (q : List Instr) : ({ s with pending := q } : State).bolt = s.bolt := rfl
@[simp] theorem queue_ddr (q : List Instr) : ({ s with pending := q } : State).ddr = s.ddr := rfl
@[simp] theorem queue_hub (q : List Instr) : ({ s with pending := q } : State).hub = s.hub := rfl
@[simp] theorem queue_tack (q : List Instr) : ({ s with pending := q } : State).tack = s.tack := rfl
@[simp] theorem queue_sht (q : List Instr) : ({ s with pending := q } : State).sht = s.sht := rfl
@[simp] theorem queue_thm (q : List Instr) : ({ s with pending := q } : State).thm = s.thm := rfl
@[simp] theorem queue_ndl (q : List Instr) : ({ s with pending := q } : State).ndl = s.ndl := rfl
@[simp] theorem queue_rd (q : List Instr) (g : Fld) (j : Nat) : ({ s with pending := q } : State).rd g j = s.rd g j := rfl

/-! ## Units by number -/

theorem nd_setNd (n m : Nat) (x : Needle) :
    (s.setNd n x).nd m = if m = n then x else s.nd m := Store.get_put _

theorem sq_setSq (n m : Nat) (x : SqDyn) :
    (s.setSq n x).sq m = if m = n then x else s.sq m := Store.get_put _

theorem entry_putEntry (n m : Nat) (x : Entry) :
    (s.putEntry n x).entry m = if m = n then x else s.entry m := Store.get_put _

end Sys2Proof.Machine
end

