-- ==== Sys2Proof/Laws/Settle.lean ====
section
/-! SUPPORT. What a command leaves the block to do by itself: nothing, in a quiet state. -/

namespace Sys2Proof.Machine

open Sys2Proof

theorem hotWhenDone_of_none {s : State} (h : s.power.hotDue = false) : s.hotWhenDone = s := by
  simp [State.hotWhenDone, h]

theorem rollOn_of_none (n : Nat) {s : State} (h : s.thm.rolling = none) : State.rollOn n s = s := by
  cases n with
  | zero => rfl
  | succ n => simp only [State.rollOn, h]

theorem classifyLatched_of_nil (n : Nat) {s : State} (h : s.fit.latched = []) : State.classifyLatched n s = s := by
  cases n with
  | zero => rfl
  | succ n =>
    simp only [State.classifyLatched, h]
    split <;> rfl

theorem purgeSlots_of_empty {s : State} (h : ∀ p ∈ s.sht.pipes, p.2.slots = []) : s.purgeSlots = s := by
  unfold State.purgeSlots
  rw [if_pos]
  rw [List.all_eq_true]
  intro p hp
  simp [h p hp]

theorem finishConfs_of_nil {s : State} (h : s.mesh.confs = []) : s.finishConfs = s := by
  unfold State.finishConfs
  rw [h]
  rfl

theorem reconsider_of_none {s : State} (h : ∀ w ∈ s.rings.work, w.waits = false) : s.reconsider = s := by
  unfold State.reconsider
  have : s.rings.work.filter Work.waits = [] := by
    rw [List.filter_eq_nil_iff]
    intro w hw
    simp [h w hw]
  rw [this]
  rfl

theorem hubDrain_of_nil {s : State} (h : s.hub.waiting = []) : s.hubDrain = s := by
  simp [State.hubDrain, State.hubArb, h]

theorem showCount_of_shows {s : State} {f : Fld} {i n : Nat} (h : s.shows f i n) : s.showCount f i n = s := by
  unfold State.showCount
  exact if_pos h

theorem each_of_fixed {s : State} {n : Nat} {f : Nat → State → State} (h : ∀ i < n, f i s = s) : s.each n f = s := by
  unfold State.each
  have : ∀ l : List Nat, (∀ i ∈ l, i < n) → l.foldl (fun s i => f i s) s = s := by
    intro l
    induction l with
    | nil => intro _; rfl
    | cons a l ih =>
      intro hl
      simp only [List.foldl_cons]
      rw [h a (hl a (by simp))]
      exact ih (fun i hi => hl i (by simp [hi]))
  exact this _ (by simp)

theorem showStatus_of_shown {s : State} (h : s.StatusShown) : s.showStatus = s := by
  obtain ⟨h1, h2, h3, h4, h5⟩ := h
  have e1 := showCount_of_shows h1
  have e2 := showCount_of_shows h2
  have e3 : s.each 16 (fun r s => s.showCount .shtRrState_inFlight r (s.ringInFlight r)) = s :=
    each_of_fixed (fun r hr => showCount_of_shows (h3 r hr))
  have e4 : s.each 16 (fun r s => s.showCount .shtRrState_waiting r (s.ringWaiting r)) = s :=
    each_of_fixed (fun r hr => showCount_of_shows (h4 r hr))
  have e5 : s.each 16 (fun p s => s.showCount .stcPipeState_ksSlots p (s.filledSlots p)) = s :=
    each_of_fixed (fun p hp => showCount_of_shows (h5 p hp))
  simp only [State.showStatus, e1, e2, e3, e4, e5]

/-- A quiet state is left as it is. -/
theorem settle_of_quiet {s : State} (h : s.Quiet) : s.settle = s := by
  obtain ⟨h1, h2, h3, h4, h5, hd, hr, h6⟩ := h
  unfold State.settle
  simp only [hotWhenDone_of_none hd, rollOn_of_none _ hr, classifyLatched_of_nil _ h1, purgeSlots_of_empty h2, finishConfs_of_nil h3, reconsider_of_none h4,
    showStatus_of_shown h6, hubDrain_of_nil h5]

theorem settled_next (s : State) : settled (.next s) = .next s.settle := rfl

end Sys2Proof.Machine
end

