-- ==== Sys2Proof/Laws/Quiet.lean ====
section
/-! SUPPORT. What keeps a quiet state quiet, and a descriptor command as its dispatch. -/

namespace Sys2Proof.Machine

open Sys2Proof

/-- A state that agrees with a quiet one in what `Quiet` speaks of is quiet. -/
theorem quiet_of_agree {s t : State} (h : s.Quiet) (hl : t.fit.latched = s.fit.latched) (hs : t.sht = s.sht)
    (hc : t.mesh.confs = s.mesh.confs) (hw : t.rings.work = s.rings.work) (hh : t.hub.waiting = s.hub.waiting)
    (hv : t.vault.sessions = s.vault.sessions) (hr : ∀ f i, f.counts = true → t.rd f i = s.rd f i)
    (hd : t.power.hotDue = s.power.hotDue := by rfl) (hu : t.thm.rolling = s.thm.rolling := by rfl) : t.Quiet := by
  obtain ⟨h1, h2, h3, h4, h5, h6, h7, g1, g2, g3, g4, g5⟩ := h
  refine ⟨hl ▸ h1, hs ▸ h2, hc ▸ h3, hw ▸ h4, hh ▸ h5, hd ▸ h6, hu ▸ h7, ?_, ?_, ?_, ?_, ?_⟩
  · unfold State.shows at *
    rw [hr _ _ rfl, g1]
    unfold State.heldCount
    rw [hw]
  · unfold State.shows at *
    rw [hr _ _ rfl, g2]
    unfold State.openSessions
    rw [hv]
  · intro r hr'
    have := g3 r hr'
    unfold State.shows at *
    rw [hr _ _ rfl, this]
    unfold State.ringInFlight
    rw [hs]
  · intro r hr'
    have := g4 r hr'
    unfold State.shows at *
    rw [hr _ _ rfl, this]
    unfold State.ringWaiting
    rw [hs]
  · intro p hp
    have := g5 p hp
    unfold State.shows at *
    rw [hr _ _ rfl, this]
    unfold State.filledSlots State.pipe
    rw [hs]

theorem quiet_wr {s : State} (h : s.Quiet) (f : Fld) (i v : Nat) (hf : f.counts = false) : (s.wr f i v).Quiet := by
  refine quiet_of_agree h rfl rfl rfl rfl rfl rfl ?_
  intro g j hg
  refine rd_wr_ne s v ?_
  rintro rfl
  rw [hg] at hf
  cases hf

theorem quiet_count {s : State} (h : s.Quiet) (f : Fld) (i n : Nat) (hf : f.counts = false) : (s.count f i n).Quiet :=
  quiet_wr h f i _ hf

theorem quiet_countSat {s : State} (h : s.Quiet) (f : Fld) (i n : Nat) (hf : f.counts = false) :
    (s.countSat f i n).Quiet := quiet_wr h f i _ hf

theorem quiet_setReady {s : State} (h : s.Quiet) (b : Nat) (v : Bool) : (s.setReady b v).Quiet := by
  unfold State.setReady
  split
  · exact h
  · exact quiet_wr h _ _ _ rfl

theorem quiet_setFit {s : State} (h : s.Quiet) (x : FitState) (hx : x.latched = s.fit.latched) : (s.setFit x).Quiet :=
  quiet_of_agree h hx rfl rfl rfl rfl rfl (fun _ _ _ => rfl)

theorem quiet_setErr {s : State} (h : s.Quiet) (x : ErrState) : (s.setErr x).Quiet :=
  quiet_of_agree h rfl rfl rfl rfl rfl rfl (fun _ _ _ => rfl)

theorem quiet_setThm {s : State} (h : s.Quiet) (x : Thm) (hx : x.rolling = s.thm.rolling) : (s.setThm x).Quiet :=
  quiet_of_agree h rfl rfl rfl rfl rfl rfl (fun _ _ _ => rfl) rfl hx

theorem quiet_setBolt {s : State} (h : s.Quiet) (x : Bolt) : (s.setBolt x).Quiet :=
  quiet_of_agree h rfl rfl rfl rfl rfl rfl (fun _ _ _ => rfl)

theorem quiet_setDdr {s : State} (h : s.Quiet) (x : Ddr) : (s.setDdr x).Quiet :=
  quiet_of_agree h rfl rfl rfl rfl rfl rfl (fun _ _ _ => rfl)

theorem quiet_setChan {s : State} (h : s.Quiet) (c : Nat) (x : DdrChan) : (s.setChan c x).Quiet :=
  quiet_of_agree h rfl rfl rfl rfl rfl rfl (fun _ _ _ => rfl)

theorem quiet_setNd {s : State} (h : s.Quiet) (n : Nat) (x : Needle) : (s.setNd n x).Quiet :=
  quiet_of_agree h rfl rfl rfl rfl rfl rfl (fun _ _ _ => rfl)

theorem quiet_setTack {s : State} (h : s.Quiet) (x : Tack) : (s.setTack x).Quiet :=
  quiet_of_agree h rfl rfl rfl rfl rfl rfl (fun _ _ _ => rfl)

theorem quiet_emit {s : State} (h : s.Quiet) (o : Out) : (s.emit o).Quiet :=
  quiet_of_agree h rfl rfl rfl rfl rfl rfl (fun _ _ _ => rfl)

theorem quiet_hostWrite {s : State} (h : s.Quiet) (fn a : Nat) (bs : List Byte) : (s.hostWrite fn a bs).Quiet := by
  unfold State.hostWrite State.post
  split
  · exact quiet_of_agree h rfl rfl rfl rfl rfl rfl (fun _ _ _ => rfl)
  · exact h

theorem quiet_hostRead {s : State} (h : s.Quiet) (fn a n : Nat) : (s.hostRead fn a n).Quiet := by
  unfold State.hostRead
  split
  · exact quiet_emit h _
  · exact h

theorem quiet_setSq {s : State} (h : s.Quiet) (n : Nat) (q : SqDyn) : (s.setSq n q).Quiet :=
  quiet_of_agree h rfl rfl rfl rfl rfl rfl (fun _ _ _ => rfl)

theorem quiet_setCq {s : State} (h : s.Quiet) (n : Nat) (q : CqDyn) : (s.setCq n q).Quiet :=
  quiet_of_agree h rfl rfl rfl rfl rfl rfl (fun _ _ _ => rfl)

theorem quiet_each {s : State} (h : s.Quiet) (n : Nat) (f : Nat → State → State)
    (hf : ∀ i t, t.Quiet → (f i t).Quiet) : (s.each n f).Quiet := by
  unfold State.each
  induction List.range n generalizing s with
  | nil => exact h
  | cons a l ih => exact ih (hf a s h)

/-- A descriptor command that is dispatched at once is its operation. -/
theorem submit_of_dispatches {s : State} {opcode sq : Nat} {d : Desc} {h : HostView} {fin : InvokeEnd} {flag : Bool}
    (hd : (s.withWork (workOf opcode sq d h fin flag)).Dispatches (workOf opcode sq d h fin flag)) :
    s.submit opcode sq d h fin flag
      = performByOpcode (workOf opcode sq d h fin flag) (s.withWork (workOf opcode sq d h fin flag)) := by
  obtain ⟨h1, h2, h3, h4⟩ := hd
  have hc : (s.fetched (workOf opcode sq d h fin flag)).consider (workOf opcode sq d h fin flag)
      = performByOpcode (workOf opcode sq d h fin flag) (s.withWork (workOf opcode sq d h fin flag)) := by
    have e1 : (s.fetched (workOf opcode sq d h fin flag)).isFenced (workOf opcode sq d h fin flag) = false := h1
    have e3 : (s.fetched (workOf opcode sq d h fin flag)).unmet (workOf opcode sq d h fin flag) = 0 := h3
    have e4 : (s.fetched (workOf opcode sq d h fin flag)).mustWait (workOf opcode sq d h fin flag) = false := h4
    unfold State.consider
    rw [e1]
    have h2' : ¬((workOf opcode sq d h fin flag).opcode = 0x0102 ∧ (workOf opcode sq d h fin flag).block = none) :=
      fun hx => h2 hx.1 hx.2
    simp only [Bool.false_eq_true, if_false, h2', e3, e4, Bool.and_false, ne_eq, not_true]
    rfl
  rw [← hc]
  unfold State.submit State.fetched workOf
  simp only
  split <;> rename_i hx <;> simp only [hx]

end Sys2Proof.Machine
end

