-- ==== Sys2Proof/Laws/Checks.lean ====
section
/-! SUPPORT. The checks of a descriptor operation: one that passes goes on, a read that is answered gives its bytes. -/

namespace Sys2Proof.Machine

open Sys2Proof

theorem chk_bind {α β : Type} {f : α → Chk β} {x : Chk α} {a : α} (h : x = .ok a) : (x >>= f) = f a := by rw [h]; rfl

theorem chk_bind_error {α β : Type} {f : α → Chk β} {x : Chk α} {e : Fail} (h : x = .error e) :
    (x >>= f) = .error e := by rw [h]; rfl

theorem need_ok {b : Bool} {f : Fail} (h : b = true) : need b f = .ok () := by simp [need, h]

theorem needField_ok {b : Bool} {o : Nat} (h : b = true) : needField b o = .ok () := need_ok h

theorem needFn_ok {b : Bool} (h : b = true) : needFn b = .ok () := need_ok h

theorem needQuota_ok {b : Bool} {n : Nat} (h : b = true) : needQuota b n = .ok () := need_ok h

theorem needFields_ok {l : List (Nat × Bool)} (h : badOffset l = none) : needFields l = .ok () := by
  simp [needFields, h]

theorem needFields_bad {l : List (Nat × Bool)} {o : Nat} (h : badOffset l = some o) :
    needFields l = .error (fail stBadDescriptor o) := by simp [needFields, h]

theorem settleChk_pure (s t : State) (w : Work) : s.settleChk w (pure t) = t := rfl

theorem settleChk_ok (s t : State) (w : Work) : s.settleChk w (.ok t) = t := rfl

/-- A check that fails completes its descriptor, with nothing reported where no entry's tag and no read failed. -/
theorem settleChk_fail (s : State) (w : Work) {st : Nat} (h : st ≠ stDmaFault) (o d c : Nat) :
    s.settleChk w (.error (fail st o d c)) = s.complete w st (resultOf o d c) := by
  have h' : (fail st o d c).status ≠ stDmaFault := h
  simp only [State.settleChk, State.failWork, if_neg h']
  rfl

theorem readOr_some {s : State} {w : Work} {a n : Nat} {dst : Nat × Nat} {k : List Byte → State} {bs : List Byte}
    (h : viewRead w.h a n = some bs) : s.readOr w a n dst k = k bs := by simp [State.readOr, h]

theorem completeIf_eq (s : State) (w : Work) (ok : Bool) :
    s.completeIf w ok 0 = s.complete w (if ok then stOk else stVerifyFalse) 0 := by
  unfold State.completeIf
  cases ok <;> rfl

/-! What fetching a descriptor leaves. -/

@[simp] theorem withWork_time (s : State) (w : Work) : (s.withWork w).time = s.time := by
  unfold State.withWork State.serveWork State.operandReads State.fetched; split <;> rfl
@[simp] theorem withWork_regs (s : State) (w : Work) : (s.withWork w).regs = s.regs := by
  unfold State.withWork State.serveWork State.operandReads State.fetched; split <;> rfl
@[simp] theorem withWork_part (s : State) (w : Work) : (s.withWork w).part = s.part := by
  unfold State.withWork State.serveWork State.operandReads State.fetched; split <;> rfl
@[simp] theorem withWork_host (s : State) (w : Work) : (s.withWork w).host = s.host := by
  unfold State.withWork State.serveWork State.operandReads State.fetched; split <;> rfl
@[simp] theorem withWork_fns (s : State) (w : Work) : (s.withWork w).pcie.fns = s.pcie.fns := by
  unfold State.withWork State.serveWork State.operandReads State.fetched; split <;> rfl
@[simp] theorem withWork_vault (s : State) (w : Work) : (s.withWork w).vault = s.vault := by
  unfold State.withWork State.serveWork State.operandReads State.fetched; split <;> rfl
@[simp] theorem withWork_err (s : State) (w : Work) : (s.withWork w).err = s.err := by
  unfold State.withWork State.serveWork State.operandReads State.fetched; split <;> rfl
@[simp] theorem withWork_fit (s : State) (w : Work) : (s.withWork w).fit = s.fit := by
  unfold State.withWork State.serveWork State.operandReads State.fetched; split <;> rfl

end Sys2Proof.Machine
end

