-- ==== Sys2Proof/Laws/PerInstr.lean ====
section
/-! SUPPORT. A property of every command as syntax: the numbered units a well-formed command names exist on the part. -/

namespace Sys2Proof.Laws.Numbered

/-- The units a command names by number, each with how many of its kind the spec numbers: submission queues, functions,
engines, pipelines, retire rings, Bolt banks, Hub masters, task inputs, pins, timers, islands, channels, ranks, members,
shards, ports. -/
def numbers : Instr → List (Nat × Nat)
  | .powerOnReset => []
  | .powerOnResetRelease => []
  | .sysRstNAssert _ => []
  | .perstNAssert => []
  | .perstNRelease => []
  | .hotReset => []
  | .dlDown => []
  | .linkTrained => []
  | .flrPf0 => []
  | .flrVf n => [(n, 256)]
  | .d3hotToD0 => []
  | .busMasterEnableSet fn _ => [(fn, 256)]
  | .bar0BadAccess a _ => [(a.fn, 256)]
  | .gatedBlockAccess a _ => [(a.fn, 256)]
  | .registerWrite a => [(a.fn, 256)]
  | .setupLockRequest => []
  | .lockCheckDone => []
  | .ringVfLockRequest fn => [(fn, 256)]
  | .vfLockCheckDone fn => [(fn, 256)]
  | .lcReqDeploy _ => []
  | .ndlEngineReset n => [(n, 65)]
  | .ndlModeWrite n _ _ => [(n, 65)]
  | .msixUnmask fn vector => [(fn, 256), (vector, 2048)]
  | .sweepIssue => []
  | .sweepReturn _ => []
  | .doorbellReadReturn sq _ => [(sq, 4096)]
  | .descriptorLand sq _ => [(sq, 4096)]
  | .casReturn _ _ => []
  | .clearRereadReturn sq _ => [(sq, 4096)]
  | .fetchFail sq _ _ => [(sq, 4096)]
  | .summaryReadFail _ _ => []
  | .readyBitSet bit => [(bit, 64)]
  | .holdLimitExpiry sq _ => [(sq, 4096)]
  | .cqCoalTimer cq => [(cq, 4097)]
  | .statusPageWrite => []
  | .errConsumerReadReturn _ => []
  | .stream sq _ _ => [(sq, 4096)]
  | .streamCmd sq _ _ => [(sq, 4096)]
  | .sign sq _ _ => [(sq, 4096)]
  | .verify sq _ _ => [(sq, 4096)]
  | .ecdh sq _ _ => [(sq, 4096)]
  | .rsaEncrypt sq _ _ => [(sq, 4096)]
  | .rsaDecrypt sq _ _ => [(sq, 4096)]
  | .kemEncaps sq _ _ => [(sq, 4096)]
  | .kemDecaps sq _ _ => [(sq, 4096)]
  | .pubkeyExport sq _ _ => [(sq, 4096)]
  | .mac sq _ _ => [(sq, 4096)]
  | .macVerify sq _ _ => [(sq, 4096)]
  | .passwordVerify sq _ _ => [(sq, 4096)]
  | .passwordHash sq _ _ => [(sq, 4096)]
  | .passwordDerive sq _ _ => [(sq, 4096)]
  | .create sq _ _ => [(sq, 4096)]
  | .importKey sq _ _ => [(sq, 4096)]
  | .exportWrapped sq _ _ => [(sq, 4096)]
  | .derive sq _ _ => [(sq, 4096)]
  | .rotate sq _ _ => [(sq, 4096)]
  | .destroy sq _ _ => [(sq, 4096)]
  | .query sq _ _ => [(sq, 4096)]
  | .rewrapStart sq _ _ => [(sq, 4096)]
  | .rewrapStatus sq _ _ => [(sq, 4096)]
  | .backupSeal sq _ _ => [(sq, 4096)]
  | .backupRestore sq _ _ => [(sq, 4096)]
  | .openSession sq _ _ => [(sq, 4096)]
  | .update sq _ _ => [(sq, 4096)]
  | .final sq _ _ => [(sq, 4096)]
  | .close sq _ _ => [(sq, 4096)]
  | .migrate sq _ _ => [(sq, 4096)]
  | .migrateTimeout peer _ => [(peer, 1024)]
  | .load sq _ _ => [(sq, 4096)]
  | .invoke sq _ _ _ => [(sq, 4096)]
  | .unload sq _ _ => [(sq, 4096)]
  | .join sq _ _ => [(sq, 4096)]
  | .leave sq _ _ => [(sq, 4096)]
  | .shardConfig sq _ _ => [(sq, 4096)]
  | .memberQuery sq _ _ => [(sq, 4096)]
  | .takeover sq _ _ => [(sq, 4096)]
  | .nop sq _ _ => [(sq, 4096)]
  | .errorRingSetup sq _ _ => [(sq, 4096)]
  | .profileChange sq _ _ => [(sq, 4096)]
  | .retire sq _ _ => [(sq, 4096)]
  | .restore sq _ _ _ => [(sq, 4096)]
  | .selfTest sq _ _ _ => [(sq, 4096)]
  | .ringRestart sq _ _ => [(sq, 4096)]
  | .ringClass sq _ _ => [(sq, 4096)]
  | .vectorRetarget sq _ _ => [(sq, 4096)]
  | .tenantLimits sq _ _ => [(sq, 4096)]
  | .streamAdmit _ => []
  | .chunkSourceLand _ _ _ => []
  | .keyScheduleBuilt pipe => [(pipe, 16)]
  | .jobFinish pipe _ => [(pipe, 16)]
  | .outputDrainDone _ _ => []
  | .streamRetire ring => [(ring, 16)]
  | .seamAbort _ => []
  | .selftestInterval => []
  | .selfTestEnd pipe _ => [(pipe, 16)]
  | .stitchQuadDrained => []
  | .rewrapSweepStep => []
  | .freeListRebuildDone => []
  | .bundleIssue f => [(f.n, 65)]
  | .lockupClearDone n => [(n, 65)]
  | .unitResultPush n _ => [(n, 65)]
  | .longOpComplete n => [(n, 65)]
  | .loadReturn n _ => [(n, 65)]
  | .directLoadWrite n _ => [(n, 65)]
  | .storePerform n => [(n, 65)]
  | .storeFaultReport n _ => [(n, 65)]
  | .gatherElementFault n _ _ => [(n, 65)]
  | .vgatherFfCount n => [(n, 65)]
  | .budgetExpiry n => [(n, 65)]
  | .fitterInterrupt n => [(n, 65)]
  | .debugHalt n => [(n, 65)]
  | .watchdogExpiry n => [(n, 65)]
  | .critWindowExpiry n => [(n, 65)]
  | .boltCycle _ => []
  | .boltScrubRead _ _ => []
  | .bankIdleTimeout bank => [(bank, 48)]
  | .bankWakeDone bank => [(bank, 48)]
  | .vaultReadbackDone _ => []
  | .donorCopyDone bank => [(bank, 48)]
  | .cacheWritebackDone => []
  | .hubRequest _ => []
  | .hubResponse master _ => [(master, 16)]
  | .tackCycle => []
  | .tackDelivery input => [(input, 512)]
  | .checkpointMirrorDone => []
  | .gpioEdge pin _ => [(pin, 16)]
  | .periTimerExpiry timer => [(timer, 8)]
  | .missingEdge => []
  | .xtalJudgedStable => []
  | .rootPllLock => []
  | .divisorSwitch island _ => [(island, 85)]
  | .droopStretch island _ => [(island, 85)]
  | .islandReset island => [(island, 85)]
  | .ddrTrainingDone ch _ => [(ch, 8)]
  | .ddrRestoreDone r => [(r.ch, 8)]
  | .dqsOscInterval ch rank _ => [(ch, 8), (rank, 4)]
  | .zqCalInterval ch rank => [(ch, 8), (rank, 4)]
  | .ddrRefresh ch _ => [(ch, 8)]
  | .rankSweepBurst ch rank => [(ch, 8), (rank, 4)]
  | .rankSweepEnd ch rank _ => [(ch, 8), (rank, 4)]
  | .patrolScrubStep ch _ _ => [(ch, 8)]
  | .ddrAccess _ => []
  | .ddrSpprDone r => [(r.ch, 8)]
  | .migrationGranuleCopy _ => []
  | .keepalive f _ _ => [(f.port, 4), (f.src, 1024), (f.dst, 1024)]
  | .membership f _ => [(f.port, 4), (f.src, 1024), (f.dst, 1024)]
  | .shardWrite f _ => [(f.port, 4), (f.src, 1024), (f.dst, 1024)]
  | .shardReply f _ _ => [(f.port, 4), (f.src, 1024), (f.dst, 1024)]
  | .forward f _ => [(f.port, 4), (f.src, 1024), (f.dst, 1024)]
  | .claim f _ => [(f.port, 4), (f.src, 1024), (f.dst, 1024)]
  | .claimReply f _ _ => [(f.port, 4), (f.src, 1024), (f.dst, 1024)]
  | .reload f _ => [(f.port, 4), (f.src, 1024), (f.dst, 1024)]
  | .handoff f _ => [(f.port, 4), (f.src, 1024), (f.dst, 1024)]
  | .handoffReply f _ => [(f.port, 4), (f.src, 1024), (f.dst, 1024)]
  | .ack f => [(f.port, 4), (f.src, 1024), (f.dst, 1024)]
  | .keepaliveTimer => []
  | .peerLostTimeout device => [(device, 1024)]
  | .retransmitTimer peer => [(peer, 1024)]
  | .ackTimer peer => [(peer, 1024)]
  | .joinTimeout => []
  | .claimRetryTimer shard => [(shard, 256)]
  | .berWindowEnd port _ _ => [(port, 4)]
  | .renegotiationDone port _ => [(port, 4)]
  | .svLinkUp l => [(l.port, 4)]
  | .tapeSample x => [(x.island, 85)]
  | .hbOutToggle => []
  | .livenessDeadlineMiss _ => []
  | .fitterRestart => []
  | .fitterAlive => []
  | .bucketSliceAdvance _ => []
  | .retirementLogWrite => []
  | .coalWindowClose _ _ => []
  | .policyInterval => []
  | .adaptPeriod _ => []
  | .thermalSample _ => []
  | .powerWindow _ => []
  | .profileSwitchDone => []
  | .stage1Verified _ _ => []
  | .imageVerified _ _ => []
  | .trngStartupDone => []
  | .trngHealthFail _ => []
  | .drbgReseed => []
  | .tamperTrip _ _ => []
  | .thimbleWatchdogExpiry => []
  | .thermalTrip => []
  | .debugUnlock _ => []
  | .spdmRequest _ => []
  | .fwWrite _ _ _ => []
  | .fwActivate _ _ => []
  | .fwCommit _ => []
  | .fwRevert _ => []
  | .meshKeyInstall _ _ _ => []
  | .lcRetire _ => []
  | .completionTimeout sq _ => [(sq, 4096)]
  | .sysRstNRelease => []
  | .svLinkDown port => [(port, 4)]
  | .aerError _ => []
  | .jtagProvisionRequest => []

/-- A well-formed command names only units that exist. -/
def Statement (i : Instr) : Prop := i.wf = true → ∀ p ∈ numbers i, p.1 < p.2

/-- A command that names no unit by number. -/
theorem numbered_nil {i : Instr} (h : numbers i = []) : Statement i := by
  intro _ p hp
  rw [h] at hp
  cases hp

/-- A command whose check implies that the units it names exist. -/
theorem numbered_by {i : Instr} {l : List (Nat × Nat)} {b : Bool} (hn : numbers i = l) (hw : i.wf = b)
    (h : b = true → ∀ p ∈ l, p.1 < p.2) : Statement i := by
  intro hi
  rw [hn]
  exact h (hw ▸ hi)

/-- A descriptor command. -/
theorem numbered_descriptor {i : Instr} {sq : Nat} {d : Desc} (hn : numbers i = [(sq, 4096)])
    (hw : i.wf = (ringOk sq && d.wf)) : Statement i := by
  refine numbered_by hn hw fun h => ?_
  simp only [Bool.and_eq_true, ringOk, decide_eq_true_eq] at h
  simpa using h.1

theorem powerOnReset : Statement .powerOnReset :=
  numbered_nil rfl

theorem powerOnResetRelease : Statement .powerOnResetRelease :=
  numbered_nil rfl

theorem sysRstNAssert (x0 : Bool) : Statement (.sysRstNAssert x0) :=
  numbered_nil rfl

theorem perstNAssert : Statement .perstNAssert :=
  numbered_nil rfl

theorem perstNRelease : Statement .perstNRelease :=
  numbered_nil rfl

theorem hotReset : Statement .hotReset :=
  numbered_nil rfl

theorem dlDown : Statement .dlDown :=
  numbered_nil rfl

theorem linkTrained : Statement .linkTrained :=
  numbered_nil rfl

theorem flrPf0 : Statement .flrPf0 :=
  numbered_nil rfl

theorem flrVf (n : Nat) : Statement (.flrVf n) :=
  numbered_by (l := [(n, 256)]) (b := decide (1 ≤ n ∧ n ≤ 255)) rfl rfl (by simp; omega)

theorem d3hotToD0 : Statement .d3hotToD0 :=
  numbered_nil rfl

theorem busMasterEnableSet (fn : Nat) (c : CfgControls) : Statement (.busMasterEnableSet fn c) :=
  numbered_by (l := [(fn, 256)]) (b := fnOk fn && decide (c.mps ≤ 5 ∧ c.mrrs ≤ 5 ∧ c.numVfs ≤ 255 ∧
      c.bar0 < 2 ^ 64 ∧ c.vfBar0 < 2 ^ 64 ∧ 4096 ≤ c.pageSize)) rfl rfl (by simp [fnOk]; omega)

theorem bar0BadAccess (a : RegAccess) (x1 : Bool) : Statement (.bar0BadAccess a x1) :=
  numbered_by (l := [(a.fn, 256)]) (b := fnOk a.fn) rfl rfl (by simp [fnOk]; omega)

theorem gatedBlockAccess (a : RegAccess) (x1 : Bool) : Statement (.gatedBlockAccess a x1) :=
  numbered_by (l := [(a.fn, 256)]) (b := a.wf) rfl rfl (by simp [fnOk, RegAccess.wf]; omega)

theorem registerWrite (a : RegAccess) : Statement (.registerWrite a) :=
  numbered_by (l := [(a.fn, 256)]) (b := a.wf) rfl rfl (by simp [fnOk, RegAccess.wf]; omega)

theorem setupLockRequest : Statement .setupLockRequest :=
  numbered_nil rfl

theorem lockCheckDone : Statement .lockCheckDone :=
  numbered_nil rfl

theorem ringVfLockRequest (fn : Nat) : Statement (.ringVfLockRequest fn) :=
  numbered_by (l := [(fn, 256)]) (b := decide (1 ≤ fn ∧ fn ≤ 255)) rfl rfl (by simp; omega)

theorem vfLockCheckDone (fn : Nat) : Statement (.vfLockCheckDone fn) :=
  numbered_by (l := [(fn, 256)]) (b := decide (1 ≤ fn ∧ fn ≤ 255)) rfl rfl (by simp; omega)

theorem lcReqDeploy (x0 : W32) : Statement (.lcReqDeploy x0) :=
  numbered_nil rfl

theorem ndlEngineReset (n : Nat) : Statement (.ndlEngineReset n) :=
  numbered_by (l := [(n, 65)]) (b := engineOk n) rfl rfl (by simp [engineOk]; omega)

theorem ndlModeWrite (n : Nat) (x1 : Bool) (x2 : Bool) : Statement (.ndlModeWrite n x1 x2) :=
  numbered_by (l := [(n, 65)]) (b := engineOk n) rfl rfl (by simp [engineOk]; omega)

theorem msixUnmask (fn : Nat) (v : Nat) : Statement (.msixUnmask fn v) :=
  numbered_by (l := [(fn, 256), (v, 2048)]) (b := fnOk fn && decide (v < 2048)) rfl rfl (by simp [fnOk]; omega)

theorem sweepIssue : Statement .sweepIssue :=
  numbered_nil rfl

theorem sweepReturn (ws : List W64) : Statement (.sweepReturn ws) :=
  numbered_nil rfl

theorem doorbellReadReturn (sq : Nat) (x1 : W64) : Statement (.doorbellReadReturn sq x1) :=
  numbered_by (l := [(sq, 4096)]) (b := ringOk sq) rfl rfl (by simp [ringOk])

theorem descriptorLand (sq : Nat) (ds : List (W16 × Desc × HostView)) : Statement (.descriptorLand sq ds) :=
  numbered_by (l := [(sq, 4096)]) (b := ringOk sq && ds.all (fun e => e.2.1.wf)) rfl rfl (by simp [ringOk]; omega)

theorem casReturn (word : Nat) (x1 : CasResult) : Statement (.casReturn word x1) :=
  numbered_nil rfl

theorem clearRereadReturn (sq : Nat) (x1 : W64) : Statement (.clearRereadReturn sq x1) :=
  numbered_by (l := [(sq, 4096)]) (b := ringOk sq) rfl rfl (by simp [ringOk])

theorem fetchFail (sq : Nat) (a : Nat) (x2 : ReadFail) : Statement (.fetchFail sq a x2) :=
  numbered_by (l := [(sq, 4096)]) (b := ringOk sq && decide (a < 2 ^ 64)) rfl rfl (by simp [ringOk]; omega)

theorem summaryReadFail (a : Nat) (x1 : ReadFail) : Statement (.summaryReadFail a x1) :=
  numbered_nil rfl

theorem readyBitSet (b : Nat) : Statement (.readyBitSet b) :=
  numbered_by (l := [(b, 64)]) (b := decide (b < 64)) rfl rfl (by simp)

theorem holdLimitExpiry (sq : Nat) (x1 : W16) : Statement (.holdLimitExpiry sq x1) :=
  numbered_by (l := [(sq, 4096)]) (b := ringOk sq) rfl rfl (by simp [ringOk])

theorem cqCoalTimer (c : Nat) : Statement (.cqCoalTimer c) :=
  numbered_by (l := [(c, 4097)]) (b := decide (c ≤ 4096)) rfl rfl (by simp; omega)

theorem statusPageWrite : Statement .statusPageWrite :=
  numbered_nil rfl

theorem errConsumerReadReturn (x0 : W32) : Statement (.errConsumerReadReturn x0) :=
  numbered_nil rfl

theorem stream (sq : Nat) (d : Desc) (x2 : HostView) : Statement (.stream sq d x2) :=
  numbered_descriptor rfl rfl

theorem streamCmd (sq : Nat) (d : Desc) (x2 : HostView) : Statement (.streamCmd sq d x2) :=
  numbered_descriptor rfl rfl

theorem sign (sq : Nat) (d : Desc) (x2 : HostView) : Statement (.sign sq d x2) :=
  numbered_descriptor rfl rfl

theorem verify (sq : Nat) (d : Desc) (x2 : HostView) : Statement (.verify sq d x2) :=
  numbered_descriptor rfl rfl

theorem ecdh (sq : Nat) (d : Desc) (x2 : HostView) : Statement (.ecdh sq d x2) :=
  numbered_descriptor rfl rfl

theorem rsaEncrypt (sq : Nat) (d : Desc) (x2 : HostView) : Statement (.rsaEncrypt sq d x2) :=
  numbered_descriptor rfl rfl

theorem rsaDecrypt (sq : Nat) (d : Desc) (x2 : HostView) : Statement (.rsaDecrypt sq d x2) :=
  numbered_descriptor rfl rfl

theorem kemEncaps (sq : Nat) (d : Desc) (x2 : HostView) : Statement (.kemEncaps sq d x2) :=
  numbered_descriptor rfl rfl

theorem kemDecaps (sq : Nat) (d : Desc) (x2 : HostView) : Statement (.kemDecaps sq d x2) :=
  numbered_descriptor rfl rfl

theorem pubkeyExport (sq : Nat) (d : Desc) (x2 : HostView) : Statement (.pubkeyExport sq d x2) :=
  numbered_descriptor rfl rfl

theorem mac (sq : Nat) (d : Desc) (x2 : HostView) : Statement (.mac sq d x2) :=
  numbered_descriptor rfl rfl

theorem macVerify (sq : Nat) (d : Desc) (x2 : HostView) : Statement (.macVerify sq d x2) :=
  numbered_descriptor rfl rfl

theorem passwordVerify (sq : Nat) (d : Desc) (x2 : HostView) : Statement (.passwordVerify sq d x2) :=
  numbered_descriptor rfl rfl

theorem passwordHash (sq : Nat) (d : Desc) (x2 : HostView) : Statement (.passwordHash sq d x2) :=
  numbered_descriptor rfl rfl

theorem passwordDerive (sq : Nat) (d : Desc) (x2 : HostView) : Statement (.passwordDerive sq d x2) :=
  numbered_descriptor rfl rfl

theorem create (sq : Nat) (d : Desc) (x2 : HostView) : Statement (.create sq d x2) :=
  numbered_descriptor rfl rfl

theorem importKey (sq : Nat) (d : Desc) (x2 : HostView) : Statement (.importKey sq d x2) :=
  numbered_descriptor rfl rfl

theorem exportWrapped (sq : Nat) (d : Desc) (x2 : HostView) : Statement (.exportWrapped sq d x2) :=
  numbered_descriptor rfl rfl

theorem derive (sq : Nat) (d : Desc) (x2 : HostView) : Statement (.derive sq d x2) :=
  numbered_descriptor rfl rfl

theorem rotate (sq : Nat) (d : Desc) (x2 : HostView) : Statement (.rotate sq d x2) :=
  numbered_descriptor rfl rfl

theorem destroy (sq : Nat) (d : Desc) (x2 : HostView) : Statement (.destroy sq d x2) :=
  numbered_descriptor rfl rfl

theorem query (sq : Nat) (d : Desc) (x2 : HostView) : Statement (.query sq d x2) :=
  numbered_descriptor rfl rfl

theorem rewrapStart (sq : Nat) (d : Desc) (x2 : HostView) : Statement (.rewrapStart sq d x2) :=
  numbered_descriptor rfl rfl

theorem rewrapStatus (sq : Nat) (d : Desc) (x2 : HostView) : Statement (.rewrapStatus sq d x2) :=
  numbered_descriptor rfl rfl

theorem backupSeal (sq : Nat) (d : Desc) (x2 : HostView) : Statement (.backupSeal sq d x2) :=
  numbered_descriptor rfl rfl

theorem backupRestore (sq : Nat) (d : Desc) (x2 : HostView) : Statement (.backupRestore sq d x2) :=
  numbered_descriptor rfl rfl

theorem openSession (sq : Nat) (d : Desc) (x2 : HostView) : Statement (.openSession sq d x2) :=
  numbered_descriptor rfl rfl

theorem update (sq : Nat) (d : Desc) (x2 : HostView) : Statement (.update sq d x2) :=
  numbered_descriptor rfl rfl

theorem final (sq : Nat) (d : Desc) (x2 : HostView) : Statement (.final sq d x2) :=
  numbered_descriptor rfl rfl

theorem close (sq : Nat) (d : Desc) (x2 : HostView) : Statement (.close sq d x2) :=
  numbered_descriptor rfl rfl

theorem migrate (sq : Nat) (d : Desc) (x2 : HostView) : Statement (.migrate sq d x2) :=
  numbered_descriptor rfl rfl

theorem migrateTimeout (peer : Nat) (seq : Nat) : Statement (.migrateTimeout peer seq) :=
  numbered_by (l := [(peer, 1024)]) (b := deviceOk peer && decide (seq < 2 ^ 64)) rfl rfl (by simp [deviceOk]; omega)

theorem load (sq : Nat) (d : Desc) (x2 : HostView) : Statement (.load sq d x2) :=
  numbered_descriptor rfl rfl

theorem invoke (sq : Nat) (d : Desc) (x2 : HostView) (x3 : InvokeEnd) : Statement (.invoke sq d x2 x3) :=
  numbered_descriptor rfl rfl

theorem unload (sq : Nat) (d : Desc) (x2 : HostView) : Statement (.unload sq d x2) :=
  numbered_descriptor rfl rfl

theorem join (sq : Nat) (d : Desc) (x2 : HostView) : Statement (.join sq d x2) :=
  numbered_descriptor rfl rfl

theorem leave (sq : Nat) (d : Desc) (x2 : HostView) : Statement (.leave sq d x2) :=
  numbered_descriptor rfl rfl

theorem shardConfig (sq : Nat) (d : Desc) (x2 : HostView) : Statement (.shardConfig sq d x2) :=
  numbered_descriptor rfl rfl

theorem memberQuery (sq : Nat) (d : Desc) (x2 : HostView) : Statement (.memberQuery sq d x2) :=
  numbered_descriptor rfl rfl

theorem takeover (sq : Nat) (d : Desc) (x2 : HostView) : Statement (.takeover sq d x2) :=
  numbered_descriptor rfl rfl

theorem nop (sq : Nat) (d : Desc) (x2 : HostView) : Statement (.nop sq d x2) :=
  numbered_descriptor rfl rfl

theorem errorRingSetup (sq : Nat) (d : Desc) (x2 : HostView) : Statement (.errorRingSetup sq d x2) :=
  numbered_descriptor rfl rfl

theorem profileChange (sq : Nat) (d : Desc) (x2 : HostView) : Statement (.profileChange sq d x2) :=
  numbered_descriptor rfl rfl

theorem retire (sq : Nat) (d : Desc) (x2 : HostView) : Statement (.retire sq d x2) :=
  numbered_descriptor rfl rfl

theorem restore (sq : Nat) (d : Desc) (x2 : HostView) (x3 : Bool) : Statement (.restore sq d x2 x3) :=
  numbered_descriptor rfl rfl

theorem selfTest (sq : Nat) (d : Desc) (x2 : HostView) (x3 : Bool) : Statement (.selfTest sq d x2 x3) :=
  numbered_descriptor rfl rfl

theorem ringRestart (sq : Nat) (d : Desc) (x2 : HostView) : Statement (.ringRestart sq d x2) :=
  numbered_descriptor rfl rfl

theorem ringClass (sq : Nat) (d : Desc) (x2 : HostView) : Statement (.ringClass sq d x2) :=
  numbered_descriptor rfl rfl

theorem vectorRetarget (sq : Nat) (d : Desc) (x2 : HostView) : Statement (.vectorRetarget sq d x2) :=
  numbered_descriptor rfl rfl

theorem tenantLimits (sq : Nat) (d : Desc) (x2 : HostView) : Statement (.tenantLimits sq d x2) :=
  numbered_descriptor rfl rfl

theorem streamAdmit (src : AdmitFrom) : Statement (.streamAdmit src) :=
  numbered_nil rfl

theorem chunkSourceLand (x0 : Nat) (x1 : Option (List Byte)) (x2 : EccEvent) : Statement (.chunkSourceLand x0 x1 x2) :=
  numbered_nil rfl

theorem keyScheduleBuilt (p : Nat) : Statement (.keyScheduleBuilt p) :=
  numbered_by (l := [(p, 16)]) (b := pipeOk p) rfl rfl (by simp [pipeOk])

theorem jobFinish (p : Nat) (x1 : Bool) : Statement (.jobFinish p x1) :=
  numbered_by (l := [(p, 16)]) (b := pipeOk p) rfl rfl (by simp [pipeOk])

theorem outputDrainDone (x0 : Nat) (x1 : MemAnswer) : Statement (.outputDrainDone x0 x1) :=
  numbered_nil rfl

theorem streamRetire (r : Nat) : Statement (.streamRetire r) :=
  numbered_by (l := [(r, 16)]) (b := decide (r < 16)) rfl rfl (by simp)

theorem seamAbort (a : AbortAt) : Statement (.seamAbort a) :=
  numbered_nil rfl

theorem selftestInterval : Statement .selftestInterval :=
  numbered_nil rfl

theorem selfTestEnd (p : Nat) (x1 : Bool) : Statement (.selfTestEnd p x1) :=
  numbered_by (l := [(p, 16)]) (b := pipeOk p) rfl rfl (by simp [pipeOk])

theorem stitchQuadDrained : Statement .stitchQuadDrained :=
  numbered_nil rfl

theorem rewrapSweepStep : Statement .rewrapSweepStep :=
  numbered_nil rfl

theorem freeListRebuildDone : Statement .freeListRebuildDone :=
  numbered_nil rfl

theorem bundleIssue (f : BundleFetch) : Statement (.bundleIssue f) :=
  numbered_by (l := [(f.n, 65)]) (b := engineOk f.n) rfl rfl (by simp [engineOk]; omega)

theorem lockupClearDone (n : Nat) : Statement (.lockupClearDone n) :=
  numbered_by (l := [(n, 65)]) (b := engineOk n) rfl rfl (by simp [engineOk]; omega)

theorem unitResultPush (n : Nat) (u : Nat) : Statement (.unitResultPush n u) :=
  numbered_by (l := [(n, 65)]) (b := engineOk n && decide (u < 19)) rfl rfl (by simp [engineOk]; omega)

theorem longOpComplete (n : Nat) : Statement (.longOpComplete n) :=
  numbered_by (l := [(n, 65)]) (b := engineOk n) rfl rfl (by simp [engineOk]; omega)

theorem loadReturn (n : Nat) (x1 : MemAnswer) : Statement (.loadReturn n x1) :=
  numbered_by (l := [(n, 65)]) (b := engineOk n) rfl rfl (by simp [engineOk]; omega)

theorem directLoadWrite (n : Nat) (x1 : MemAnswer) : Statement (.directLoadWrite n x1) :=
  numbered_by (l := [(n, 65)]) (b := engineOk n) rfl rfl (by simp [engineOk]; omega)

theorem storePerform (n : Nat) : Statement (.storePerform n) :=
  numbered_by (l := [(n, 65)]) (b := engineOk n) rfl rfl (by simp [engineOk]; omega)

theorem storeFaultReport (n : Nat) (x1 : Bool) : Statement (.storeFaultReport n x1) :=
  numbered_by (l := [(n, 65)]) (b := engineOk n) rfl rfl (by simp [engineOk]; omega)

theorem gatherElementFault (n : Nat) (e : Nat) (x2 : Bool) : Statement (.gatherElementFault n e x2) :=
  numbered_by (l := [(n, 65)]) (b := engineOk n && decide (e < 64)) rfl rfl (by simp [engineOk]; omega)

theorem vgatherFfCount (n : Nat) : Statement (.vgatherFfCount n) :=
  numbered_by (l := [(n, 65)]) (b := engineOk n) rfl rfl (by simp [engineOk]; omega)

theorem budgetExpiry (n : Nat) : Statement (.budgetExpiry n) :=
  numbered_by (l := [(n, 65)]) (b := engineOk n) rfl rfl (by simp [engineOk]; omega)

theorem fitterInterrupt (n : Nat) : Statement (.fitterInterrupt n) :=
  numbered_by (l := [(n, 65)]) (b := engineOk n) rfl rfl (by simp [engineOk]; omega)

theorem debugHalt (n : Nat) : Statement (.debugHalt n) :=
  numbered_by (l := [(n, 65)]) (b := engineOk n) rfl rfl (by simp [engineOk]; omega)

theorem watchdogExpiry (n : Nat) : Statement (.watchdogExpiry n) :=
  numbered_by (l := [(n, 65)]) (b := engineOk n) rfl rfl (by simp [engineOk]; omega)

theorem critWindowExpiry (n : Nat) : Statement (.critWindowExpiry n) :=
  numbered_by (l := [(n, 65)]) (b := engineOk n) rfl rfl (by simp [engineOk]; omega)

theorem boltCycle (reqs : List BoltReq) : Statement (.boltCycle reqs) :=
  numbered_nil rfl

theorem boltScrubRead (x0 : EccEvent) (x1 : Bool) : Statement (.boltScrubRead x0 x1) :=
  numbered_nil rfl

theorem bankIdleTimeout (b : Nat) : Statement (.bankIdleTimeout b) :=
  numbered_by (l := [(b, 48)]) (b := bankOk b) rfl rfl (by simp [bankOk])

theorem bankWakeDone (b : Nat) : Statement (.bankWakeDone b) :=
  numbered_by (l := [(b, 48)]) (b := bankOk b) rfl rfl (by simp [bankOk])

theorem vaultReadbackDone (l : List (Nat × Nat)) : Statement (.vaultReadbackDone l) :=
  numbered_nil rfl

theorem donorCopyDone (b : Nat) : Statement (.donorCopyDone b) :=
  numbered_by (l := [(b, 48)]) (b := bankOk b) rfl rfl (by simp [bankOk])

theorem cacheWritebackDone : Statement .cacheWritebackDone :=
  numbered_nil rfl

theorem hubRequest (r : HubReq) : Statement (.hubRequest r) :=
  numbered_nil rfl

theorem hubResponse (m : Nat) (x1 : Nat) : Statement (.hubResponse m x1) :=
  numbered_by (l := [(m, 16)]) (b := decide (m < 16)) rfl rfl (by simp)

theorem tackCycle : Statement .tackCycle :=
  numbered_nil rfl

theorem tackDelivery (i : Nat) : Statement (.tackDelivery i) :=
  numbered_by (l := [(i, 512)]) (b := decide (i < 512)) rfl rfl (by simp)

theorem checkpointMirrorDone : Statement .checkpointMirrorDone :=
  numbered_nil rfl

theorem gpioEdge (p : Nat) (x1 : Bool) : Statement (.gpioEdge p x1) :=
  numbered_by (l := [(p, 16)]) (b := decide (p < 16)) rfl rfl (by simp)

theorem periTimerExpiry (t : Nat) : Statement (.periTimerExpiry t) :=
  numbered_by (l := [(t, 8)]) (b := decide (t < 8)) rfl rfl (by simp)

theorem missingEdge : Statement .missingEdge :=
  numbered_nil rfl

theorem xtalJudgedStable : Statement .xtalJudgedStable :=
  numbered_nil rfl

theorem rootPllLock : Statement .rootPllLock :=
  numbered_nil rfl

theorem divisorSwitch (i : Nat) (d : Nat) : Statement (.divisorSwitch i d) :=
  numbered_by (l := [(i, 85)]) (b := islandOk i && decide (1 ≤ d)) rfl rfl (by simp [islandOk]; omega)

theorem droopStretch (i : Nat) (x1 : Nat) : Statement (.droopStretch i x1) :=
  numbered_by (l := [(i, 85)]) (b := islandOk i) rfl rfl (by simp [islandOk])

theorem islandReset (i : Nat) : Statement (.islandReset i) :=
  numbered_by (l := [(i, 85)]) (b := islandOk i) rfl rfl (by simp [islandOk])

theorem ddrTrainingDone (c : Nat) (f : DdrFound) : Statement (.ddrTrainingDone c f) :=
  numbered_by (l := [(c, 8)]) (b := chanOk c && decide (f.die ≤ 2) && (f.ranks == 1 || f.ranks == 2 || f.ranks == 4)) rfl rfl (by simp [chanOk]; omega)

theorem ddrRestoreDone (r : ChanRestore) : Statement (.ddrRestoreDone r) :=
  numbered_by (l := [(r.ch, 8)]) (b := chanOk r.ch) rfl rfl (by simp [chanOk])

theorem dqsOscInterval (c : Nat) (r : Nat) (x2 : Int) : Statement (.dqsOscInterval c r x2) :=
  numbered_by (l := [(c, 8), (r, 4)]) (b := chanOk c && rankOk r) rfl rfl (by simp [chanOk, rankOk])

theorem zqCalInterval (c : Nat) (r : Nat) : Statement (.zqCalInterval c r) :=
  numbered_by (l := [(c, 8), (r, 4)]) (b := chanOk c && rankOk r) rfl rfl (by simp [chanOk, rankOk])

theorem ddrRefresh (c : Nat) (x1 : Bool) : Statement (.ddrRefresh c x1) :=
  numbered_by (l := [(c, 8)]) (b := chanOk c) rfl rfl (by simp [chanOk])

theorem rankSweepBurst (c : Nat) (r : Nat) : Statement (.rankSweepBurst c r) :=
  numbered_by (l := [(c, 8), (r, 4)]) (b := chanOk c && rankOk r) rfl rfl (by simp [chanOk, rankOk])

theorem rankSweepEnd (c : Nat) (r : Nat) (x2 : List LaneMargin) : Statement (.rankSweepEnd c r x2) :=
  numbered_by (l := [(c, 8), (r, 4)]) (b := chanOk c && rankOk r) rfl rfl (by simp [chanOk, rankOk])

theorem patrolScrubStep (c : Nat) (x1 : EccEvent) (x2 : Bool) : Statement (.patrolScrubStep c x1 x2) :=
  numbered_by (l := [(c, 8)]) (b := chanOk c) rfl rfl (by simp [chanOk])

theorem ddrAccess (r : DdrReq) : Statement (.ddrAccess r) :=
  numbered_nil rfl

theorem ddrSpprDone (r : RowRepair) : Statement (.ddrSpprDone r) :=
  numbered_by (l := [(r.ch, 8)]) (b := chanOk r.ch) rfl rfl (by simp [chanOk])

theorem migrationGranuleCopy (x0 : Bool) : Statement (.migrationGranuleCopy x0) :=
  numbered_nil rfl

theorem keepalive (f : FrameHdr) (x1 : Nat) (ports : Nat) : Statement (.keepalive f x1 ports) :=
  numbered_by (l := [(f.port, 4), (f.src, 1024), (f.dst, 1024)]) (b := f.wf && decide (ports < 256)) rfl rfl (by simp [portOk, deviceOk, FrameHdr.wf]; omega)

theorem membership (f : FrameHdr) (x1 : MemberBody) : Statement (.membership f x1) :=
  numbered_by (l := [(f.port, 4), (f.src, 1024), (f.dst, 1024)]) (b := f.wf) rfl rfl (by simp [portOk, deviceOk, FrameHdr.wf]; omega)

theorem shardWrite (f : FrameHdr) (b : ShardBody) : Statement (.shardWrite f b) :=
  numbered_by (l := [(f.port, 4), (f.src, 1024), (f.dst, 1024)]) (b := f.wf && (match b with | .write _ w => w.wf | .commit i => decide (i < 2 ^ 24) | .abort i => decide (i < 2 ^ 24))) rfl rfl (by simp [portOk, deviceOk, FrameHdr.wf]; omega)

theorem shardReply (f : FrameHdr) (x1 : Bool) (e : Nat) : Statement (.shardReply f x1 e) :=
  numbered_by (l := [(f.port, 4), (f.src, 1024), (f.dst, 1024)]) (b := f.wf && decide (e < 2 ^ 32)) rfl rfl (by simp [portOk, deviceOk, FrameHdr.wf]; omega)

theorem forward (f : FrameHdr) (w : TableWrite) : Statement (.forward f w) :=
  numbered_by (l := [(f.port, 4), (f.src, 1024), (f.dst, 1024)]) (b := f.wf && w.wf) rfl rfl (by simp [portOk, deviceOk, FrameHdr.wf]; omega)

theorem claim (f : FrameHdr) (c : Nat) : Statement (.claim f c) :=
  numbered_by (l := [(f.port, 4), (f.src, 1024), (f.dst, 1024)]) (b := f.wf && deviceOk c) rfl rfl (by simp [portOk, deviceOk, FrameHdr.wf]; omega)

theorem claimReply (f : FrameHdr) (x1 : Bool) (x2 : Nat) : Statement (.claimReply f x1 x2) :=
  numbered_by (l := [(f.port, 4), (f.src, 1024), (f.dst, 1024)]) (b := f.wf) rfl rfl (by simp [portOk, deviceOk, FrameHdr.wf]; omega)

theorem reload (f : FrameHdr) (x1 : ReloadBody) : Statement (.reload f x1) :=
  numbered_by (l := [(f.port, 4), (f.src, 1024), (f.dst, 1024)]) (b := f.wf) rfl rfl (by simp [portOk, deviceOk, FrameHdr.wf]; omega)

theorem handoff (f : FrameHdr) (m : SessionImage) : Statement (.handoff f m) :=
  numbered_by (l := [(f.port, 4), (f.src, 1024), (f.dst, 1024)]) (b := f.wf && m.nonce.length == 12) rfl rfl (by simp [portOk, deviceOk, FrameHdr.wf]; omega)

theorem handoffReply (f : FrameHdr) (x1 : W64) : Statement (.handoffReply f x1) :=
  numbered_by (l := [(f.port, 4), (f.src, 1024), (f.dst, 1024)]) (b := f.wf) rfl rfl (by simp [portOk, deviceOk, FrameHdr.wf]; omega)

theorem ack (f : FrameHdr) : Statement (.ack f) :=
  numbered_by (l := [(f.port, 4), (f.src, 1024), (f.dst, 1024)]) (b := f.wf) rfl rfl (by simp [portOk, deviceOk, FrameHdr.wf]; omega)

theorem keepaliveTimer : Statement .keepaliveTimer :=
  numbered_nil rfl

theorem peerLostTimeout (d : Nat) : Statement (.peerLostTimeout d) :=
  numbered_by (l := [(d, 1024)]) (b := deviceOk d) rfl rfl (by simp [deviceOk])

theorem retransmitTimer (p : Nat) : Statement (.retransmitTimer p) :=
  numbered_by (l := [(p, 1024)]) (b := deviceOk p) rfl rfl (by simp [deviceOk])

theorem ackTimer (p : Nat) : Statement (.ackTimer p) :=
  numbered_by (l := [(p, 1024)]) (b := deviceOk p) rfl rfl (by simp [deviceOk])

theorem joinTimeout : Statement .joinTimeout :=
  numbered_nil rfl

theorem claimRetryTimer (s : Nat) : Statement (.claimRetryTimer s) :=
  numbered_by (l := [(s, 256)]) (b := decide (s < 256)) rfl rfl (by simp)

theorem berWindowEnd (p : Nat) (c : List Nat) (u : Nat) : Statement (.berWindowEnd p c u) :=
  numbered_by (l := [(p, 4)]) (b := portOk p && c.length == 4) rfl rfl (by simp [portOk]; omega)

theorem renegotiationDone (p : Nat) (x1 : Bool) : Statement (.renegotiationDone p x1) :=
  numbered_by (l := [(p, 4)]) (b := portOk p) rfl rfl (by simp [portOk])

theorem svLinkUp (l : LinkUp) : Statement (.svLinkUp l) :=
  numbered_by (l := [(l.port, 4)]) (b := portOk l.port) rfl rfl (by simp [portOk])

theorem tapeSample (x : TapeInputs) : Statement (.tapeSample x) :=
  numbered_by (l := [(x.island, 85)]) (b := islandOk x.island) rfl rfl (by simp [islandOk])

theorem hbOutToggle : Statement .hbOutToggle :=
  numbered_nil rfl

theorem livenessDeadlineMiss (x0 : Bool) : Statement (.livenessDeadlineMiss x0) :=
  numbered_nil rfl

theorem fitterRestart : Statement .fitterRestart :=
  numbered_nil rfl

theorem fitterAlive : Statement .fitterAlive :=
  numbered_nil rfl

theorem bucketSliceAdvance (x0 : Nat) : Statement (.bucketSliceAdvance x0) :=
  numbered_nil rfl

theorem retirementLogWrite : Statement .retirementLogWrite :=
  numbered_nil rfl

theorem coalWindowClose (o : Nat) (c : Nat) : Statement (.coalWindowClose o c) :=
  numbered_nil rfl

theorem policyInterval : Statement .policyInterval :=
  numbered_nil rfl

theorem adaptPeriod (u : List QueueUse) : Statement (.adaptPeriod u) :=
  numbered_nil rfl

theorem thermalSample (x0 : Nat) : Statement (.thermalSample x0) :=
  numbered_nil rfl

theorem powerWindow (x0 : Nat) : Statement (.powerWindow x0) :=
  numbered_nil rfl

theorem profileSwitchDone : Statement .profileSwitchDone :=
  numbered_nil rfl

theorem stage1Verified (x0 : ImageJudge) (x1 : ImageJudge) : Statement (.stage1Verified x0 x1) :=
  numbered_nil rfl

theorem imageVerified (k : Nat) (x1 : ImageJudge) : Statement (.imageVerified k x1) :=
  numbered_nil rfl

theorem trngStartupDone : Statement .trngStartupDone :=
  numbered_nil rfl

theorem trngHealthFail (x0 : Bool) : Statement (.trngHealthFail x0) :=
  numbered_nil rfl

theorem drbgReseed : Statement .drbgReseed :=
  numbered_nil rfl

theorem tamperTrip (x0 : Nat) (x1 : Nat) : Statement (.tamperTrip x0 x1) :=
  numbered_nil rfl

theorem thimbleWatchdogExpiry : Statement .thimbleWatchdogExpiry :=
  numbered_nil rfl

theorem thermalTrip : Statement .thermalTrip :=
  numbered_nil rfl

theorem debugUnlock (x0 : Bool) : Statement (.debugUnlock x0) :=
  numbered_nil rfl

theorem spdmRequest (x0 : SpdmReq) : Statement (.spdmRequest x0) :=
  numbered_nil rfl

theorem fwWrite (x0 : VendorAuth) (x1 : Nat) (d : List Byte) : Statement (.fwWrite x0 x1 d) :=
  numbered_nil rfl

theorem fwActivate (x0 : VendorAuth) (x1 : ImageJudge) : Statement (.fwActivate x0 x1) :=
  numbered_nil rfl

theorem fwCommit (x0 : VendorAuth) : Statement (.fwCommit x0) :=
  numbered_nil rfl

theorem fwRevert (x0 : VendorAuth) : Statement (.fwRevert x0) :=
  numbered_nil rfl

theorem meshKeyInstall (x0 : VendorAuth) (k : List Byte) (x2 : W32) : Statement (.meshKeyInstall x0 k x2) :=
  numbered_nil rfl

theorem lcRetire (x0 : VendorAuth) : Statement (.lcRetire x0) :=
  numbered_nil rfl

theorem completionTimeout (sq : Nat) (x1 : W16) : Statement (.completionTimeout sq x1) :=
  numbered_by (l := [(sq, 4096)]) (b := ringOk sq) rfl rfl (by simp [ringOk])

theorem sysRstNRelease : Statement .sysRstNRelease :=
  numbered_nil rfl

theorem svLinkDown (p : Nat) : Statement (.svLinkDown p) :=
  numbered_by (l := [(p, 4)]) (b := portOk p) rfl rfl (by simp [portOk])

theorem aerError (x0 : Bool) : Statement (.aerError x0) :=
  numbered_nil rfl

theorem jtagProvisionRequest : Statement .jtagProvisionRequest :=
  numbered_nil rfl

end Sys2Proof.Laws.Numbered
end

