-- ==== Sys2Proof/Tests/Slice0.lean ====
section
/-! SUPPORT. Tests on small states: ill-formed commands the checks refuse, values the spec or its standards give, and for
every statement with hypotheses a state and operands that meet them. -/

namespace Sys2Proof.Tests

set_option Elab.async false

open Sys2Proof Sys2Proof.Machine

/-! ## Small states and operands -/

/-- No control of configuration space set but MSI-X Enable. -/
def ctl : CfgControls :=
  { memorySpace := true, atomicOp := false, tag10 := false, relaxedOrder := false, mps := 0, mrrs := 0, numVfs := 2,
    vfEnable := true, msixEnable := true, msixFnMask := false, ctoValue := 0, ctoDisable := false,
    bar0 := 0, vfBar0 := 0, pageSize := 4096, ecrcGen := false, ecrcCheck := false, d3hot := false }

/-- After power-up: clocks run, the link is up, every ready bit is set, PF0 and VF 1 are bus masters. -/
def up : State :=
  let s := (((State.reset.wr .globalReady_bits 0 (2 ^ 64 - 1)).wr .fitStatus_alive 0 1).wr .shtSbufBase_offset 0 0x7F0).wr
    .boltMode_maint 0 0
  { s with power := { s.power with porActive := false, sysRst := false, perst := false, rootLock := true,
                                   xtalStable := true, inReset := none, kinds := [], bootDone := true }
           thm := { s.thm with judged := [2, 3, 4] }
           pcie := { s.pcie with linkUp := true, fns := [(0, { bme := true, ctl }), (1, { bme := true, ctl })] } }

/-- The same with the set-up locked. -/
def locked : State := up.wr .globalSetupLock_lock 0 1

/-- Before power-up. -/
def cold : State := State.reset

/-- A descriptor with these fields of its body, each an offset, a length and a value; all others are zero. -/
def desc (fs : List (Nat × Nat × Nat)) : Desc :=
  { flags := 0, rsvd3 := 0, cid := 7, rsvd6 := 0,
    body := fs.foldl (fun b f => b.take (f.1 - 8) ++ leBytes f.2.1 f.2.2 ++ b.drop (f.1 - 8 + f.2.1))
      (List.replicate 56 0) }

/-- Host memory: zeros from 0x1000 on. -/
def zeroHost : HostView := [(0x1000, List.replicate 512 0)]

/-- No channel and no rank fenced: no address is. -/
theorem unfenced {s : State} (h : s.rd .ddrStatus_fencedCh 0 = 0 ∧ s.rd .ddrStatus_fencedRank 0 = 0 ∧ s.ddr.spentBy = none)
    (a n : Nat) :
    s.fencedUnit a n = none := by unfold State.fencedUnit; rw [if_pos h]

/-- A live table entry of tenant 0, shard 0, generation 1. -/
def key (s : State) (i keyType usage : Nat) (material : List Byte) : State :=
  s.putEntry i { entryDefault 0 with live := true, generation := 1, keyType, usage, material }

/-- The handle of such an entry. -/
def handle (i : Nat) : Nat := 2 ^ 24 + i

theorem goes_of {s : State} {w : Work} (h : s.isFenced w = false ∧ (w.opcode = 0x0102 → w.block ≠ none) ∧ s.unmet w = 0 ∧
    s.mustWait w = false) : s.Dispatches w := h

/-- A quiet state, from its parts. -/
theorem quiet_of {s : State} (h : s.fit.latched = [] ∧ (∀ p ∈ s.sht.pipes, p.2.slots = []) ∧ s.mesh.confs = [] ∧
    (∀ w ∈ s.rings.work, w.waits = false) ∧ s.hub.waiting = [] ∧ s.power.hotDue = false ∧ s.thm.rolling = none ∧
    s.rd .ringStat_held 0 = s.heldCount % 2 ^ Fld.ringStat_held.spec.width ∧
    s.rd .vtSessions_open 0 = s.openSessions % 2 ^ Fld.vtSessions_open.spec.width ∧
    (∀ r < 16, s.rd .shtRrState_inFlight r = s.ringInFlight r % 2 ^ Fld.shtRrState_inFlight.spec.width) ∧
    (∀ r < 16, s.rd .shtRrState_waiting r = s.ringWaiting r % 2 ^ Fld.shtRrState_waiting.spec.width) ∧
    (∀ p < 16, s.rd .stcPipeState_ksSlots p = s.filledSlots p % 2 ^ Fld.stcPipeState_ksSlots.spec.width)) : s.Quiet := h

theorem up_quiet : up.Quiet := quiet_of (by decide +kernel)
theorem locked_quiet : locked.Quiet := quiet_of (by decide +kernel)
theorem cold_quiet : cold.Quiet := quiet_of (by decide +kernel)

/-! ## Ill-formed commands: one for each check of WellFormed -/

def frameOk : FrameHdr :=
  { port := 0, dstMac := 0, srcMac := 0, pn := 0, icv := List.replicate 16 0, src := 1, dst := 2, group := false, resent := false,
    seq := 0, ack := 0, shard := 0, epoch := 0 }
def ctlOf (mps mrrs numVfs : Nat) : CfgControls := { ctl with mps, mrrs, numVfs }
def regOf (fn size value : Nat) : RegAccess := { fn, writer := .bar0, offset := 0, size, value }
def boltOf (bank word byte len : Nat) (data : Option (List Byte)) : BoltReq :=
  { port := 0, bank, word, byte, len, data, ecc := .none }
def hubOf (master priv addr size : Nat) (data : Option (List Byte)) : HubReq :=
  { master, priv, id := 0, addr, size, data, met := .none }
def ddrOf (len : Nat) (data : Option (List Byte)) : DdrReq :=
  { offset := 0, len, data, stream := none, ecc := .none, crcRetries := 0, parityRetries := 0, exhausted := false }
def foundOf (die ranks : Nat) : DdrFound := { present := true, x4 := false, die, ranks, rdimm := false, trained := true }
def tableOf (index generation keyType usage : Nat) : TableWrite :=
  { index, live := true, generation, tenant := 0, keyType, usage, nonceSalt := 0, created := 0, expiry := 0, material := [] }
def imageOf (nonce : Nat) : SessionImage :=
  { tenant := 0, chacha := false, opening := false, dataPhase := true, nonce := List.replicate nonce 0, key := [], aad := [],
    text := [], source := none }
def vendor : VendorAuth := { secured := true, owner := true }

theorem test_wf_functions : [Instr.flrVf 0, .flrVf 256, .ringVfLockRequest 0, .vfLockCheckDone 256, .msixUnmask 256 0,
    .msixUnmask 0 2048, .busMasterEnableSet 256 ctl, .busMasterEnableSet 0 (ctlOf 6 0 0),
    .busMasterEnableSet 0 (ctlOf 0 6 0), .busMasterEnableSet 0 (ctlOf 0 0 256)].map Instr.wf = List.replicate 10 false := by
  decide

theorem test_wf_registers : [Instr.bar0BadAccess (regOf 256 3 0) false, .registerWrite (regOf 0 3 0),
    .registerWrite (regOf 0 4 (2 ^ 32)), .registerWrite (regOf 256 4 0), .gatedBlockAccess (regOf 0 2 0) true].map Instr.wf =
    List.replicate 5 false := by decide

theorem test_wf_rings : [Instr.sweepReturn [], .doorbellReadReturn 4096 0, .casReturn 64 .completerAbort,
    .clearRereadReturn 4096 0, .descriptorLand 4096 [], .descriptorLand 0 [(0, { desc [] with body := [] }, [])],
    .fetchFail 0 (2 ^ 64) .timeout, .summaryReadFail (2 ^ 64) .timeout, .readyBitSet 64, .holdLimitExpiry 4096 0,
    .cqCoalTimer 4097, .nop 4096 (desc []) [], .nop 0 { desc [] with body := [] } [], .completionTimeout 4096 0].map
    Instr.wf = List.replicate 14 false := by decide

theorem test_wf_streams : [Instr.streamAdmit (.ring 16), .streamAdmit (.needle 65 []), .keyScheduleBuilt 16,
    .jobFinish 16 false, .streamRetire 16, .seamAbort (.quad 4), .seamAbort (.hub 16 0), .selfTestEnd 16 false].map
    Instr.wf = List.replicate 8 false := by decide

theorem test_wf_needles : [Instr.ndlEngineReset 65, .ndlModeWrite 65 false false, .bundleIssue { n := 65, ecc := false }, .unitResultPush 0 19,
    .gatherElementFault 0 64 false, .loadReturn 65 .ok].map Instr.wf = List.replicate 6 false := by decide

theorem test_wf_memory : [Instr.boltCycle [boltOf 48 0 0 1 none], .boltCycle [boltOf 0 65536 0 1 none],
    .boltCycle [boltOf 0 0 0 0 none], .boltCycle [boltOf 0 0 127 2 none], .boltCycle [boltOf 0 0 0 2 (some [0])],
    .bankIdleTimeout 48, .bankWakeDone 48, .vaultReadbackDone [(48, 0)], .donorCopyDone 48,
    .hubRequest (hubOf 16 0 0 8 none), .hubRequest (hubOf 0 3 0 8 none), .hubRequest (hubOf 0 0 0 3 none),
    .hubRequest (hubOf 0 0 4 8 none), .hubRequest (hubOf 0 0 0 2 (some [0])), .hubResponse 16 0,
    .ddrAccess (ddrOf 0 none), .ddrAccess (ddrOf 2 (some [0]))].map Instr.wf = List.replicate 17 false := by decide

theorem test_wf_events_and_clocks : [Instr.tackDelivery 512, .gpioEdge 16 true, .periTimerExpiry 8, .divisorSwitch 85 1,
    .divisorSwitch 0 0, .droopStretch 85 1, .islandReset 85, .tapeSample { island := 85, values := [] }].map Instr.wf = List.replicate 8 false := by
  decide

theorem test_wf_ddr : [Instr.ddrTrainingDone 8 (foundOf 0 1), .ddrTrainingDone 0 (foundOf 3 1),
    .ddrTrainingDone 0 (foundOf 0 3), .ddrRestoreDone { ch := 8, sweeps := [] }, .dqsOscInterval 0 4 0, .zqCalInterval 8 0, .ddrRefresh 8 false,
    .rankSweepBurst 0 4, .rankSweepEnd 0 4 [], .patrolScrubStep 8 .none false, .ddrSpprDone { ch := 8, lost := [] }].map Instr.wf =
    List.replicate 11 false := by decide

theorem test_wf_mesh : [Instr.keepalive frameOk 0 256, .ack { frameOk with port := 4 }, .ack { frameOk with src := 1024 },
    .ack { frameOk with dst := 1024 }, .ack { frameOk with srcMac := 2 ^ 48 }, .ack { frameOk with icv := [] }, .ack { frameOk with shard := 256 },
    .ack { frameOk with seq := 2 ^ 64 }, .ack { frameOk with ack := 2 ^ 64 }, .ack { frameOk with epoch := 2 ^ 32 },
    .membership { frameOk with port := 4 } .leave, .shardWrite frameOk (.write 0 (tableOf (2 ^ 24) 0 0 0)),
    .shardWrite frameOk (.commit (2 ^ 24)), .shardWrite frameOk (.abort (2 ^ 24)), .shardReply frameOk true (2 ^ 32),
    .forward frameOk (tableOf 0 65536 0 0), .forward frameOk (tableOf 0 0 65536 0), .forward frameOk (tableOf 0 0 0 65536),
    .claim frameOk 1024, .claimReply { frameOk with port := 4 } true 0, .reload { frameOk with port := 4 } .request,
    .handoff frameOk (imageOf 11), .handoffReply { frameOk with port := 4 } 0, .peerLostTimeout 1024, .retransmitTimer 1024,
    .ackTimer 1024, .claimRetryTimer 256, .berWindowEnd 4 [0, 0, 0, 0] 0, .berWindowEnd 0 [1] 0, .renegotiationDone 4 true,
    .svLinkUp { port := 4, hundred := false }, .svLinkDown 4, .migrateTimeout 1024 0, .migrateTimeout 0 (2 ^ 64)].map Instr.wf =
    List.replicate 34 false := by decide +kernel

theorem test_wf_fitter_and_thimble : [Instr.coalWindowClose 65536 0, .coalWindowClose 0 256,
    .adaptPeriod (List.replicate 257 .empty), .imageVerified 1 .hash, .imageVerified 5 .hash, .fwWrite vendor 0 [],
    .meshKeyInstall vendor [] 0].map Instr.wf = List.replicate 7 false := by decide +kernel

/-- The commands the ill-formed ones were made of are well formed. -/
theorem test_wf_accepts : [Instr.flrVf 255, .busMasterEnableSet 0 ctl, .registerWrite (regOf 0 4 7), .nop 4095 (desc []) [],
    .streamAdmit (.ring 15), .unitResultPush 63 18, .boltCycle [boltOf 47 65535 127 1 none], .hubRequest (hubOf 9 0 8 8 none),
    .ddrAccess (ddrOf 64 none), .ddrTrainingDone 7 (foundOf 2 4), .ack frameOk, .shardWrite frameOk (.write 0 (tableOf 0 1 0 0)),
    .handoff frameOk (imageOf 12), .imageVerified 4 .hash, .fwWrite vendor 0 [0]].map Instr.wf = List.replicate 15 true := by
  decide +kernel

/-! ## Values the spec or the standards it names give -/

/-- R8: numbers lie in memory least significant byte first. -/
theorem test_le_bytes : leBytes 4 0x01020304 = [4, 3, 2, 1] := by decide

/-- R77: a completion record of cid 0x0203 with head 17, SQ 37, status OK and phase 1. -/
theorem test_record_bytes : recordBytes 0 0x0203 17 37 0 true =
    [0, 0, 0, 0, 0, 0, 0, 0, 0x03, 0x02, 0x11, 0, 0x25, 0, 0, 0x80] := by decide

/-- FIPS 180-4: the SHA-256 digest of "abc". -/
theorem test_sha256 : valBe (Hash.sha256 [0x61, 0x62, 0x63]) =
    0xBA7816BF8F01CFEA414140DE5DAE2223B00361A396177A9CB410FF61F20015AD := by decide +kernel

/-- FIPS 197, appendix C.1: AES-128. -/
theorem test_aes128 : Aes.encrypt (toBe 16 0x000102030405060708090A0B0C0D0E0F) (toBe 16 0x00112233445566778899AABBCCDDEEFF) =
    toBe 16 0x69C4E0D86A7B0430D8CDB78070B4C55A := by decide +kernel

/-- R233, the worked values: sar.w by 40 and shr.w by 0 of 0x80000000. -/
theorem test_shift_words :
    sext32 (shiftBy 2 32 0x80000000 40) = 0xFFFFFFFFFFFFFFFF ∧ sext32 (shiftBy 1 32 0x80000000 0) = 0xFFFFFFFF80000000 := by
  decide

/-- R236, the third row: −7 by 2; the second row at 64 bits. -/
theorem test_divide_rows : divide true 64 (-7) 2 = (-3, -1) ∧ divide true 64 (2 ^ 63) (-1) = (2 ^ 63, 0) := by decide +kernel

/-- The worked example of chapter 07: the bundle stored as DA 03 FA BF 88 1B E3 04. -/
theorem test_bundle_bytes : parseMoves (fun a => [0x03DA, 0xBFFA, 0x1B88, 0x04E3][a / 2]?) 0 8 0 = some
    [{ src := .sock 0x003, dst := shortDst 0x6D, bad := false, size := 2, stop := false },
     { src := .imm (-48), dst := 0x371, bad := false, size := 4, stop := false },
     { src := .sock 0x004, dst := shortDst 0x71, bad := false, size := 2, stop := true }] := by decide +kernel

/-- R169's worked example: granule 1,193,046 with eight channels, and after DDR3 is retired. -/
theorem test_ddr_place :
    (let p := up.ddrPlace8 1193046
     (p.ch, p.sub, p.bg, p.bank) = (6, 0, 5, 0)) ∧
    (let p := (up.wr .ddrStatus_spareUsedBy 0 3).ddrPlace7 1193046
     (p.ch, p.sub, p.bg, p.bank) = (1, 1, 1, 0)) := by decide +kernel

/-- R393 and R407: the log's retired DDR3 refuses the spare at the lock, unless its migration was kept through the reset. -/
theorem test_spare_after_reset :
    (let s : State := { up.wr .ddrSpare_enable 0 1 with fit := { up.fit with retired := [(0x303, 1)] } }
     s.errSpare = true ∧ (s.wr .ddrMigrate_running 0 1).errSpare = false) := by decide +kernel

/-- R169 and R397: with DDR3 migrated out, DDR6 scrubs granules 5, 12, ... of the seven-channel map. -/
theorem test_scrub_map7 :
    (let s := (up.wr .ddrStatus_spareUsedBy 0 3).wr .ddrStatus_map7 0 1
     s.scrubGranule 6 0 = 5 ∧ s.scrubGranule 6 6 = 12 ∧ (s.ddrPlace (12 * 256)).ch = 6) := by decide +kernel

/-- Chapter 13's worked example: the bank of scratch offset 0x100, and a reset layout's target for it. -/
theorem test_hub_scratch : up.hubDecode 0x104000100 = .bolt (some 10) 0x4000100 ∧
    (up.hubDecode 0x104000100).target = 2 := by decide +kernel

/-- Chapter 02's worked example: with GLOBAL_READY 0x30_BFFF_00FF no DDR5 channel and no table is ready, rings and tack are. -/
theorem test_ready_word :
    (let s := up.wr .globalReady_bits 0 0x30BFFF00FF
     (List.range 8).all (fun c => !s.isReady (8 + c)) && !s.isReady 30 && s.isReady 36 && s.isReady 37) = true := by
  decide +kernel

/-! ## Witnesses: reset and the invariants -/

theorem meets_ResetState : (0 : Nat) < 65536 ∧ (65535 : Nat) < 65536 ∧ (63 : Nat) < 64 := by decide

theorem reset_shown : cold.StatusShown := cold_quiet.2.2.2.2.2.2.2

theorem meets_StatusShownInvariant : cold.StatusShown ∧ ∃ t : State, step cold = .next t := ⟨reset_shown, _, rfl⟩

/-! ## Witnesses: the host's side -/

theorem meets_StepRunsFront : cold.pending = [] := rfl

theorem meets_ResetPins :
    up.power.inReset ≠ some 1 ∧ cold.power.inReset = some 1 ∧ cold.power.porActive = true ∧ cold.power.sysRst = true ∧
    (let s : State := { cold with power := { cold.power with sysRst := false } }
     s.power.porActive = true ∧ s.power.sysRst = false) ∧
    (let s : State := { cold with power := { cold.power with porActive := false } }
     s.power.sysRst = true ∧ s.power.porActive = false) ∧
    up.power.perst = false ∧ up.power.porActive = false ∧ up.power.sysRst = false ∧ up.flag .rstCtrl_perstWarm = false ∧
    (up.wr .rstCtrl_perstWarm 0 1).flag .rstCtrl_perstWarm = true ∧
    (let s : State := { up with power := { up.power with perst := true } }
     s.power.perst = true ∧ s.power.porActive = false ∧ s.power.sysRst = false) := by decide +kernel

/-- The link down, PERST_N released, the PCIe island running. -/
def linkless : State :=
  let s := (up.wr .clkIsland_running 77 1).wr .clkIsland_inReset 77 0
  { s with pcie := { s.pcie with linkUp := false } }

theorem linkless_quiet : linkless.Quiet := quiet_of (by decide +kernel)

theorem meets_HostLink :
    up.heldInReset = false ∧ up.power.hold = false ∧ up.power.trip = false ∧ up.pcie.linkUp = true ∧
    up.power.hotDue = false ∧ up.insideWork = false ∧ linkless.power.hotDue = false ∧ up.rd .vfPba_word 2 = 0 ∧
    up.listed .pba_word = [] ∧
    linkless.pcie.linkUp = false ∧ linkless.power.perst = false ∧ linkless.flag .clkIsland_running 77 = true ∧
    linkless.flag .clkIsland_inReset 77 = false ∧ 2 ≤ up.numVfs ∧ up.isReady readyCfg = true ∧
    up.pcie.heldRecs = [] ∧ up.err.ring = none ∧ up.rings.owed = [] ∧ up.rings.running = false ∧
    ({ up with rings := { up.rings with running := true } } : State).rings.running = true ∧ ctl.atomicOp = false := by decide +kernel

/-- What the four free values of a link that trains give: a speed and a width the spec names. -/
theorem meets_HostLink_speeds : 640 ∈ linkSpeeds ∧ 16 ∈ linkWidths := by decide

/-- A read of 2 bytes, a read of a gated Needle block, a write of GLOBAL_PROFILE, a write of LC_REQ. -/
def badRead : RegAccess := { fn := 0, writer := .bar0, offset := 2, size := 2, value := 0 }
def gatedRead : RegAccess := { fn := 0, writer := .bar0, offset := 0x800000, size := 4, value := 0 }

theorem meets_RegisterAccesses :
    accessOk badRead.offset badRead.size = false ∧ up.reaches badRead = true ∧
    accessOk gatedRead.offset gatedRead.size = true ∧ (up.wr .clkGateNdl_needle 0 0).gatedAt gatedRead.offset = true ∧
    up.reaches gatedRead = true ∧ (up.regWrite { gatedRead with offset := 0x140000 }).2 = [] ∧
    up.gatedAt 0xC40008 = false ∧
    (up.regWrite { fn := 0, writer := .bar0, offset := 0xC40008, size := 4, value := 0x4C430002 }).2 = [.deploy] := by
  decide +kernel

/-- A field that a write of its whole width reaches. -/
def hit (f : Fld) (n : Nat) : FldHit := { fld := f, elem := 0, lo := 0, n, at_ := 0 }

/-- A PF0 register write of the host. -/
def bar0 (offset value : Nat) : RegAccess := { fn := 0, writer := .bar0, offset, size := 4, value }

theorem meets_AccessTypes :
    (hit .ringDbBase_addr 32).fld.spec.acc = .rwl ∧ up.checking = false ∧
    (up.wr .globalSetupLock_checkBusy 0 1).checking = true ∧ isRequest .ringDbBase_addr = false ∧
    locked.rwlShut (bar0 0x100000 0) .ringDbBase_addr 0 = true ∧ up.rwlShut (bar0 0x100000 0) .ringDbBase_addr 0 = false ∧
    Fld.fitStatus_alive.spec.acc = .ro ∧ Fld.ndlCtrl_hold.spec.acc = .rw ∧ Fld.globalSetupErr_hostArea.spec.acc = .rw1c ∧
    (hit .globalSetupErr_hostArea 1).lo = 0 ∧ (hit .globalSetupErr_hostArea 1).n = Fld.globalSetupErr_hostArea.spec.width ∧
    up.rd .globalSetupErr_hostArea 0 < 2 ^ Fld.globalSetupErr_hostArea.spec.width := by decide +kernel

theorem meets_ReadsChangeNothing :
    up.gatedAt 0 = false ∧ (up.wr .clkGateNdl_needle 0 0).gatedAt 0x800000 = true ∧
    accessHits (up.landing 0 0xFFF000).1 0 (up.landing 0 0xFFF000).2 = [] := by decide +kernel

/-- A set-up that passes the check: the three host areas. -/
def setup : State :=
  (((up.wr .ringDbBase_addr 0 1).wr .ringSumBase_addr 0 2).wr .ringStatusBase_addr 0 3).wr .globalSetupLock_checkBusy 0 1

/-- VF 1 owns group 1; SQ 16 of it names CQ 0, which is PF0's. -/
def foreign : State :=
  let s := (((up.wr .ringGroup_valid 1 1).wr .ringGroup_function 1 1).wr .ringGroup_valid 0 1).wr .ringSqCfg_enable 16 1
  s.wr .ringVfLock_checkBusy 1 1

theorem setup_quiet : setup.Quiet := quiet_of (by decide +kernel)
theorem foreign_quiet : foreign.Quiet := quiet_of (by decide +kernel)

theorem meets_SetupLocks :
    up.isReady readyCfg = true ∧ up.checking = false ∧ up.locked = false ∧ setup.checking = true ∧
    (let u := setup.wr .globalSetupLock_checkBusy 0 0
     u.errRing = false ∧ u.errHost = false ∧ u.boltSetupOk = true ∧ u.errSpare = false ∧ u.errRegions = false) ∧
    (let s := up.wr .globalSetupLock_checkBusy 0 1
     let u := s.wr .globalSetupLock_checkBusy 0 0
     u.errRing = false ∧ u.errHost = true ∧ u.boltSetupOk = true ∧ u.errSpare = false ∧ u.errRegions = false) ∧
    (up.wr .globalReady_bits 0 0).isReady readyCfg = false ∧ locked.locked = true ∧ locked.checking = false ∧
    up.flag .ringVfLock_lock 255 = false ∧ up.flag .ringVfLock_checkBusy 255 = false ∧
    foreign.flag .ringVfLock_checkBusy 1 = true ∧ (foreign.vfSqs 1).any foreign.foreignCq = true ∧
    ((foreign.wr .ringSqCfg_cq 16 16).vfSqs 1).any (foreign.wr .ringSqCfg_cq 16 16).foreignCq = false ∧
    foreign.rings.running = false ∧
    ({ foreign with rings := { foreign.rings with running := true } } : State).rings.running = true := by decide +kernel

/-! ## Witnesses: rings -/

/-- The ring engine runs; SQ 0 of PF0 is started on 64 slots and feeds CQ 0. -/
def ringed : State :=
  let s := ((((locked.wr .ringGroup_valid 0 1).wr .ringSqCfg_enable 0 1).wr .ringSqCfg_sizeLog2 0 6).wr .ringCqCfg_enable 0
    1).wr .ringCqCfg_sizeLog2 0 4
  let s := (s.wr .ringSqBase_addr 0 0x20).wr .ringCqBase_addr 0 0x30
  { s with rings := { s.rings with running := true, sweepOut := [5], cas := [{ word := 0, cmp := 1, swap := 0, sqs := [0] }],
                                   sqs := [(0, { sqDefault 0 with started := true })] } }

theorem ringed_quiet : ringed.Quiet := quiet_of (by decide +kernel)

theorem meets_SweepsAndStatusPage :
    ringed.rings.running = true ∧ ringed.canIssue 0 = true ∧ ringed.rings.sweepOut = [5] ∧ ringed.fitterAlive = true := by
  decide +kernel

/-- SQ 0 with a doorbell read, a re-read or a fetch out. -/
def reading : State := ringed.setSq 0 { ringed.sq 0 with reading := 1, rereading := [0], fetching := 1 }

theorem reading_quiet : reading.Quiet := quiet_of (by decide +kernel)

theorem meets_Doorbells :
    (reading.sq 0).reading ≠ 0 ∧ (reading.sq 0).rereading = [0] ∧ (reading.sq 0).fetching ≠ 0 ∧
    reading.seqMode = false ∧ 63 < reading.sqSize 0 ∧ reading.sqSize 0 ≤ 64 ∧ (ringed.sq 0).started = true ∧
    (let s := reading.wr .ringCtrl_sequence 0 1
     s.seqMode = true ∧ (63 : W64).toNat / 2 ^ 32 = s.rd .ringSqState_lastSeq 0 ∧ (s.sq 0).pend = false ∧
     63 < s.sqSize 0) ∧ ¬(ReadFail.completerAbort = ReadFail.timeout ∧ (ringed.fnCfg 0).ctl.ctoDisable = true) := by
  decide +kernel

theorem meets_SummaryClears :
    ringed.rings.cas.find? (fun c => c.word == 0) = some { word := 0, cmp := 1, swap := 0, sqs := [0] } ∧
    (1 : W64).toNat = 1 ∧ (3 : W64).toNat ≠ 1 ∧ ringed.mayCas = false ∧
    (ringed.setFnCfg 0 { bme := true, ctl := { ctl with atomicOp := true } }).mayCas = true := by decide +kernel

/-- VF 1's vector 63 pends; CQ 0 has an unsignalled record; the error ring's consumer count is being read. -/
def interrupting : State :=
  let s := (ringed.setPba 1 63 true).wr .ringCqCfg_irqEnable 0 1
  let s := s.setCq 0 { s.cq 0 with unsig := 1 }
  s.setErr { s.err with readOut := true, ring := some { base := 0x7000, k := 5, vector := 0, countM1 := 0, timerUs := 0,
                                                        consumer := 0x8000, prod := 3, seen := 1, unsig := 0 } }

theorem interrupting_quiet : interrupting.Quiet := quiet_of (by decide +kernel)

theorem meets_Interrupts :
    up.locked = false ∧ up.checking = false ∧ setup.checking = true ∧ setup.pba 0 2047 = false ∧ locked.checking = false ∧
    locked.locked = true ∧ locked.pba 0 2047 = false ∧ up.pba 0 2047 = false ∧ (interrupting.wr .vfMsix_mask (vfVec 1 63) 0).pba 1 63 = true ∧
    (interrupting.fnCfg 1).ctl.msixFnMask = false ∧ (interrupting.fnCfg 1).ctl.msixEnable = true ∧
    interrupting.canIssue 1 = true ∧ interrupting.flag .ringCqCfg_irqEnable 0 = true ∧ 0 < (interrupting.cq 0).unsig ∧
    interrupting.err.ring.isSome = true ∧ interrupting.err.readOut = true ∧
    (let g : ErrRing := { base := 0, k := 5, vector := 0, countM1 := 0, timerUs := 0, consumer := 64, prod := 32, seen := 0,
                          unsig := 0 }
     let r : ErrRec := { origin := 0, cls := 1, severity := 1, reporters := 1, slot := none, t0 := 0, detail := 0, spanUs := 0,
                         seq := 1 }
     let s := up.setErr { up.err with ring := some g, buffer := [r] }
     g.full = true ∧ 0 < { g with unsig := 1 }.unsig ∧ s.canIssue 0 = true ∧ s.err.readOut = false ∧ s.err.buffer ≠ [] ∧
     (up.setErr { up.err with ring := some g }).err.buffer = [] ∧ up.err.dropped = 0) ∧ 63 < vectorsOf 1 ∧ 2047 < vectorsOf 0 ∧
    interrupting.vecMasked 1 63 = true ∧ (interrupting.wr .vfMsix_mask (vfVec 1 63) 0).vecMasked 1 63 = false := by
  decide +kernel

theorem meets_RecordsInOrder :
    ringed.canIssue 0 = true ∧ ringed.rd .ringCqCfg_sizeLog2 (ringed.rd .ringSqCfg_cq 0) ≤ 16 ∧
    ringed.rd .ringCqState_phase 0 < 2 ∧ 0 ∈ ringed.listed .ringCqCfg_enable ∧ ringed.visible 0 0 = true ∧
    ringed.cqStarts 0 = true := by decide +kernel

theorem meets_ErrorRecords : up.canIssue 0 = true ∧ 0x7000 % 4096 = 0 := by decide +kernel

/-- A held NOP, and one that has landed. -/
def heldNop : Work := workOf 0x0F00 0 (desc []) [] |> fun w => { w with at_ := .held 0 }
def waiting : State := { up with rings := { up.rings with work := [heldNop] } }
def landed : State := { up with rings := { up.rings with work := [workOf 0x0F00 0 (desc []) []] } }

/-- Session 0 on its way to member 5, in its frame 3. -/
def migrating : State :=
  up.putSess 0 { sessDefault 0 with isOpen := true, migrating := some (0, 7, 5, 3) }

theorem meets_ReadinessAndLimits :
    cold.isReady readyShuttle = false ∧
    (let s := (locked.wr .globalReady_bits 0 0).setReady readyHub true
     s.isReady readyShuttle = false ∧ s.readyCond readyShuttle = true ∧
     ¬(readyTier 0 ≤ readyShuttle ∧ readyShuttle ≤ readyTier 2) ∧ readyShuttle ≠ readyBoltVault) ∧
    waiting.rings.work.find? (fun w => w.is 0 7 && w.isHeld) = some heldNop ∧ (up.fnCfg 0).ctl.ctoDisable = false ∧
    (landed.rings.work.find? (fun w => w.is 0 7 && (w.at_ == .landed || w.at_ == .running))).isSome = true ∧
    migrating.handingOff 5 3 = some (0, 0, 7) := by decide +kernel

theorem meets_StoppedSq : (ringed.sq 0).started = true ∧ (1 : Nat) ≠ 0 ∧ Fld.ringSqState_head ≠ Fld.ringSqState_stopped := by
  decide +kernel

/-! ## Witnesses: service descriptors -/

/-- Entry 1 with a key that may do what the test asks. -/
def keyed (keyType usage : Nat) (material : List Byte) : State := key up 1 keyType (2 ^ usage) material

/-- A signing descriptor: key 1, input 3 bytes, output, auxiliary. -/
def pkDesc (alg inN cap auxA auxN outA : Nat) : Desc :=
  desc [(8, 8, handle 1), (16, 8, 0x1000), (24, 8, outA), (32, 8, auxA), (40, 4, inN), (44, 4, cap), (48, 4, auxN),
    (52, 1, alg)]

def edKey : State := key up 1 0x13 (2 ^ uSign + 2 ^ uVerify) (List.replicate 64 7)
def macKey : State := keyed 0x07 uMac (List.replicate 32 7)
def wSign : Work := workOf 0x0201 0 (pkDesc 4 3 64 0 0 0x2000) zeroHost
def wVerify : Work := workOf 0x0202 0 (pkDesc 4 3 0 0x1000 64 0) zeroHost
def wMac : Work := workOf 0x0304 0 (pkDesc 0x28 3 32 0 0 0x2000) zeroHost
def wMacVerify : Work := workOf 0x0305 0 (pkDesc 0x28 3 0 0x1000 16 0) zeroHost

theorem goes_Sign : (edKey.withWork wSign).Dispatches wSign ∧ (edKey.withWork wVerify).Dispatches wVerify ∧
    (macKey.withWork wMac).Dispatches wMac ∧ (macKey.withWork wMacVerify).Dispatches wMacVerify :=
  ⟨goes_of (by decide +kernel), goes_of (by decide +kernel), goes_of (by decide +kernel), goes_of (by decide +kernel)⟩

theorem meets_SignaturesAndMacs :
    ((edKey.withWork wSign).pkKey wSign false true [uSign]).isOk = true ∧ sigLen wSign.alg 0x13 ≤ wSign.cap ∧
    (viewRead zeroHost wSign.inA wSign.inN).isSome = true ∧ (viewRead zeroHost wSign.auxA wSign.auxN).isSome = true ∧
    ((edKey.withWork wVerify).pkKey wVerify false false [uVerify]).isOk = true ∧
    (viewRead zeroHost wVerify.auxA wVerify.auxN).isSome = true ∧ wMac.alg ≠ 0x2D ∧
    ((macKey.withWork wMac).pkKey wMac false true [uMac]).isOk = true ∧
    (viewRead zeroHost wMac.inA wMac.inN).isSome = true ∧
    ((macKey.withWork wMacVerify).pkKey wMacVerify false true [uMac]).isOk = true ∧
    (viewRead zeroHost wMacVerify.auxA wMacVerify.auxN).isSome = true := by decide +kernel

/-- A P-256 key of scalar 1, and its point in host memory. -/
def point : List Byte := bytesOf (Pk.ecPublic Pk.p256 1)
def ecKey : State := keyed 0x10 uAgree (bytesOf (toBe 32 1) ++ point)
def wEcdh (h : HostView) : Work := workOf 0x0203 0 (pkDesc 0x0E 65 0 0 0 0) h
/-- An ML-KEM-512 key whose public form is all zero; a ciphertext too short to be one. -/
def kemKey : State := keyed 0x20 uAgree (List.replicate 1632 0)
def wEncaps : Work := workOf 0x0206 0 (pkDesc 0x0B 0 768 0 0 0x2000) zeroHost
def wDecaps : Work := workOf 0x0207 0 (pkDesc 0x0B 32 0 0 0 0) zeroHost

theorem goes_KeyAgreement : (ecKey.withWork (wEcdh [])).Dispatches (wEcdh []) ∧
    (kemKey.withWork wEncaps).Dispatches wEncaps ∧ (kemKey.withWork wDecaps).Dispatches wDecaps :=
  ⟨goes_of (by decide +kernel), goes_of (by decide +kernel), goes_of (by decide +kernel)⟩

theorem meets_KeyAgreement_ecdh :
    ((ecKey.withWork (wEcdh [(0x1000, point)])).pkKey (wEcdh [(0x1000, point)]) true true [uAgree]).isOk = true ∧
    viewRead [(0x1000, point)] 0x1000 65 = some point ∧
    Pk.ecdh (curveOf 0x10) 1 (natsOf point) = some (toBe 32 Pk.p256.gx) ∧
    Pk.ecdh (curveOf 0x10) 1 (natsOf (List.replicate 65 0)) = none := by decide +kernel

theorem meets_KeyAgreement_kem :
    ((kemKey.withWork wEncaps).pkKey wEncaps true false [uAgree]).isOk = true ∧
    Lattice.kemKeyOk (kemOf 0x20) (publicOf 0x20 (natsOf (List.replicate 1632 0))) = true ∧
    (kemKey.withWork wEncaps).secretFits 0 32 = true ∧
    ((kemKey.withWork wDecaps).pkKey wDecaps true true [uAgree]).isOk = true ∧
    (viewRead wDecaps.h wDecaps.inA wDecaps.inN).isSome = true := by decide +kernel

/-- An RSA key with exponents 1 over two odd coprime factors: arithmetic shows the forms, the key is no secret. -/
def rsaFactor : Nat := 2 ^ 1024 - 1
def rsaPub : List Nat := toBe 256 (rsaFactor * (rsaFactor - 2)) ++ toBe 4 1
def rsaMat : List Byte := bytesOf (rsaPub ++ toBe 128 rsaFactor ++ toBe 128 (rsaFactor - 2) ++ toBe 128 1 ++ toBe 128 1
  ++ toBe 128 ((rsaFactor - 1) / 2))
def rsaKeyed : State := key up 1 0x14 (2 ^ uEncrypt + 2 ^ uDecrypt) rsaMat
def plain16 : List Nat := List.replicate 16 9
def cipher16 : List Byte :=
  bytesOf (Pk.oaepEncrypt .sha256 (Pk.rsaPubOf 256 rsaPub) [] plain16 (List.replicate 32 5))
def rsaHost : HostView := [(0x1000, cipher16)]
def wEncrypt : Work := workOf 0x0204 0 (pkDesc 7 190 256 0 0 0x2000) zeroHost
def wDecrypt (params cap outA : Nat) : Work :=
  workOf 0x0205 0 (desc [(8, 8, handle 1), (16, 8, 0x1000), (24, 8, outA), (40, 4, 256), (44, 4, cap), (52, 1, 7),
    (54, 2, params)]) rsaHost
def wExport : Work := workOf 0x0208 0 (pkDesc 0 0 260 0 0 0x2000) []

theorem goes_RsaAndExport : (rsaKeyed.withWork wEncrypt).Dispatches wEncrypt ∧
    (rsaKeyed.withWork (wDecrypt 0 16 0x2000)).Dispatches (wDecrypt 0 16 0x2000) ∧
    (rsaKeyed.withWork (wDecrypt 16 0 0)).Dispatches (wDecrypt 16 0 0) ∧
    (rsaKeyed.withWork wExport).Dispatches wExport :=
  ⟨goes_of (by decide +kernel), goes_of (by decide +kernel), goes_of (by decide +kernel), goes_of (by decide +kernel)⟩

theorem meets_RsaAndExport :
    ((rsaKeyed.withWork wEncrypt).pkKey wEncrypt false false [uEncrypt]).isOk = true ∧
    wEncrypt.inN + 2 * Hash.outLen .sha256 + 2 ≤ 256 ∧ 256 ≤ wEncrypt.cap ∧
    (viewRead zeroHost wEncrypt.inA wEncrypt.inN).isSome = true ∧
    (viewRead zeroHost wEncrypt.auxA wEncrypt.auxN).isSome = true ∧
    ((rsaKeyed.withWork (wDecrypt 0 16 0x2000)).pkKey (wDecrypt 0 16 0x2000) false true [uDecrypt]).isOk = true ∧
    (wDecrypt 0 16 0x2000).toEntry = false ∧ (wDecrypt 0 16 0x2000).cap = 16 ∧
    ((rsaKeyed.withWork (wDecrypt 16 0 0)).pkKey (wDecrypt 16 0 0) true true [uDecrypt]).isOk = true ∧
    (wDecrypt 16 0 0).toEntry = true ∧
    badOffset wExport.pkChecks = none ∧ ((rsaKeyed.withWork wExport).keyOperand [] 0 0 (handle 1) 8 0).isOk = true ∧
    (publicOf 0x14 (natsOf rsaMat)).length ≤ wExport.cap := by decide +kernel

theorem meets_RsaAndExport_plain :
    Pk.oaepDecrypt .sha256 (Pk.rsaPrivOf 256 (natsOf rsaMat)) [] (natsOf cipher16) = some plain16 ∧
    Pk.oaepDecrypt .sha256 (Pk.rsaPrivOf 256 (natsOf rsaMat)) [] (List.replicate 256 0) = none := by decide +kernel

/-- PBKDF2 with 1,000 rounds over empty passwords. -/
def pwDesc (tagA : Nat) : Desc :=
  desc [(8, 8, 0x1000), (16, 8, 0x1000), (24, 8, tagA), (40, 4, 1000), (50, 2, 16), (52, 1, 32), (53, 1, 3), (55, 1, 0x24)]
def wPwVerify : Work := workOf 0x0301 0 (pwDesc 0x1000) zeroHost
def wPwHash : Work := workOf 0x0302 0 (pwDesc 0x2000) zeroHost
def wPwDerive : Work := workOf 0x0303 0 (pwDesc 0) zeroHost

theorem goes_Passwords : (up.withWork wPwVerify).Dispatches wPwVerify ∧ (up.withWork wPwHash).Dispatches wPwHash ∧
    (up.withWork wPwDerive).Dispatches wPwDerive :=
  ⟨goes_of (by decide +kernel), goes_of (by decide +kernel), goes_of (by decide +kernel)⟩

theorem meets_Passwords :
    ((up.withWork wPwVerify).pwKey wPwVerify).isOk = true ∧ ((up.withWork wPwHash).pwKey wPwHash).isOk = true ∧
    ((up.withWork wPwDerive).pwKey wPwDerive).isOk = true ∧
    ((up.withWork wPwVerify).hashMemory wPwVerify).isOk = true ∧ ((up.withWork wPwHash).hashMemory wPwHash).isOk = true ∧
    ((up.withWork wPwDerive).hashMemory wPwDerive).isOk = true ∧
    (viewRead zeroHost wPwVerify.pwdA wPwVerify.pwdN).isSome = true ∧
    (viewRead zeroHost wPwVerify.saltA wPwVerify.saltN).isSome = true ∧
    (viewRead zeroHost wPwVerify.tagA wPwVerify.tagN).isSome = true := by decide +kernel

/-! ## Witnesses: the Vault Table, sessions, programs -/

/-- The unused key fields' kinds, and the shard's range from reset. -/
def wCreate : Work := workOf 0x0401 0 (desc [(36, 2, 2), (38, 2, 3), (49, 1, 0xF)]) []
/-- A public P-256 key behind its 8-byte header. -/
def pubBlob : List Byte := leBytes 2 0x8010 ++ leBytes 2 (2 ^ uVerify) ++ leBytes 2 65 ++ [1, 0] ++ point
def wImport : Work := workOf 0x0402 0 (desc [(24, 8, 0x1000), (32, 4, 73), (49, 1, 0xF)]) [(0x1000, pubBlob)]
/-- Key 1: a generic secret with every usage of its type. Key 2: a key-encryption key. -/
def vaulted : State :=
  key (key up 1 8 (2 ^ uDerive + 2 ^ uKdf + 2 ^ uExport) (List.replicate 32 7)) 2 6 (2 ^ uWrap + 2 ^ uUnwrap)
    (List.replicate 32 6)
def wDerive : Work := workOf 0x0404 0 (desc [(8, 8, handle 1), (24, 8, 0x1000), (32, 4, 16), (36, 2, 2), (38, 2, 3), (49, 1, 0xC)])
  zeroHost
def wRotate : Work := workOf 0x0405 0 (desc [(8, 8, handle 1), (49, 1, 0xC)]) []

theorem goes_NewEntries : (up.withWork wCreate).Dispatches wCreate ∧ (up.withWork wImport).Dispatches wImport ∧
    (vaulted.withWork wDerive).Dispatches wDerive ∧ (vaulted.withWork wRotate).Dispatches wRotate :=
  ⟨goes_of (by decide +kernel), goes_of (by decide +kernel), goes_of (by decide +kernel), goes_of (by decide +kernel)⟩

theorem meets_NewEntries :
    ((up.withWork wCreate).vtChecks wCreate).isOk = true ∧ ((up.withWork wImport).vtChecks wImport).isOk = true ∧
    ((up.withWork wImport).importKey wImport).toOption.map (fun k => (k.keyType, k.usage)) = some (0x8010, some 8) ∧
    (8 &&& 8) = 8 ∧ usageFits 0x8010 8 = true ∧ wImport.usage = 0 ∧
    ((vaulted.withWork wDerive).vtChecks wDerive).isOk = true ∧
    ((vaulted.withWork wDerive).keyOperand zeroHost 0 wDerive.hKind wDerive.vtHandle 8 0).isOk = true ∧
    bitOf wDerive.usage uExport = false ∧ (viewRead zeroHost wDerive.bufA wDerive.bufN).isSome = true ∧
    ((vaulted.withWork wRotate).vtChecks wRotate).isOk = true ∧
    ((vaulted.withWork wRotate).checkHandle 0 wRotate.vtHandle 8).toOption.map (·.1) = some 1 ∧
    isPublicOnly 8 = false := by decide +kernel

def wWrap : Work := workOf 0x0403 0 (desc [(8, 8, handle 1), (16, 8, handle 2), (24, 8, 0x1000), (32, 4, 72)]) []
def wDestroy : Work := workOf 0x0406 0 (desc [(8, 8, handle 1), (49, 1, 0xC)]) []
def wQuery : Work := workOf 0x0407 0 (desc [(8, 8, 1), (24, 8, 0x1000), (32, 4, 64), (49, 1, 0xC)]) []

theorem goes_EntriesRead : (vaulted.withWork wWrap).Dispatches wWrap ∧ (vaulted.withWork wDestroy).Dispatches wDestroy ∧
    (vaulted.withWork wQuery).Dispatches wQuery :=
  ⟨goes_of (by decide +kernel), goes_of (by decide +kernel), goes_of (by decide +kernel)⟩

theorem meets_EntriesRead :
    ((vaulted.withWork wWrap).vtChecks wWrap).isOk = true ∧
    ((vaulted.withWork wWrap).keyOperand [] 0 0 (handle 1) 8 0).isOk = true ∧
    ((vaulted.withWork wWrap).keyOperand [] 0 0 (handle 2) 16 0).isOk = true ∧
    (checkTypeUse (matOfEntry 1 (vaulted.entry 1)) 8 (fun t => !isPublicOnly t) [uExport]).isOk = true ∧
    (checkTypeUse (matOfEntry 2 (vaulted.entry 2)) 16 (fun t => t == 6) [uWrap]).isOk = true ∧
    (blobOf (matOfEntry 1 (vaulted.entry 1)) (handle 2) (natsOf (vaulted.entry 2).material)).length ≤ 72 ∧
    ((vaulted.withWork wDestroy).vtChecks wDestroy).isOk = true ∧
    ((vaulted.withWork wDestroy).handleIndex 0 wDestroy.vtHandle 8).toOption = some 1 ∧
    handleCurrent ((vaulted.withWork wDestroy).entryClear 1) wDestroy.vtHandle = true ∧
    ((vaulted.withWork wQuery).vtChecks wQuery).isOk = true ∧
    ((vaulted.withWork wQuery).handleIndex 0 wQuery.vtHandle 8).toOption = some 1 ∧
    vaulted.entryFenced 1 (vaulted.entry 1) = none ∧ vaulted.entryRead 1 = some (vaulted.entry 1) ∧
    wQuery.vtHandle / 2 ^ 24 % 2 ^ 16 = 0 := by decide +kernel

/-- An entry at generation 65,535, where DESTROY and ROTATE wrap. -/
def aged : State := (up.putEntry 1 { vaulted.entry 1 with generation := 65535 }).setVault
  { (up.putEntry 1 { vaulted.entry 1 with generation := 65535 }).vault with keyHeld := true }
def wAged (op : Nat) : Work := workOf op 0 (desc [(8, 8, 65535 * 2 ^ 24 + 1), (49, 1, 0xC)]) []

theorem goes_Generations : (aged.withWork (wAged 0x0406)).Dispatches (wAged 0x0406) ∧
    (aged.withWork (wAged 0x0405)).Dispatches (wAged 0x0405) := ⟨goes_of (by decide +kernel), goes_of (by decide +kernel)⟩

theorem meets_Generations :
    (up.entry 0).generation = 0 ∧ (vaulted.entry 1).generation ≠ 0 ∧ aged.alone 0 = true ∧ aged.vault.keyHeld = true ∧
    (aged.extAlloc (extBlocksFor 2 32)).isSome = true ∧ aged.allocIndex 0 = some 0 ∧
    ((aged.putEntry 1 { aged.entry 1 with extCount := 0 }).extAlloc (extBlocksFor 8 32)).isSome = true ∧
    ((aged.withWork (wAged 0x0406)).vtChecks (wAged 0x0406)).isOk = true ∧
    ((aged.withWork (wAged 0x0406)).handleIndex 0 (wAged 0x0406).vtHandle 8).toOption = some 1 ∧
    (aged.withWork (wAged 0x0406)).entryClear 1 = aged.entry 1 ∧
    handleCurrent (aged.entry 1) (wAged 0x0406).vtHandle = true ∧ (aged.entry 1).generation ≤ 65535 ∧
    ((aged.withWork (wAged 0x0405)).vtChecks (wAged 0x0405)).isOk = true ∧
    ((aged.withWork (wAged 0x0405)).checkHandle 0 (wAged 0x0405).vtHandle 8).toOption.map (·.1) = some 1 := by decide +kernel

theorem meets_Generations_unfenced : ∀ l, (aged.withWork (wAged 0x0406)).fencedUnit (l * 128) 128 = none :=
  fun l => unfenced (by decide +kernel) _ _

/-- A part with a serial number and an identity seed in its fuses, its table key held. -/
def fused : State :=
  let s := up.each 6 (fun i s => s.programFuse (fuSeed + i) (i + 1))
  { s with thm := { s.thm with serial := 5 }, vault := { s.vault with keyHeld := true } }
/-- The image of its empty table, signed. -/
def image : List Byte :=
  let body := fused.imageBody
  bytesOf (body ++ Pk.ecdsaSign Pk.p521 fused.identityKey (Hash.sha512 body) 1)
def wTable (op : Nat) : Work := workOf op 0 (desc [(49, 1, 0xF)]) []
def wSeal : Work := workOf 0x040A 0 (desc [(24, 8, 0x1000), (32, 4, 196), (49, 1, 0xF)]) []
def wRestore : Work := workOf 0x040B 0 (desc [(24, 8, 0x1000), (32, 4, 196), (49, 1, 0xF)]) [(0x1000, image)]

theorem goes_TableKeysAndBackup : (up.withWork (wTable 0x0408)).Dispatches (wTable 0x0408) ∧
    (up.withWork (wTable 0x0409)).Dispatches (wTable 0x0409) ∧ (fused.withWork wSeal).Dispatches wSeal ∧
    (fused.withWork wRestore).Dispatches wRestore :=
  ⟨goes_of (by decide +kernel), goes_of (by decide +kernel), goes_of (by decide +kernel), goes_of (by decide +kernel)⟩

theorem meets_TableKeysAndBackup :
    ((up.withWork (wTable 0x0408)).vtChecks (wTable 0x0408)).isOk = true ∧
    ((up.withWork (wTable 0x0409)).vtChecks (wTable 0x0409)).isOk = true ∧
    ((fused.withWork wSeal).vtChecks wSeal).isOk = true ∧ fused.imageBody.length + 132 ≤ wSeal.bufN ∧
    fused.liveEntries = [] ∧ ((fused.withWork wRestore).vtChecks wRestore).isOk = true ∧ 196 ≤ wRestore.bufN ∧
    valLe ((natsOf image).take 2) = 1 ∧ valLe (((natsOf image).drop 8).take 8) = fused.thm.serial ∧
    (fused.imageKey (valLe (((natsOf image).drop 24).take 4))).isSome = true ∧
    valLe (((natsOf image).drop 4).take 4) = 0 ∧ (fused.restoreAll [] 0).isOk = true := by decide +kernel

theorem meets_BackupRestore :
    Pk.ecdsaVerify Pk.p521 (Pk.ecPublic Pk.p521 fused.identityKey) (Hash.sha512 ((natsOf image).take 64))
      ((natsOf image).drop 64) = true ∧ image.length = 196 ∧
    (viewRead wRestore.h wRestore.bufA wRestore.bufN).isSome = true := by decide +kernel

/-- Key 1: an AES-256 key for sessions. Context 0: an open session that seals; context 1: one that opens. -/
def sessed : State :=
  let s := key up 1 2 (2 ^ uEncrypt + 2 ^ uDecrypt + 2 ^ uSession) (List.replicate 32 7)
  let s := (s.wr .boltPart_vaultBanks 0 4).setVault { s.vault with slotMib := 1 }
  let x := { sessDefault 0 with isOpen := true, nonce := List.replicate 12 1, key := List.replicate 32 7, source := some (1, 1) }
  (s.putSess 0 x).putSess 1 { x with opening := true }
def wOpen : Work := workOf 0x0501 0 (desc [(8, 8, handle 1), (32, 8, 0x1000), (44, 1, 0x30)]) zeroHost
def wUpdate (part : Nat) : Work :=
  workOf 0x0502 0 (desc [(8, 8, 65536), (16, 8, 0x1000), (24, 8, 0x2000), (40, 4, 63), (45, 1, part), (48, 1, 1)]) zeroHost
def wFinal (i : Nat) : Work := workOf 0x0503 0 (desc [(8, 8, 65536 + i), (32, 8, 0x1000), (48, 1, 1)]) zeroHost
def wClose : Work := workOf 0x0504 0 (desc [(8, 8, 65536), (48, 1, 1)]) []
def wMigrate (p : Nat) : Work := workOf 0x0505 0 (desc [(8, 8, 65536), (46, 2, p), (48, 1, 1)]) []
/-- The same in a mesh with member 1023. -/
def meshed : State :=
  let s := sessed.wr .svMeshState_joined 0 1
  s.setPeer 1023 { s.peer 1023 with member := true, paths := [(0, 0)] }

theorem goes_Sessions : (sessed.withWork wOpen).Dispatches wOpen ∧
    (sessed.withWork (wUpdate 0)).Dispatches (wUpdate 0) ∧ (sessed.withWork (wUpdate 1)).Dispatches (wUpdate 1) ∧
    (sessed.withWork (wFinal 0)).Dispatches (wFinal 0) ∧ (sessed.withWork (wFinal 1)).Dispatches (wFinal 1) ∧
    (sessed.withWork wClose).Dispatches wClose ∧ (meshed.withWork (wMigrate 0)).Dispatches (wMigrate 0) ∧
    (meshed.withWork (wMigrate 1023)).Dispatches (wMigrate 1023) :=
  ⟨goes_of (by decide +kernel), goes_of (by decide +kernel), goes_of (by decide +kernel), goes_of (by decide +kernel),
   goes_of (by decide +kernel), goes_of (by decide +kernel), goes_of (by decide +kernel), goes_of (by decide +kernel)⟩

theorem meets_Sessions :
    badOffset wOpen.seChecks = none ∧ sessed.sessionsOf 0 < (sessed.quota 0).sessions ∧
    (sessed.keyOperand zeroHost 0 wOpen.seKind wOpen.ref 8 0).isOk = true ∧
    (checkTypeUse (matOfEntry 1 (sessed.entry 1)) 8 (fun t => t == 1 || t == 2) [uSession]).isOk = true ∧
    (checkTypeUse (matOfEntry 1 (sessed.entry 1)) 8 (fun _ => true) [uEncrypt]).isOk = true ∧
    (viewRead zeroHost wOpen.seAux 12).isSome = true ∧ sessed.slotFree (some (1, 1)) = true ∧ sessed.freeCtx = some 2 ∧
    ((sessed.withWork (wUpdate 0)).seRef (wUpdate 0)).toOption = some 0 ∧ (sessed.sess 0).ended = false ∧
    (viewRead zeroHost (wUpdate 0).seIn (wUpdate 0).seLen).isSome = true ∧ (wUpdate 0).isAad = false ∧
    (sessed.sess 0).text.length + (wUpdate 0).seLen ≤ (sessed.sess 0).most ∧
    ((sessed.withWork (wUpdate 1)).seRef (wUpdate 1)).toOption = some 0 ∧ (wUpdate 1).isAad = true ∧
    (sessed.sess 0).dataPhase = false ∧ ((sessed.withWork (wFinal 0)).seRef (wFinal 0)).toOption = some 0 ∧
    (sessed.sess 0).opening = false ∧ ((sessed.withWork (wFinal 1)).seRef (wFinal 1)).toOption = some 1 ∧
    (sessed.sess 1).opening = true ∧ (viewRead zeroHost (wFinal 1).seAux 16).isSome = true ∧
    ((sessed.withWork wClose).seRef wClose).toOption = some 0 ∧
    ((meshed.withWork (wMigrate 0)).seRef (wMigrate 0)).toOption = some 0 ∧ meshed.joined = true ∧
    (wMigrate 0).toPeer = meshed.myId ∧ (wMigrate 1023).toPeer ≠ meshed.myId ∧
    (meshed.peer 1023).member = true ∧ (meshed.peer 1023).lost = false ∧ (meshed.peer 1022).member = false ∧
    meshed.openHandoff 1023 = none ∧
    (meshed.putSess 1 { meshed.sess 1 with migrating := some (0, 8, 1023, 1) }).openHandoff 1023 ≠ none ∧
    (let s := meshed.setPeer 1023 { meshed.peer 1023 with lost := true }
     (s.peer 1023).member = true ∧ (s.peer 1023).lost = true) := by
  decide +kernel

/-- A program image of one halfword of code, signed with the P-256 scalar 1. -/
def progHead : List Byte :=
  leBytes 4 0x50494C4F ++ leBytes 2 1 ++ leBytes 2 0 ++ leBytes 4 258 ++ leBytes 4 2 ++ List.replicate 108 0
def progSig : List Byte := bytesOf (Pk.ecdsaSign Pk.p256 1 (Hash.sha512 (natsOf progHead ++ [0, 0])) 1)
def progImage (sig : List Byte) : List Byte := progHead ++ sig ++ List.replicate 68 0 ++ [0, 0]
/-- Room for programs in DDR5, the signer's public key as entry 1, program 1.0 of tenant 0, Needle 0 in service. -/
def stored : State :=
  let s := ((key up 1 0x8010 (2 ^ uSigner) point).wr .thmProg_size4mib 0 1).wr .ddrStatus_usableGib 0 1
  (((s.wr .ndlCtrl_hold 0 0).wr .ndlCtrl_inService 0 1).wr .clkIsland_running 0 1).wr .clkIsland_inReset 0 0
def programmed : State := stored.setProg 0 { progDefault 0 with live := true, entries := [0], code := [0, 0] }
def wLoad (sig : List Byte) : Work :=
  workOf 0x0601 0 (desc [(8, 8, 0x1000), (16, 8, handle 1), (24, 4, 258)]) [(0x1000, progImage sig)]
def wInvoke (fin : InvokeEnd) : Work :=
  workOf 0x0602 0 (desc [(8, 2, 256), (11, 1, 0xF), (12, 4, 1), (16, 8, 0x1000), (24, 8, 0x2000), (32, 4, 16), (36, 4, 16)])
    zeroHost fin
def wUnload : Work := workOf 0x0603 0 (desc [(8, 2, 256)]) []

theorem goes_Programs : (stored.withWork (wLoad progSig)).Dispatches (wLoad progSig) ∧
    (programmed.withWork (wInvoke (.ok 1 []))).Dispatches (wInvoke (.ok 1 [])) ∧
    (programmed.withWork (wInvoke .running)).Dispatches (wInvoke .running) ∧
    (programmed.withWork wUnload).Dispatches wUnload :=
  ⟨goes_of (by decide +kernel), goes_of (by decide +kernel), goes_of (by decide +kernel), goes_of (by decide +kernel)⟩

theorem meets_Programs_load :
    badOffset ((wLoad progSig).header ++ [(24, decide (256 ≤ (wLoad progSig).f 24 4 ∧ (wLoad progSig).f 24 4 ≤ 540672)),
      (28, (wLoad progSig).f 28 1 == 0), (29, (wLoad progSig).f 29 35 == 0)]) = none ∧
    progHeaderOk ((progImage progSig).take 256) 258 = true ∧
    (dmaRead (wLoad progSig).h 0x1000 256).isOk = true ∧ (viewRead (wLoad progSig).h 0x1000 258).isSome = true ∧
    (stored.thm.progs.filter (fun p => p.2.live && p.2.tenant == 0)).length < (stored.quota 0).programs ∧
    stored.freeSlot 258 = some (0, 0) ∧
    stored.rd .ddrStatus_fencedCh 0 = 0 ∧ stored.rd .ddrStatus_fencedRank 0 = 0 ∧ (stored.keyOperand (wLoad progSig).h 0 0 (handle 1) 16 0).isOk = true ∧
    (checkTypeUse (matOfEntry 1 (stored.entry 1)) 16 isEc [uSigner]).isOk = true ∧ leAt progHead 6 2 = 0 := by decide +kernel

theorem meets_Programs_signed :
    progSigned (matOfEntry 1 (stored.entry 1)) (natsOf (progImage progSig)) = true ∧
    progSigned (matOfEntry 1 (stored.entry 1)) (natsOf (progImage (List.replicate 64 0))) = false := by decide +kernel

theorem meets_Programs_invoke :
    ((programmed.withWork (wInvoke (.ok 1 []))).invokeChecks (wInvoke (.ok 1 []))).toOption = some (0, 0) ∧
    (programmed.progRead (programmed.prog 0)).isOk = true ∧
    (viewRead zeroHost 0x1000 16).isSome = true ∧ (programmed.withWork (wInvoke .running)).idleNeedle = some 0 ∧
    ((programmed.withWork wUnload).progRef wUnload).toOption = some 0 ∧
    badOffset (wUnload.header ++ [(10, wUnload.f 10 54 == 0)]) = none := by decide +kernel

/-! ## Witnesses: mesh administration, maintenance, streams -/

def wAdm (op : Nat) (a : List (Nat × Nat)) (h : HostView) : Work := workOf op 0 (desc (a.map (fun e => (8 + 8 * e.1, 8, e.2)))) h
def wJoin : Work := wAdm 0x0701 [(0, 3), (1, 0x1000), (2, 1)] zeroHost
def wShardConf (h : HostView) : Work := wAdm 0x0703 [(0, 255), (1, 1 + 256), (2, 0x1000)] h
def wTakeover : Work := wAdm 0x0705 [(0, 255)] []
/-- Shard 255 has this device as its replica. -/
def sharded : State := up.setMesh { up.mesh with shards := [(255, { up.shard 255 with replicas := [0] })] }
def farHost : HostView := [(0x1000, leBytes 2 1023)]

theorem goes_MeshAdmin : (up.withWork wJoin).Dispatches wJoin ∧
    (up.withWork (wAdm 0x0702 [] [])).Dispatches (wAdm 0x0702 [] []) ∧
    (meshed.withWork (wShardConf zeroHost)).Dispatches (wShardConf zeroHost) ∧
    (meshed.withWork (wShardConf farHost)).Dispatches (wShardConf farHost) ∧
    (up.withWork (wAdm 0x0704 [(0, 0x2000)] [])).Dispatches (wAdm 0x0704 [(0, 0x2000)] []) ∧
    (sharded.withWork wTakeover).Dispatches wTakeover ∧
    ((sharded.wr .svShard_role 255 1).withWork wTakeover).Dispatches wTakeover :=
  ⟨goes_of (by decide +kernel), goes_of (by decide +kernel), goes_of (by decide +kernel), goes_of (by decide +kernel),
   goes_of (by decide +kernel), goes_of (by decide +kernel), goes_of (by decide +kernel)⟩

theorem meets_MeshAdmin :
    ((up.withWork wJoin).admChecks wJoin [(24, true), (0xFF, !up.joined)]).isOk = true ∧ wJoin.a 2 = 1 ∧
    up.mesh.joining = none ∧ (viewRead zeroHost (wJoin.a 1) 2).isSome = true ∧
    ((up.withWork (wAdm 0x0702 [] [])).admChecks (wAdm 0x0702 [] []) []).isOk = true ∧
    bitOf ((wAdm 0x0702 [] []).a 0) 0 = false ∧
    ((meshed.withWork (wShardConf zeroHost)).admChecks (wShardConf zeroHost) [(16, true)]).isOk = true ∧
    (wShardConf zeroHost).ab 1 0 4 = 1 ∧ (wShardConf zeroHost).ab 1 8 4 = 1 ∧
    (viewRead zeroHost 0x1000 2).map (fun b => idList b 1) = some [0] ∧
    (viewRead farHost 0x1000 2).map (fun b => idList b 1) = some [1023] ∧
    ((up.withWork (wAdm 0x0704 [(0, 0x2000)] [])).admChecks (wAdm 0x0704 [(0, 0x2000)] []) []).isOk = true ∧
    ((sharded.withWork wTakeover).admChecks wTakeover [(8, (sharded.replicasOf 255).contains sharded.myId)]).isOk = true ∧
    sharded.rd .svShard_role 255 ≠ 1 ∧ sharded.shardReloading 255 = false ∧ (sharded.shard 255).claiming = none ∧
    (sharded.wr .svShard_role 255 1).rd .svShard_role 255 = 1 := by decide +kernel

/-- The member that claims: this device where it is the first live replica, else another. -/
def afterConf (h : HostView) (ids : List Nat) : State :=
  let w := wShardConf h
  let u := meshed.withWork w
  let t := (u.moveWork w .running).takeConfig u.myId
    { shard := 255, replicas := ids, k := 1, epoch := u.rd .svShard_epoch 255, primary := u.rd .svShard_primary 255 }
  (ids.filter (fun p => p != t.myId)).foldl (fun s p => s.sendTo p 255 (u.rd .svShard_epoch 255) .ack) t

theorem meets_ShardConfig :
    [0].find? (afterConf zeroHost [0]).liveMember = some (afterConf zeroHost [0]).myId ∧
    [1023].find? (afterConf farHost [1023]).liveMember ≠ some (afterConf farHost [1023]).myId ∧
    [1023].find? (fun p => p != meshed.myId && !(meshed.peer p).member) = none ∧
    (meshed.shard 255).claiming.bind (·.work) = none := by decide +kernel

def wErrRing : Work := wAdm 0x0F01 [(0, 0x7000), (1, 5), (3, 0x8000)] []
def wRestart : Work := wAdm 0x0F06 [(0, 0), (1, 63)] []
def stoppedRing : State := ringed.wr .ringSqState_stopped 0 1
def wLimits : Work := wAdm 0x0F09 [(0, 255), (1, 1 + 2 ^ 16 + 2 ^ 32), (2, 2 ^ 24), (3, 65536)] []
/-- Needle 0 retired. -/
def lessOne : State := up.setFit { up.fit with retired := [(0, 3)] }
def wUnit (op x : Nat) (flag : Bool) : Work := workOf op 0 (desc [(8, 8, x)]) [] .running flag

theorem goes_Maintenance : (up.withWork (wAdm 0x0F00 [] [])).Dispatches (wAdm 0x0F00 [] []) ∧
    (up.withWork wErrRing).Dispatches wErrRing ∧
    (up.withWork (wAdm 0x0F02 [(0, 2)] [])).Dispatches (wAdm 0x0F02 [(0, 2)] []) ∧
    (up.withWork (wAdm 0x0F03 [] [])).Dispatches (wAdm 0x0F03 [] []) ∧
    (lessOne.withWork (wUnit 0x0F04 0 true)).Dispatches (wUnit 0x0F04 0 true) ∧
    (up.withWork (wUnit 0x0F04 0x31F false)).Dispatches (wUnit 0x0F04 0x31F false) ∧
    (up.withWork (wUnit 0x0F04 0 false)).Dispatches (wUnit 0x0F04 0 false) ∧
    (up.withWork (wUnit 0x0F05 0x10F true)).Dispatches (wUnit 0x0F05 0x10F true) :=
  ⟨goes_of (by decide +kernel), goes_of (by decide +kernel), goes_of (by decide +kernel), goes_of (by decide +kernel),
   goes_of (by decide +kernel), goes_of (by decide +kernel), goes_of (by decide +kernel), goes_of (by decide +kernel)⟩

theorem meets_Maintenance :
    badOffset (wAdm 0x0F00 [] []).admFields = none ∧
    ((up.withWork wErrRing).admChecks wErrRing [(8, wErrRing.a 0 % 4096 == 0), (16, decide (5 ≤ wErrRing.ab 1 0 5)),
      (32, wErrRing.a 3 % 4 == 0)]).isOk = true ∧
    ((up.withWork (wAdm 0x0F02 [(0, 2)] [])).admChecks (wAdm 0x0F02 [(0, 2)] []) []).isOk = true ∧
    ((up.withWork (wAdm 0x0F03 [] [])).unitChecks (wAdm 0x0F03 [] [])).isOk = true ∧
    ((lessOne.withWork (wUnit 0x0F04 0 true)).unitChecks (wUnit 0x0F04 0 true)).isOk = true ∧
    lessOne.isRetired 0 = true ∧ up.isRetired 0x31F = false ∧ ¬(0x300 ≤ 0 ∧ 0 < 0x320) ∧
    ((up.withWork (wUnit 0x0F05 0x10F true)).unitChecks (wUnit 0x0F05 0x10F true)).isOk = true := by decide +kernel

theorem meets_Maintenance_errors : interrupting.err.ring.isSome = true ∧ interrupting.err.readOut = true := by decide +kernel

theorem goes_RingsVectorsTenants : (stoppedRing.withWork wRestart).Dispatches wRestart ∧
    (up.withWork (wAdm 0x0F07 [(0, 4095), (1, 3)] [])).Dispatches (wAdm 0x0F07 [(0, 4095), (1, 3)] []) ∧
    (up.withWork (wAdm 0x0F07 [(0, 4095)] [])).Dispatches (wAdm 0x0F07 [(0, 4095)] []) ∧
    (up.withWork (wAdm 0x0F08 [(0, 2047), (1, 8)] [])).Dispatches (wAdm 0x0F08 [(0, 2047), (1, 8)] []) ∧
    (up.withWork wLimits).Dispatches wLimits :=
  ⟨goes_of (by decide +kernel), goes_of (by decide +kernel), goes_of (by decide +kernel), goes_of (by decide +kernel),
   goes_of (by decide +kernel)⟩

theorem meets_RingsVectorsTenants :
    (stoppedRing.withWork wRestart).tenantOf 0 = 0 ∧
    badOffset (wRestart.admFields ++ [(8, stoppedRing.flag .ringSqState_stopped 0 && stoppedRing.sqStarts 0),
      (16, decide (wRestart.ab 1 0 16 < 2 ^ stoppedRing.rd .ringSqCfg_sizeLog2 0))]) = none ∧
    ((up.withWork (wAdm 0x0F07 [(0, 4095), (1, 3)] [])).admChecks (wAdm 0x0F07 [(0, 4095), (1, 3)] []) []).isOk = true ∧
    pinClass 3 = some 0 ∧ pinClass 0 = none ∧
    ((up.withWork (wAdm 0x0F08 [(0, 2047), (1, 8)] [])).admChecks (wAdm 0x0F08 [(0, 2047), (1, 8)] []) []).isOk = true ∧
    up.pba 0 2047 = false ∧ ((up.withWork wLimits).admChecks wLimits [(16, decide (1 ≤ wLimits.ab 1 0 16))]).isOk = true ∧
    wLimits.ab 1 16 16 = 1 ∧ wLimits.ab 1 32 16 = 1 ∧ 2047 < vectorsOf 0 ∧ up.checking = false ∧ up.locked = false ∧
    63 < vectorsOf 255 ∧ interrupting.flag .ringCqCfg_irqEnable 0 = true ∧ 0 < (interrupting.cq 0).unsig := by
  decide +kernel

/-- A CRC64 over 16 bytes, and an AES-256-CTR under key 1; the same as command blocks. -/
def wCrc : Work :=
  workOf 0x0101 0 (desc [(8, 8, 0x1000), (16, 8, 0x2000), (24, 8, 0x2100), (48, 4, 16), (54, 1, 0x17), (59, 1, 0x30)]) zeroHost
def wCtr : Work :=
  workOf 0x0101 0 (desc [(8, 8, 0x1000), (16, 8, 0x2000), (32, 8, handle 1), (48, 4, 16), (54, 1, 0x07)]) zeroHost
def vecRec (a n : Nat) : List Byte := leBytes 8 a ++ leBytes 4 n ++ leBytes 4 0
def cmdBlock (stage kinds key side : Nat) : List Byte :=
  [1, 0, BitVec.ofNat 8 kinds, 0] ++ leBytes 4 stage ++ leBytes 8 0 ++ leBytes 8 16 ++ leBytes 8 0 ++ leBytes 8 key
    ++ leBytes 8 0 ++ leBytes 8 0 ++ leBytes 8 0 ++ vecRec 0x1000 15 ++ vecRec 0x2000 15 ++ vecRec side 0
def wCmd (b : List Byte) : Work := workOf 0x0102 0 (desc [(8, 8, 0x3000), (16, 2, 112)]) [(0x3000, b)]
def ctrKey : State := key up 1 2 (2 ^ uEncrypt + 2 ^ uDecrypt) (List.replicate 32 7)

theorem goes_StreamDescriptors : (up.withWork wCrc).Dispatches wCrc ∧ (ctrKey.withWork wCtr).Dispatches wCtr ∧
    (up.withWork (wCmd (cmdBlock 0x17 0xFF 0 0x2100))).Dispatches (wCmd (cmdBlock 0x17 0xFF 0 0x2100)) ∧
    (ctrKey.withWork (wCmd (cmdBlock 0x07 0xFC (handle 1) 0))).Dispatches (wCmd (cmdBlock 0x07 0xFC (handle 1) 0)) :=
  ⟨goes_of (by decide +kernel), goes_of (by decide +kernel), goes_of (by decide +kernel), goes_of (by decide +kernel)⟩

/-- The key slot of a descriptor's stream, and whether no vector of it is fenced. -/
def inlineOf (s : State) (w : Work) : Option (Option KsTag × Bool) :=
  let u := s.withWork w
  ((u.inlineVecs w).bind (u.inlineStrm w)).toOption.map (fun x =>
    (x.ks, (u.checkFences x.src x.dst0 x.dst1 x.length x.sideBytes).isOk))
def blockOf (s : State) (w : Work) : Option (Option KsTag × Bool) :=
  let u := s.withWork w
  ((u.cmdVecs w).bind (u.cmdStrm w)).toOption.map (fun x =>
    (x.ks, (u.checkFences x.src x.dst0 x.dst1 x.length x.sideBytes).isOk))

theorem meets_StreamDescriptors :
    inlineOf up wCrc = some (none, true) ∧ inlineOf ctrKey wCtr = some (some (.entry 1 1), true) ∧
    blockOf up (wCmd (cmdBlock 0x17 0xFF 0 0x2100)) = some (none, true) ∧
    blockOf ctrKey (wCmd (cmdBlock 0x07 0xFC (handle 1) 0)) = some (some (.entry 1 1), true) := by decide +kernel

/-- A header whose reserved byte 6 is not zero. -/
def marred : Desc := { desc [] with rsvd6 := 1 }

theorem goes_ReservedFieldsRefused : ∀ op ∈ [0x0F00, 0x0201, 0x0302, 0x0401, 0x0504, 0x0603],
    (up.withWork (workOf op 0 marred [])).isFenced (workOf op 0 marred []) = false ∧
    (up.withWork (workOf op 0 marred [])).unmet (workOf op 0 marred []) = 0 ∧
    (up.withWork (workOf op 0 marred [])).mustWait (workOf op 0 marred []) = false := by decide +kernel

theorem meets_ReservedFieldsRefused : badOffset (workOf 0x0F00 0 marred []).header = some 6 := by decide +kernel

/-! ## Witnesses: streams, the table engine -/

/-- A CTR stream of 16 bytes from host memory to host memory, with one job of it at some stage. -/
def job (at_ : JobAt) : Job :=
  { no := 0, off := 0, len := 16, unit := 0, units := 1, piece := 0, ends := true, at_,
    reran := false, lastPipe := none, inBuf := 0, outBuf := 63, outOff := 0, outLen := 16, side := [] }
def strm (at_ : JobAt) : Strm :=
  { strmBlank with id := 1, chain := [0x07], ks := some (.entry 1 1), length := 16,
                   src := { Vec.none with base := 0x1000, esize := 1, stride := 1 },
                   dst0 := { Vec.none with base := 0x2000, esize := 1, stride := 1 }, jobs := [job at_] }
/-- That stream in flight, its job on pipeline 15 where it is on one. -/
def streaming (at_ : JobAt) : State :=
  let s := up.wr .boltMode_maint 0 0
  { s with sht := { s.sht with flight := [strm at_], pipes := [(15, { slots := [], jobs := [(1, 0)], testGen := 0, testFor := [] })] } }

theorem meets_StreamLife :
    (streaming .reading).strm 1 = some (strm .reading) ∧ (strm .reading).src.space = 0 ∧ recLen (strm .reading).chain = 0 ∧
    (streaming .reading).bolt.writeBack = false ∧
    (strm .reading).jobs.find? (fun j => j.at_ == .reading) = some (job .reading) ∧
    (strm .reading).recsOf (job .reading) = 0 ∧ (streaming .reading).vecFenced (strm .reading).src 0 16 = none ∧
    (streaming .reading).vecFenced (strm .reading).dst1 0 0 = none ∧
    (streaming .reading).banksWait ((streaming .reading).vecBanks (strm .reading).src 0 16 ++
      (streaming .reading).vecBanks (strm .reading).dst1 0 0 ++ (streaming .reading).areaBanks 0 16 0) = false ∧
    (streaming .reading).areaFenced 0 16 0 = false ∧ (streaming (.onPipe 15 false)).areaFenced 63 16 0 = false ∧
    (streaming (.onPipe 15 false)).banksWait ((streaming (.onPipe 15 false)).jobBanks (strm (.onPipe 15 false))
      (job (.onPipe 15 false))) = false ∧ (strm .reading).early = [] ∧ (job .reading).len ≠ 0 ∧
    (streaming (.onPipe 15 false)).areaBad ((streaming (.onPipe 15 false)).bufAt 0) 16 = [] ∧
    (streaming (.onPipe 15 false)).areaBad ((streaming (.onPipe 15 false)).sideAt 0) 0 = [] ∧
    (streaming .draining).banksWait ((streaming .draining).areaBanks 63 16 0) = false ∧
    (streaming .draining).areaBad ((streaming .draining).bufAt 63) 16 = [] ∧
    (streaming .draining).areaBad ((streaming .draining).sideAt 63) 0 = [] ∧
    ((streaming .reading).landBytes (strm .reading) (job .reading) (List.replicate 16 1)).1 = .ok ∧
    ((streaming (.onPipe 15 true)).pipeJobs 15).find? (fun e => e.2.at_ == .onPipe 15 true)
      = some (strm (.onPipe 15 true), job (.onPipe 15 true)) ∧
    ((streaming (.onPipe 15 true)).pipe 15).slots = [] ∧
    ((streaming (.onPipe 15 false)).pipeJobs 15).find? (fun e => e.2.at_ == .onPipe 15 false)
      = some (strm (.onPipe 15 false), job (.onPipe 15 false)) ∧
    (job (.onPipe 15 false)).reran = false ∧
    (strm .draining).jobs.find? (fun j => j.at_ == .draining) = some (job .draining) ∧ (strm .draining).dst0.space = 0 ∧
    (job .draining).side = [] ∧ (strm .draining).muddled (strm .draining).dst0 (strm .draining).length = false ∧
    (streaming .draining).rings.wrote = [] ∧
    ((streaming .draining).drainTo (strm .draining) (strm .draining).dst0 (strm .draining).length 0
      ((streaming .draining).drainBytes (job .draining)).1).1 = .ok ∧
    (let x : Strm := { strm .drained with ended := some (0, 0) }
     ([x].find? (fun y => y.ring == 0)) = some x) := by decide +kernel

/-- A stream wholly inside the device, finished, with and without another that still runs; a hot reset waits. -/
def inside (more : Bool) : State :=
  let x : Strm := { strm .drained with src := { Vec.none with space := 2, base := ddrBase }, ended := some (0, 0),
                                       dst0 := { Vec.none with space := 2, base := ddrBase } }
  { up with sht := { up.sht with flight := x :: (if more then [{ x with id := 2, ring := 1, ended := none }] else []) },
            power := { up.power with hotDue := true } }

theorem meets_hot_wait :
    (inside true).insideWork = true ∧ (inside false).insideWork = false ∧
    (let u : State := { inside true with power := up.power }
     u.heldInReset = false ∧ u.power.hold = false ∧ u.power.trip = false ∧ u.power.hotDue = false ∧ u.insideWork = true) ∧
    ((inside true).sht.flight.find? (fun y => y.ring == 0)).any (fun x =>
      ((inside true).retireStrm x 0 0).insideWork == true && ((inside true).retireStrm x 0 0).power.hotDue) = true ∧
    ((inside false).sht.flight.find? (fun y => y.ring == 0)).any (fun x =>
      ((inside false).retireStrm x 0 0).insideWork == false && ((inside false).retireStrm x 0 0).power.hotDue) = true := by decide +kernel

/-- Two descriptors of SQ 0 in flight; the first has written host bytes 0x2000 to 0x200F. -/
def sharing : State :=
  let s := (up.addWork (workOf 0x0101 0 (desc []) [])).addWork (workOf 0x0101 1 (desc []) [])
  s.noteWrote 0 (0, (workOf 0x0101 0 (desc []) []).d.cid.toNat) 0x2000 16

/-- A source in DDR5 past the usable size: the read fails. -/
theorem meets_StreamLife_bad :
    (let x : Strm := { strm .reading with src := { Vec.none with space := 2, base := ddrBase + 2 ^ 40, esize := 1, stride := 1 } }
     ((streaming .reading).landBytes x (job .reading) []).1 ≠ .ok) := by decide +kernel

theorem meets_shared :
    let k := (1, (workOf 0x0101 1 (desc []) []).d.cid.toNat)
    sharing.isShared 0 k 0x2000 = true ∧ sharing.isShared 0 k 0x200F = true ∧ sharing.isShared 0 k 0x2010 = false := by
  decide +kernel

theorem meets_StreamLife_reran :
    (let j : Job := { job (.onPipe 15 false) with reran := true }
     let x : Strm := { strm .ready with jobs := [j] }
     let s : State := { up with sht := { up.sht with flight := [x], pipes := [(15, { slots := [], jobs := [(1, 0)], testGen := 0, testFor := [] })] } }
     (s.pipeJobs 15).find? (fun e => e.2.at_ == .onPipe 15 false) = some (x, j) ∧ j.reran = true) := by decide +kernel

/-- Pipeline 0 ready. -/
def piped : State := (up.wr .stcPipeState_ready 0 1).wr .stcSelftest_intervalMs 0 1

theorem meets_PipelineTests :
    piped.rd .stcSelftest_intervalMs 0 ≠ 0 ∧
    (piped.setSht { piped.sht with testTurn := 1 }).testable 0 = true ∧
    ((up.wr .stcSelftest_intervalMs 0 1).setSht { up.sht with testTurn := 1 }).testable 0 = false ∧
    (up.wr .stcPipeState_selfTest 15 1).flag .stcPipeState_selfTest 15 = true ∧
    (up.setSht { up.sht with draining := true }).sht.draining = true ∧
    (∀ i < 8, ((up.setSht { up.sht with draining := true }).pipe (8 + i)).jobs = []) ∧
    (up.wr .clkIsland_inReset 67 1).seamShut 67 = true ∧ (up.wr .clkIsland_inReset 67 0).seamShut 67 = false ∧
    (let x : Strm := { strm .reading with src := { Vec.none with space := 2, base := ddrBase, esize := 1, stride := 1 } }
     let s : State := { up with sht := { up.sht with flight := [x] } }
     (s.wr .clkIsland_inReset 69 1).ddrShut 1 false = true) ∧
    (let x : Strm := { strm .draining with dst0 := { Vec.none with space := 2, base := ddrBase, esize := 1, stride := 1 } }
     let s : State := { up with sht := { up.sht with flight := [x] } }
     (s.wr .clkIsland_inReset 69 1).ddrShut 1 true = true) ∧ up.ddrShut 1 false = false ∧ up.ddrShut 1 true = false := by decide +kernel

/-- A part in PROVISIONED whose table may serve. -/
def tabled : State :=
  let s := locked.wr .ddrStatus_usableGib 0 64
  s.setVault { s.vault with keyHeld := true, rebuilding := true }

theorem meets_TableEngine :
    (let s := up.setVault { up.vault with sweeping := true }
     s.vault.sweeping = true ∧ s.isReady readyVault = true ∧ s.flag .boltMode_maint = false ∧ s.rd .vtStatus_sweepNext 0 < s.tableSize ∧
     1 < ((s.rewrap 0).showSweep 1).tableSize ∧ 1 % 4096 ≠ 0 ∧
     (s.wr .vtStatus_sweepNext 0 s.tableSize).tableSize ≤ (s.wr .vtStatus_sweepNext 0 s.tableSize).rd .vtStatus_sweepNext 0) ∧
    tabled.vault.rebuilding = true ∧ tabled.tableCond = true ∧ tabled.vault.sweeping = false ∧
    (let t := ((tabled.setVault { tabled.vault with rebuilding := false }).setReady readyVault true).noteLive
     t.vault.sweeping = false) ∧
    (up.setVault { up.vault with mirroring := true }).mirrorNow.tack.ckptGen = none ∧
    (up.setBolt { up.bolt with wiping := true }).isReady (readyTier 0) = true ∧
    ((up.setBolt { up.bolt with wiping := true }).vaultReadback []).debugOpen = false := by decide +kernel

/-! ## Witnesses: Needles -/

/-- Needle 63, out of reset. -/
def needled : State := (up.wr .ndlCtrl_hold 63 0).wr .clkIsland_inReset 63 0
def gatedNdl : State := up.wr .clkGateNdl_needle 0 0
theorem gatedNdl_quiet : gatedNdl.Quiet := quiet_of (by decide +kernel)

theorem meets_NeedleControl :
    needled.gateOff 63 = false ∧ gatedNdl.gateOff 63 = true ∧
    ¬(needled.ctlRemap 63 = true ∧ needled.ctlDebug 63 = true) ∧
    (up.wr .ndlStatus_lockup 63 1).ndLocked 63 = true := by decide +kernel

/-- The restart record of a fault at a trigger. -/
def rec0 : Restart :=
  { form := 0, p := intVal 0, a := intVal 0, b := intVal 0, vd := intVal 0, ew := intVal 0, n := 1, bundle := 0, move := 0 }
/-- An engine with an element fault to take, an interrupt due, nothing, or a held bundle. -/
def pendFault : State :=
  let x := needled.nd 63
  needled.setNd 63 { x with x := { x.x with deferred := some { rec_ := rec0, element := 0, cause := cLoad, addr := 0 } } }
def pendIrq : State :=
  let x := needled.nd 63
  needled.setNd 63 { x with x := { x.x with irqs := [2], handler := false } }
def holding : State := needled.setNd 63 { needled.nd 63 with held := true }
/-- Results in flight in the MUL queue, a division that runs. -/
def flight : State :=
  let x := (needled.nd 63).setQ 0 .mul [qFlight (intVal 6)]
  needled.setNd 63 { x with u := { x.u with longOp := [.div, .sys] } }
theorem flight_quiet : flight.Quiet := quiet_of (by decide +kernel)

theorem meets_NeedleIssue :
    needled.ndRuns 63 = true ∧ (needled.nd 63).x.entering = none ∧ (needled.nd 63).held = false ∧
    (needled.nd 63).modeReq = false ∧ Store.wf ndlDefault needled.ndl = true ∧ (needled.nd 63).x.deferred = none ∧
    (needled.nd 63).x.storeFlt = none ∧ (needled.nd 63).irqDue = none ∧ (needled.nd 63).u.longOp = [] ∧
    (needled.nd 63).x.resuming = false ∧ pendFault.ndRuns 63 = true ∧ (pendFault.nd 63).x.deferred.isSome = true ∧ (pendFault.nd 63).held = false ∧
    Store.wf ndlDefault pendFault.ndl = true ∧ pendIrq.ndRuns 63 = true ∧ (pendIrq.nd 63).irqDue = some 2 ∧
    (pendIrq.nd 63).x.deferred = none ∧ Store.wf ndlDefault pendIrq.ndl = true ∧
    holding.ndRuns 63 = true ∧ (holding.nd 63).x.entering = none ∧ (holding.nd 63).held = true ∧
    unitOf 3 = some .mul ∧ NUnit.mul.depth ≠ 0 ∧ (pushOldest ((flight.nd 63).q 0 .mul)).isSome = true ∧
    (flight.nd 63).u.longOp = [.div, .sys] ∧ flight.ndRuns 63 = true ∧ (flight.nd 63).x.entering = none ∧
    (flight.nd 63).held = false ∧ (flight.nd 63).modeReq = false ∧ Store.wf ndlDefault flight.ndl = true ∧
    (flight.nd 63).x.deferred = none ∧ (flight.nd 63).x.storeFlt = none ∧ (flight.nd 63).irqDue = none ∧
    (flight.nd 63).x.resuming = false ∧
    ((flight.heldCycles 63 0).nd 63).u.longOp = [.div, .sys] := by decide +kernel

/-- A load that waits, a direct load, a store, a fault-first count. -/
def memory : State :=
  let x := ((needled.nd 63).setQ 0 .lsu [qFlight (intVal 0)]).setQ 0 .vec [{ qFlight (intVal 0) with mark := 5 }]
  needled.setNd 63 { x with m := { x.m with
    directs := [{ dsts := [(0, 2 ^ 64 - 1, 5)], tag := .raw, addrs := [0], bad := none, gather := none, w := 64, fail := none,
                  ff := false, elems := [] }],
    sbuf := [{ addr := 0, data := [1], kind := 0, priv := 2, bundle := 0, move := 0, seq := 0, elem := none }] } }
theorem memory_quiet : memory.Quiet := quiet_of (by decide +kernel)

theorem meets_NeedleMemory :
    (oldestLoad ((memory.nd 63).q 0 .lsu)).isSome = true ∧ (memory.memFails 63 .ok []).1 = none ∧
    (returnOldest none ((memory.nd 63).q 0 .lsu)).isSome = true ∧
    (memory.nd 63).m.directs.map (fun d => (d.gather, d.bad)) = [(none, none)] ∧ (memory.nd 63).m.sbuf.length = 1 ∧
    (pushFf ((memory.nd 63).q 0 .vec)).map (·.1) = some 3 := by decide +kernel

/-- DDR5 line 0 in a clean way of the cache. -/
def cached : State := needled.setWay (needled.setOf 0) 0 (some { line := 0, dirty := false, data := List.replicate 128 0 })

/-- A gather of two elements whose answers are out; a line that can be read again after an ECC error, and one that cannot. -/
theorem meets_NeedleMemory_gather :
    (let d : Direct := { dsts := [(64, BitVec.allOnes 128, 0)], tag := .raw, addrs := [0, 8], bad := none,
                         gather := some { rec0 with n := 2 }, w := 64, fail := none, ff := false,
                         elems := [(0, [0]), (1, [ddrBase])] }
     elemAt 0 [d] = some [0] ∧ elemAt 1 [d] = some [ddrBase]) ∧ (needled.ndEcc 63 0).1 = false ∧
    (cached.ndEcc 63 ddrBase).1 = true ∧ (cached.failedHalf [ddrBase]).1 = ddrBase := by decide +kernel

/-- An engine that runs an invocation in an open critical window, its bundle held. -/
def invoked : State :=
  let x := needled.nd 63
  needled.setNd 63 { x with held := true, inv := some { sq := 0, cid := 0, tenant := 0, bufs := [], out := (0, 0), flt := none },
                            x := { x.x with crit := some { asked := 4, since := 0, opened := 0 } } }
theorem invoked_quiet : invoked.Quiet := quiet_of (by decide +kernel)

theorem meets_NeedleInterrupts :
    (invoked.nd 63).inv ≠ none ∧ invoked.fitterAlive = true ∧ invoked.debugOpen = false ∧
    (invoked.wr .thmLc_debugOpen 0 1).debugOpen = true ∧ invoked.ndRuns 63 = true ∧ (invoked.nd 63).x.entering = none ∧
    (invoked.nd 63).held = true ∧ (invoked.nd 63).x.crit.isSome = true ∧ (flight.nd 63).u.longOp ≠ [] := by decide +kernel

theorem meets_ShiftAmounts :
    (needAll .other [intVal 1, intVal 64]).isOk = true ∧ (intVal 64).lo.toNat = 64 ∧ (intVal 32).lo.toNat = 32 := by
  decide +kernel

theorem meets_DivisionEdges :
    (needAll .other [intVal 1, intVal 0]).isOk = true ∧ (intVal 0).lo = 0 ∧ (intVal (2 ^ 63)).lo = BitVec.intMin 64 ∧
    (intVal (2 ^ 64 - 1)).lo = BitVec.allOnes 64 ∧ (intVal (2 ^ 32)).lo.setWidth 32 = (0 : W32) ∧
    (intVal (2 ^ 31)).lo.setWidth 32 = BitVec.intMin 32 ∧ (intVal (2 ^ 32 - 1)).lo.setWidth 32 = BitVec.allOnes 32 := by
  decide +kernel

/-! ## Witnesses: the Bolt, the Hub, Tack -/

/-- Bank 47 on and idle; session bank 4, scratch bank 31; donors, a write-back. -/
def banked : State := ((up.wr .boltPwrIdle_idleUs 0 1).wr .boltBankCfg_pwr 47 1).wr .boltBankCfg_pwr 31 2
def waking : State := up.wr .boltBankState_power 47 3
def donating : State := up.setBolt { up.bolt with copying := [(3, 40)] }
theorem banked_quiet : banked.Quiet := quiet_of (by decide +kernel)
theorem waking_quiet : waking.Quiet := quiet_of (by decide +kernel)
theorem donating_quiet : donating.Quiet := quiet_of (by decide +kernel)
def bankRead : BoltReq := { port := 36, bank := 47, word := 65535, byte := 127, len := 1, data := none, ecc := .none }

theorem meets_BoltBanks :
    banked.rd .boltPwrIdle_idleUs 0 ≠ 0 ∧ banked.rd .boltBankState_power 47 = 0 ∧ 1 < banked.partOfBank 47 ∧
    banked.rd .boltBankCfg_pwr 47 = 1 ∧ 1 < banked.partOfBank 31 ∧ 2 ≤ banked.rd .boltBankCfg_pwr 31 ∧
    banked.rd .boltBankState_power 31 = 0 ∧ waking.rd .boltBankState_power 47 = 3 ∧
    donating.bolt.copying.find? (fun c => c.1 == 3) = some (3, 40) ∧ locked.locked = true ∧
    (locked.setBolt { locked.bolt with writeBack := true }).bolt.writeBack = true ∧
    (∀ c < 8, locked.flag .ddrcState_retired c = true ∨ locked.isReady (readyDdr c) = true) ∧
    (up.wr .boltScrub_rateMbs 0 1).rd .boltScrub_rateMbs 0 ≠ 0 ∧ up.scrubNext 48 up.bolt.scrubAt false = some (0, false) ∧
    up.scrubNext 48 (47 * 65536 + 65535) false = some (47 * 65536 + 65535, false) ∧
    (let s := up.each 48 (fun b s => s.wr .boltBankState_power b 2)
     s.scrubNext 48 s.bolt.scrubAt false = none) ∧ bankRead.wf = true ∧
    (up.wr .boltMode_maint 0 0).flag .boltMode_maint = false := by decide +kernel

def hubRead : HubReq := { master := 15, priv := 0, id := 255, addr := 0x800000000000, size := 128, data := none, met := .none }
def hubOdd : HubReq := { hubRead with addr := 0x800000000040 }
def hubTx : HubTx := { req := hubRead, target := 0, resp := .ok, data := [] }
/-- An event of source 7 pends, one flies to input 511. -/
def raised : State := up.setTack { up.tack with pend := [(7, 6)], flying := [(511, 7, 6)] }
/-- Pin 15's rising edges raise their source; timer 7 is armed. -/
def timed : State :=
  let s := (((up.wr .periGpioCfg_dir 0 0).wr .periGpioEvt_edgeEn 0 (2 ^ 15)).wr .periTimer_periodUs 7 1).wr .periTimer_event 7 1
  s.setTimer 7 { armed := true, since := 0, gen := some 6 }
def untimed : State := (timed.wr .periTimer_event 7 0).wr .periGpioEvt_edgeEn 0 0
theorem untimed_quiet : untimed.Quiet := quiet_of (by decide +kernel)

/-- Before scratch; before the Bridge of T12, which master 15 may not reach. -/
def hubScratch : HubReq := { hubRead with addr := 0x104000100 }
def hubBarred : HubReq := { hubRead with addr := 0xFD00000000 }
/-- The pending source routed to input 3. -/
def routed : State := (raised.wr .tckRoute_en 56 1).wr .tckRoute_dest 56 3

theorem meets_HubRequest :
    hubWellFormed hubScratch = true ∧ up.hub.waiting = [] ∧ up.clocked = true ∧ up.hubOut 15 < up.hubMax 15 ∧
    up.hubTargetWaits hubScratch = false ∧ up.hubDecode hubRead.addr = .none ∧ hubWellFormed hubBarred = true ∧
    up.hubDecode hubBarred.addr = .bridge 12 0 ∧ up.hubPermits 15 0 (HubPlace.bridge 12 0).gate = false ∧
    up.hubDecode hubScratch.addr ≠ .none ∧ up.hubPermits 15 0 (up.hubDecode hubScratch.addr).gate = true ∧
    ([] : List HubTx).find? (fun t => t.req.master == 15 && t.req.id == 255) = none := by decide +kernel

theorem meets_HubAndTack :
    hubWellFormed hubRead = true ∧ hubWellFormed hubOdd = false ∧
    ({ up.hub with flight := [hubTx] } : Hub).flight.find? (fun t => t.req.master == 15 && t.req.id == 255) = some hubTx ∧
    up.isReady readyTack = true ∧ cold.isReady readyTack = false ∧ raised.tack.pend = [(7, 6)] ∧ 6 ≠ 7 ∧
    ((routed.setTack { routed.tack with pend := [] }).count .tckSrc_raised 7).routes 7 = [3] ∧ (untimed.timer 6).armed = false ∧
    ((raised.setTack { raised.tack with pend := [] }).count .tckSrc_raised 7).routes 7 = [] ∧
    ((raised.tack.flying.filter (fun e => sameSeam e.1 511)).any (fun e => e.1 == 511)) = true ∧
    ((raised.tack.flying.filter (fun e => sameSeam e.1 0)).any (fun e => e.1 == 0)) = false ∧ bitOf (timed.rd .periGpioCfg_dir 0) 15 = false ∧
    bitOf (timed.rd .periGpioEvt_edgeEn 0) 15 = true ∧ bitOf (timed.rd .periGpioEvt_edgeFall 0) 15 = !true ∧
    bitOf (untimed.rd .periGpioEvt_edgeEn 0) 15 = false ∧ (timed.timer 7).armed = true ∧
    timed.rd .periTimer_periodUs 7 ≠ 0 ∧ timed.flag .periTimer_event 7 = true ∧ untimed.flag .periTimer_event 7 = false := by
  decide +kernel

/-! ## Witnesses: clocks, DDR5 -/

def unlockedRoot : State := { up with power := { up.power with rootLock := false } }
theorem unlockedRoot_quiet : unlockedRoot.Quiet := quiet_of (by decide +kernel)
/-- Every island's clock runs. -/
def clocked : State := up.each 85 (fun i s => s.wr .clkIsland_running i 1)
def held : State := { unlockedRoot with power := { unlockedRoot.power with hold := true } }

theorem meets_ClocksAndIslands :
    up.power.porActive = false ∧ up.power.rootLock = true ∧ unlockedRoot.power.rootLock = false ∧
    unlockedRoot.thmHeld = false ∧ unlockedRoot.power.xtalStable = true ∧ unlockedRoot.power.hold = false ∧
    held.thmHeld = false ∧ held.power.hold = true ∧ held.power.holdCause = none ∧ up.power.trip = false ∧
    clocked.flag .clkIsland_running 84 = true ∧ clocked.flag .clkIsland_running 0 = true ∧ clocked.fitterAlive = true := by
  decide +kernel

def found (trained : Bool) : DdrFound := { present := true, x4 := true, die := 0, ranks := 2, rdimm := true, trained }
/-- Channel 7 serves with two ranks; channel 0 has the population training found. -/
def channelled : State :=
  let s := (((locked.wr .ddrcState_trained 7 1).wr .ddrcGeom_ranks 7 2).wr .ddrStatus_usableGib 0 8).wr .ddrCfg_scrubH 0 1
  let s := s.setChan 0 { s.chan 0 with found := some (found true) }
  s.setChan 7 { s.chan 7 with unsettled := [(1, 16)] }
theorem channelled_quiet : channelled.Quiet := quiet_of (by decide +kernel)

theorem meets_DdrPeriodic :
    channelled.rankUp 7 1 = true ∧ channelled.rankUp 6 1 = false ∧ channelled.chanUp 7 = true ∧ 1 < (-2 : Int).natAbs ∧
    0 < Store.get (fun _ => 0) (channelled.chan 7).unsettled 1 ∧ channelled.rd .ddrCfg_scrubH 0 ≠ 0 ∧
    256 ≤ channelled.ddrUsable ∧
    channelled.scrubGranule 7 (channelled.scrubGranule 7 (channelled.chan 7).scrubAt + 1) < channelled.ddrUsable / 256 := by
  decide +kernel

/-- Channel 7 in training; channel 1 restoring; a repair under way on channel 2. -/
def training : State :=
  let s := locked.setChan 0 { locked.chan 0 with found := some (found true) }
  let s := s.setChan 7 { s.chan 7 with started := true }
  let s := s.setChan 1 { s.chan 1 with started := true, restoring := true }
  s.setDdr { s.ddr with repairs := [{ ch := 2, subr := 0, bank := 0, row := 0 }] }

theorem meets_DdrChannels :
    training.locked = true ∧ (training.chan 7).started = true ∧ (training.chan 7).restoring = false ∧
    training.flag .ddrcState_trained 7 = false ∧ training.chanOut 7 = false ∧ bitOf (training.rd .clkGate_ddr 0) 7 = true ∧
    (found false).trained = false ∧ training.badPopulation 7 (found true) = false ∧ (found true).present = true ∧
    (training.chan 1).started = true ∧ (training.chan 1).restoring = true ∧ training.chanOut 1 = false ∧
    (training.chan 1).found = none ∧ bitOf (training.rd .clkGate_ddr 0) 1 = true ∧ training.chanOut 2 = false ∧
    (training.wr .ddrStatus_fencedCh 0 4).chanOut 2 = true ∧ (training.ddr.repairs.find? (fun r => r.ch == 2)).isSome = true ∧
    2 ^ 33 - 1 + 1 ≤ channelled.ddrUsable ∧ channelled.ddrRefused (2 ^ 33 - 1) 1 = false ∧
    channelled.ddrPoisoned (2 ^ 33 - 1) 1 = false := by decide +kernel

def ddrReq (offset : Nat) (data : Option (List Byte)) : DdrReq :=
  { offset, len := 1, data, stream := none, ecc := .none, crcRetries := 0, parityRetries := 0, exhausted := false }

theorem meets_DdrAccesses :
    channelled.ddrUsable < 2 ^ 33 + 1 ∧ 2 ^ 33 - 1 + 1 ≤ channelled.ddrUsable ∧
    channelled.ddrRefused (2 ^ 33 - 1) 1 = false ∧ channelled.ddrPoisoned (2 ^ 33 - 1) 1 = false ∧
    (ddrReq (2 ^ 33 - 1) (some [1])).crcRetries = 0 ∧ EccEvent.single ≠ .double ∧
    (let s := channelled.setDdr { channelled.ddr with poison := [0] }
     s.ddrPoisoned 0 1 = true) ∧
    (let s := channelled.wr .ddrStatus_fencedCh 0 1
     s.ddrRefused 0 1 = true ∧ (s.fencedUnit 0 1).isSome = true) ∧
    (let s := (channelled.wr .ddrMigrate_running 0 1).wr .ddrMigrate_next 0 2
     s.flag .ddrMigrate_running = true ∧ 2 ≤ s.rd .ddrMigrate_next 0 ∧
     s.migrates = true ∧
     s.ddrFenced (s.ddrPlace7 (s.rd .ddrMigrate_next 0 - 1)) = false) := by decide +kernel

/-! ## Witnesses: the mesh, the Fitter, the Thimble -/

/-- Port 3 up with a live path to member 1023, to which an acknowledgement is owed. -/
def linked : State :=
  let s := (((locked.wr .svPortCtrl_enable 3 1).wr .svPortState_linkUp 3 1).wr .svPortState_keyed 3 1).wr .svMeshState_joined 0 1
  let s := s.wr .clkGate_sv 0 15
  s.setPeer 1023 { s.peer 1023 with member := true, paths := [(3, 0)], ackOwed := true }
def frame (seq : Nat) : FrameHdr :=
  { port := 3, dstMac := linked.portMac 0 3, srcMac := linked.portMac 1023 3, pn := 1, icv := [], src := 1023, dst := 0, group := false,
    resent := false, seq, ack := 0, shard := 0, epoch := 0 }
/-- Its ICV under the port's SAK. -/
def secured (f : FrameHdr) (b : MeshBody) : FrameHdr := { f with icv := linked.icvOf f b }
theorem secured_ok {f : FrameHdr} {b : MeshBody} (h : linked.portUp f.port = true ∧ linked.macTakes f = true ∧
    linked.nextPn f ≤ f.pn + linked.rd .svCtrl_replayWindow 0 ∧ f.src = macId f ∧ (f.group = true ∨ f.dst = linked.myId) ∧
    linked.mayHear f b = true ∧ f.srcMac / 4096 = linked.rd .svMacBase_base 0) : linked.frameOk (secured f b) b = true := by
  obtain ⟨h1, h2, h3, h4, h5, h6, h7⟩ := h
  have e : linked.icvOk (secured f b) b = true := by
    show (f.srcMac / 4096 == linked.rd .svMacBase_base 0 && linked.icvOf f b == linked.icvOf f b) = true
    rw [h7]; simp
  show (linked.portUp f.port && linked.macTakes f && decide (linked.nextPn f ≤ f.pn + linked.rd .svCtrl_replayWindow 0)
    && f.src == macId f && (f.group || f.dst == linked.myId) && linked.mayHear f b && linked.icvOk (secured f b) b) = true
  rw [h1, h2, h6, e, decide_eq_true h3, beq_iff_eq.2 h4]
  rcases h5 with h | h <;> simp [h]
theorem linked_quiet : linked.Quiet := quiet_of (by decide +kernel)

theorem meets_MeshFrames :
    linked.frameOk (secured (frame 1) .ack) .ack = true ∧
    linked.frameOk (secured (frame 1) (.keepalive 0 0)) (.keepalive 0 0) = true ∧
    linked.frameOk { frame 1 with port := 0 } .ack = false ∧
    (let t := (linked.hear (secured (frame 1) .ack) .ack).takeAck 1023 0
     (frame 1).seq = (t.peer 1023).rxSeq + 1 ∧ (frame 2).seq ≠ (t.peer 1023).rxSeq + 1) :=
  ⟨secured_ok (by decide +kernel), secured_ok (by decide +kernel), by decide +kernel, by decide +kernel⟩

theorem meets_MeshFrames_renews (f : FrameHdr) (b : MeshBody) (h : f.src = 1023) : linked.renews f b = false := by
  have h1 : (linked.peer 1023).rxSeq = 0 := by decide +kernel
  unfold State.renews
  rw [h]
  simp only [h1, Nat.not_lt_zero, decide_false, Bool.and_false, Bool.false_and]

/-- The first frame of member 1023, a write of a shard, is one in its sequence. -/
theorem meets_MeshAdmin_frames (b : MeshBody) (hb : linked.mayHear (frame 1) b = true) :
    (linked.renew (secured (frame 1) b) b).frameOk (secured (frame 1) b) b = true := by
  unfold State.renew
  rw [meets_MeshFrames_renews _ b (show (secured (frame 1) b).src = 1023 from rfl)]
  exact secured_ok ⟨by decide +kernel, by decide +kernel, by decide +kernel, by decide +kernel, by decide +kernel, hb,
    by decide +kernel⟩

theorem meets_MeshAdmin_hears : linked.mayHear (frame 1) (.claim 1023) = true ∧ linked.mayHear (frame 1) (.shardReply true 0) = true ∧
    linked.mayHear (frame 1) (.claimReply true 0) = true ∧ linked.mayHear (frame 1) (.reload .request) = true ∧
    linked.mayHear (frame 1) (.handoffReply 0) = true ∧ linked.mayHear (frame 1) (.membership .leave) = true := by decide +kernel

def joining (answered : List Nat) : Joining :=
  { peers := [1023], answered, members := [1023], firstAt := none, work := (0, 7) }
/-- An abandoned claim of shard 255; a renegotiation of port 3. -/
def claiming : State :=
  linked.setMesh { linked.mesh with
    shards := [(255, { linked.shard 255 with claiming := some { epoch := 1, accepts := [], refusals := [], bestSeq := 0,
                                                                 best := 0, abandoned := true, work := none } })],
    reneg := [3], joining := some (joining []) }
theorem claiming_quiet : claiming.Quiet := quiet_of (by decide +kernel)

theorem meets_MeshTimersAndPorts :
    linked.joined = true ∧ up.joined = false ∧ (up.peer 1023).member = false ∧ (linked.peer 1023).ackOwed = true ∧
    linked.portFor 1023 = some 3 ∧ claiming.mesh.joining = some (joining []) ∧ (joining []).answered = [] ∧
    (joining [1023]).answered ≠ [] ∧ ((claiming.shard 255).claiming.map (·.abandoned)) = some true ∧
    linked.locked = true ∧ linked.flag .svPortCtrl_enable 3 = true ∧ linked.flag .svPortState_retired 3 = false ∧
    linked.portGated 3 = false ∧ linked.mesh.reneg.contains 3 = false ∧ linked.clocked = true ∧
    linked.rd .svPortState_laneRetired 3 = 0 ∧ (linked.wr .svPortCtrl_allow100g 3 0).flag .svPortCtrl_allow100g 3 = false ∧
    (linked.wr .svPortCtrl_allow100g 3 1).flag .svPortCtrl_allow100g 3 = true ∧ claiming.clocked = true ∧
    linked.flag .svPortState_linkUp 3 = true ∧ claiming.mesh.reneg.contains 3 = true ∧
    (claiming.mesh.renegFail.filter (fun e => e.1 == 3 && decide (claiming.time < e.2 + 1000000000))).length < 2 ∧
    ([(3, 0), (3, 0)].filter (fun e => e.1 == 3 && decide (claiming.time < e.2 + 1000000000))).length = 2 := by
  decide +kernel

/-- The Fitter down, its restart begun or not. -/
def fitless : State :=
  let s := up.wr .fitStatus_alive 0 0
  s.setFit { s.fit with downCause := 1 }
theorem fitless_quiet : fitless.Quiet := quiet_of (by decide +kernel)
def adapting : State := (up.wr .fitCtrl_adapt 0 1).wr .fitStatus_settled 0 1
theorem adapting_quiet : adapting.Quiet := quiet_of (by decide +kernel)

theorem meets_FitterLife :
    up.fitterAlive = true ∧ up.power.hold = false ∧ up.power.trip = false ∧ fitless.fitterAlive = false ∧
    fitless.fit.stopped = false ∧ fitless.fit.restarting = false ∧ fitless.fit.downCause ≠ 0 ∧
    (fitless.fit.restartAt.filter (fun t => decide (fitless.time < t + 3600000000000))).length < 3 ∧
    ([0, 0, 0].filter (fun t => decide (fitless.time < t + 3600000000000))).length = 3 ∧
    (fitless.setFit { fitless.fit with restarting := true }).fit.restarting = true ∧ fitless.isReady readyBoot = true ∧
    fitless.imagesOk 64 = true ∧ fitless.clocked = true ∧
    (let s := up.setFit { up.fit with promotions := 1 }
     s.fit.promotions + s.fit.demotions + s.fit.weightChanges + s.fit.avoidances ≠ 0) ∧
    (up.wr .fitCtrl_adapt 0 0).flag .fitCtrl_adapt = false ∧ adapting.flag .fitCtrl_adapt = true ∧
    adapting.flag .fitStatus_settled = true ∧ adapting.fitterAlive = true ∧
    newWeight (adapting.rd .fitTenant_effective 0) (adapting.rd .fitTenant_weight 0)
      (max 1 (adapting.rd .fitTenant_minimum 0)) (adapting.rd .fitTenant_maximum 0) .empty false =
      adapting.rd .fitTenant_effective 0 := by decide +kernel

def logRec : LogRec := { seq := 1, unit := 0, action := 1, reason := 1, time := 0, detail := 0, boot := 1, good := true }
def window : ErrWindow :=
  { origin := 0x0606, cls := 0x0F, severity := 1, reporters := 1, mask := 0, t0 := 0, t1 := 0, detail := 0 }

theorem meets_FitterRecords :
    clocked.fitterAlive = true ∧ clocked.flag .clkIsland_running 84 = true ∧ ¬(0x200 ≤ 0x1FF ∧ 0x1FF ≤ 0x22F) ∧
    ¬(0x200 ≤ 0x230 ∧ 0x230 ≤ 0x22F) ∧ up.fit.rowEv = [] ∧
    (up.setFit { up.fit with logQueue := [logRec] }).fit.logQueue = [logRec] ∧
    (up.setErr { up.err with windows := [window] }).err.windows.find? (fun w => w.origin == 0x0606 && w.cls == 0x0F)
      = some window ∧
    (up.setFit { up.fit with averages := [(84, [(1, 0)])] }).fit.averages = [(84, [(1, 0)])] ∧
    (let s := up.wr .globalProfile_switching 0 1
     s.flag .globalProfile_switching = true ∧ s.fitterAlive = true ∧ s.sht.draining = false ∧
     s.flag .ddrMigrate_running = false ∧ s.fit.profPrev ≠ 1 ∧ s.fit.profQueue = [] ∧
     (s.setFit { s.fit with profPrev := 1, profQueue := [(0, 7, 2)] }).fit.profQueue = [(0, 7, 2)]) := by decide +kernel

/-- Nine samples at the throttle point. -/
def hot : State := up.setFit { up.fit with hotMs := 9 }

theorem meets_ThermalAndPower :
    fitless.fitterAlive = false ∧ up.fitterAlive = true ∧ up.rd .fitThermal_throttleC 0 ≤ 100 ∧ up.fit.hotMs + 1 < 10 ∧
    10 ≤ hot.fit.hotMs + 1 ∧ hot.rd .fitStatus_thermalStep 0 < 3 ∧
    3 ≤ (hot.wr .fitStatus_thermalStep 0 3).rd .fitStatus_thermalStep 0 ∧
    (let hi := min 100 (up.rd .fitThermal_throttleC 0)
     let lo := if hi ≤ up.rd .fitThermal_releaseC 0 then hi - 1 else up.rd .fitThermal_releaseC 0
     lo - 1 < hi ∧ lo - 1 < lo ∧ lo < hi) ∧ up.fit.coolMs + 1 < 100 ∧
    (let s := (up.setFit { up.fit with coolMs := 99 }).wr .fitStatus_thermalStep 0 1
     100 ≤ s.fit.coolMs + 1 ∧ 0 < s.rd .fitStatus_thermalStep 0 ∧ (s.wr .fitStatus_thermalStep 0 0).rd .fitStatus_thermalStep 0 = 0) ∧
    (up.wr .fitStatus_powerW 0 241).powerCap < 241 ∧ up.rd .fitStatus_powerStep 0 < 3 ∧
    3 ≤ (up.wr .fitStatus_powerStep 0 3).rd .fitStatus_powerStep 0 ∧
    50 * 100 < (up.wr .fitStatus_powerW 0 50).powerCap * 95 ∧
    0 < (up.wr .fitStatus_powerStep 0 3).rd .fitStatus_powerStep 0 ∧ up.rd .fitStatus_powerStep 0 = 0 ∧
    (let n := up.powerCap
     n ≤ (up.wr .fitStatus_powerW 0 n).powerCap ∧ (up.wr .fitStatus_powerW 0 n).powerCap * 95 ≤ n * 100) := by decide +kernel

def unbooted : State := up.wr .globalReady_bits 0 0
/-- A blank part: no life-cycle word. -/
def blank : State := up.setThm { up.thm with fuses := [], drbg := true }
def deployed : State := blank.programFuse fuLife lcDeployed

theorem meets_BootAndLifeCycle :
    unbooted.thmHeld = false ∧ unbooted.thm.stopped = false ∧ unbooted.isReady readyBoot = false ∧
    judgeCode unbooted.rollback 128 (.ok 128) = 0 ∧ judgeCode unbooted.rollback 128 .hash ≠ 0 ∧
    judgeCode (unbooted.rejected unbooted.bootSlot 1 1).rollback 128 (.ok 0) = 0 ∧
    judgeCode (unbooted.rejected unbooted.bootSlot 1 1).rollback 128 (.ok 129) ≠ 0 ∧
    up.isReady readyBoot = true ∧ up.isReady readyHub = true ∧
    (up.setThm { up.thm with judged := [3, 4] }).thm.judged.contains 2 = false ∧
    (up.setThm { up.thm with judged := [2, 4] }).thm.judged.contains 3 = false ∧
    judgeCode up.bundle.svn up.bundle.svn (.ok 0) = 0 ∧
    judgeCode up.bundle.svn up.bundle.svn .signature ≠ 0 ∧
    up.lifeState = lcProvisioned ∧ up.flag .thmLc_debugOpen = false ∧ blank.lifeState = lcBlank ∧ blank.thm.drbg = true := by
  decide +kernel

/-- Sensor 0 enabled. -/
def sensed : State := up.wr .thmTamperCfg_inEn 0 1

theorem meets_RandomAndTamper :
    unbooted.thmHeld = false ∧ unbooted.power.rootLock = true ∧ unbooted.power.hold = false ∧
    (let s := up.setReady readyTrng false
     s.isReady readyTrng = false ∧ ((s.setThm { s.thm with drbg := true }).setReady readyTrng true).isReady readyBoot = true ∧
     s.thm.sealed = none ∧ s.vault.sealedCur = true) ∧ unbooted.thm.trngDead = false ∧ unbooted.isReady readyTrng = false ∧ unbooted.thm.sealed = none ∧ unbooted.vault.sealedCur = true ∧
    blank.thm.drbg = true ∧ sensed.power.porActive = false ∧ sensed.sensorOn 0 = true ∧
    sensed.keyDestruction.nextFuse fuTamper 16 = some fuTamper ∧
    (sensed.each 16 (fun i s => s.programFuse (fuTamper + i) 1)).keyDestruction.nextFuse fuTamper 16 = none := by
  decide +kernel

def owner : VendorAuth := { secured := true, owner := true }
def stranger : VendorAuth := { secured := true, owner := false }

theorem meets_SpdmAndVendor :
    up.thmHeld = false ∧ up.isReady readyBoot = true ∧ up.vendorOk stranger = true ∧
    up.vendorOk { stranger with secured := false } = false ∧ (stranger.secured && stranger.owner) = false ∧
    deployed.vendorOk stranger = false ∧ judgeCode up.rollback 128 (.ok 0) = 0 ∧
    (up.wr .thmLc_trial 0 1).bundle.trial = 1 ∧ (up.wr .thmLc_trial 0 1).thm.rolling = none ∧
    (up.wr .thmLc_trial 0 1).bundle.svn ≤ (up.wr .thmLc_trial 0 1).rollback ∧
    up.lifeState ≠ lcRetired ∧ deployed.lifeState = lcDeployed ∧ deployed.vendorOk owner = true ∧
    deployed.thmHeld = false ∧ deployed.isReady readyBoot = true := by decide +kernel

end Sys2Proof.Tests
end

section
/-! PROOF. The state reset leaves (R10, R11, R43, R54): every register at its reset value, every store empty. -/

namespace Sys2Proof.Machine

open Sys2Proof

/-! ## Registers at reset -/

@[simp] theorem fldOfKey_key (f : Fld) {i : Nat} (hi : i < 65536) : fldOfKey (f.key i) = some (f, i) := by
  have hfld : f.key i / 65536 = f.ctorIdx := by unfold Fld.key; omega
  have helt : f.key i % 65536 = i := by unfold Fld.key; omega
  unfold fldOfKey
  rw [hfld, helt, fldAll_ctorIdx]

theorem regDefault_key (p : Part) (f : Fld) {i : Nat} (hi : i < 65536) :
    regDefault p (f.key i) = Fld.reset p i f := by
  simp only [regDefault, fldOfKey_key f hi]

/-- A field of a state that lists no register reads its reset value. -/
theorem rd_of_regs_nil {s : State} (h : s.regs = []) (f : Fld) {i : Nat} (hi : i < 65536) :
    s.rd f i = Fld.reset s.part i f := by
  unfold State.rd
  rw [h]
  exact regDefault_key s.part f hi

theorem reset_rd (f : Fld) {i : Nat} (hi : i < 65536) : State.reset.rd f i = Fld.reset State.reset.part i f :=
  rd_of_regs_nil rfl f hi

theorem reset_locked : State.reset.locked = false := by
  have hlock : State.reset.rd .globalSetupLock_lock = 0 := reset_rd _ (by decide)
  simp only [State.locked, State.flag, hlock, bne_self_eq_false]

theorem reset_isReady (b : Nat) : State.reset.isReady b = false := by
  have hbits : State.reset.rd .globalReady_bits = 0 := reset_rd _ (by decide)
  simp only [State.isReady, bitOf, hbits, Nat.zero_testBit]

/-- Settles O2: the register file lists nothing, and GLOBAL_SETUP_LOCK and GLOBAL_READY reset to 0. -/
theorem resetState : Obligations.ResetState :=
  ⟨fun f _ hi => reset_rd f hi, rfl, rfl, rfl, rfl, rfl, rfl, reset_locked, fun b _ => reset_isReady b,
    rfl, rfl, rfl, rfl⟩

/-! ## The invariants at reset -/

/-- A field that resets to 0 shows an empty count. -/
theorem reset_shows_zero (f : Fld) {i : Nat} (hi : i < 65536) (hf : Fld.reset State.reset.part i f = 0) :
    State.reset.shows f i 0 := by
  unfold State.shows
  rw [reset_rd f hi, hf, Nat.zero_mod]

theorem reset_statusShown : State.reset.StatusShown := by
  have hmany : ∀ r < 16, r < 65536 := fun _ hr => by omega
  exact ⟨reset_shows_zero .ringStat_held (by decide) rfl, reset_shows_zero .vtSessions_open (by decide) rfl,
    fun r hr => reset_shows_zero .shtRrState_inFlight (hmany r hr) rfl,
    fun r hr => reset_shows_zero .shtRrState_waiting (hmany r hr) rfl,
    fun p hp => reset_shows_zero .stcPipeState_ksSlots (hmany p hp) rfl⟩

/-- Settles O3: an empty store is canonical, and what the status fields count is empty. -/
theorem resetMeetsInvariants : Obligations.ResetMeetsInvariants :=
  ⟨rfl, rfl, reset_statusShown⟩

end Sys2Proof.Machine
end

section
/-! PROOF. Reserved header fields (R12, R71, R98, R100): the header stands before every field of a body, so its lowest
offending field is the one a refusal names. -/

namespace Sys2Proof.Machine

open Sys2Proof

/-! ## The lowest offending offset -/

theorem badOffset_mem {l : List (Nat × Bool)} {o : Nat} (h : badOffset l = some o) : (o, false) ∈ l := by
  have hmem := List.min?_mem h
  simpa using hmem

/-- Fields at higher offsets do not change the lowest offending one. -/
theorem badOffset_append {l l' : List (Nat × Bool)} {o : Nat} (h : badOffset l = some o) (hl : ∀ e ∈ l', o ≤ e.1) :
    badOffset (l ++ l') = some o := by
  unfold badOffset at h ⊢
  rw [List.min?_eq_some_iff] at h ⊢
  obtain ⟨hmem, hmin⟩ := h
  rw [List.filter_append, List.map_append]
  refine ⟨List.mem_append_left _ hmem, fun b hb => ?_⟩
  rcases List.mem_append.1 hb with hb | hb
  · exact hmin b hb
  · obtain ⟨e, he, rfl⟩ := List.mem_map.1 hb
    exact hl e (List.mem_of_mem_filter he)

theorem header_offsets (w : Work) : w.header.map (·.1) = [2, 3, 6] := rfl

/-- The reserved fields of the header stand before offset 8, where the body begins (R71). -/
theorem header_offset_lt {w : Work} {e : Nat × Bool} (he : e ∈ w.header) : e.1 < 8 := by
  have hoff : e.1 ∈ w.header.map (·.1) := List.mem_map_of_mem he
  rw [header_offsets] at hoff
  simp only [List.mem_cons, List.not_mem_nil, or_false] at hoff
  omega

theorem badOffset_header_lt {w : Work} {o : Nat} (h : badOffset w.header = some o) : o < 8 :=
  header_offset_lt (badOffset_mem h)

/-- The header reads the descriptor alone, not its opcode. -/
theorem header_workOf (op op' sq : Nat) (d : Desc) (h : HostView) :
    (workOf op sq d h).header = (workOf op' sq d h).header := rfl

/-! ## The field checks of R98 step 4 -/

/-- Every password limit concerns a field of the body. -/
theorem pwLimits_offset_ge (w : Work) : ∀ e ∈ w.pwLimits, 8 ≤ e.1 := by
  unfold Work.pwLimits
  split
  · simp
  · split <;> simp

section

variable {w : Work} {o : Nat} (h : badOffset w.header = some o)
include h

/-- Checks of the header and of body fields end at the header's field. -/
theorem needFields_header_append {l : List (Nat × Bool)} (hl : ∀ e ∈ l, 8 ≤ e.1) :
    needFields (w.header ++ l) = .error (fail stBadDescriptor o) :=
  needFields_bad (badOffset_append h fun e he => (badOffset_header_lt h).le.trans (hl e he))

theorem needFields_admFields : needFields w.admFields = .error (fail stBadDescriptor o) := by
  unfold Work.admFields
  rw [List.append_assoc]
  refine needFields_header_append h (List.forall_mem_append.2 ⟨?_, by simp⟩)
  exact List.forall_mem_map.2 fun i _ => Nat.le_add_right 8 (8 * i)

theorem needFields_pkChecks : needFields w.pkChecks = .error (fail stBadDescriptor o) :=
  needFields_header_append h (by simp)

theorem needFields_pwChecks : needFields w.pwChecks = .error (fail stBadDescriptor o) := by
  unfold Work.pwChecks
  rw [List.append_assoc]
  refine needFields_header_append h (List.forall_mem_append.2 ⟨?_, by simp⟩)
  split
  · exact pwLimits_offset_ge w
  · simp

theorem needFields_seChecks : needFields w.seChecks = .error (fail stBadDescriptor o) :=
  needFields_header_append h (by simp)

theorem needFields_vtFields (s : State) :
    needFields (w.header ++ w.vtUnused ++ s.vtLimits w) = .error (fail stBadDescriptor o) := by
  rw [List.append_assoc]
  exact needFields_header_append h (by simp [Work.vtUnused, State.vtLimits])

/-! ## Operations refused for their header -/

theorem performNop_badHeader (s : State) : performNop w s = s.complete w stBadDescriptor (resultOf o 0 0) := by
  unfold performNop
  rw [chk_bind_error (needFields_admFields h), settleChk_fail s w (by decide)]

theorem performSign_badHeader (s : State) : performSign w s = s.complete w stBadDescriptor (resultOf o 0 0) := by
  have hkey : s.pkKey w false true [uSign] = .error (fail stBadDescriptor o) :=
    chk_bind_error (needFields_pkChecks h)
  unfold performSign
  rw [chk_bind_error hkey, settleChk_fail s w (by decide)]

theorem performPasswordHash_badHeader (s : State) :
    performPasswordHash w s = s.complete w stBadDescriptor (resultOf o 0 0) := by
  have hkey : s.pwKey w = .error (fail stBadDescriptor o) := chk_bind_error (needFields_pwChecks h)
  unfold performPasswordHash
  rw [chk_bind_error hkey, settleChk_fail s w (by decide)]

/-- Below 0x0408 a table operation checks no privilege (R98 step 3). -/
theorem performCreate_badHeader (s : State) (hop : w.opcode < 0x0408) :
    performCreate w s = s.complete w stBadDescriptor (resultOf o 0 0) := by
  have hchk : s.vtChecks w = .error (fail stBadDescriptor o) := by
    unfold State.vtChecks
    rw [chk_bind (needFn_ok (by simp [hop])), chk_bind_error (needFields_vtFields h s)]
  unfold performCreate
  rw [chk_bind_error hchk, settleChk_fail s w (by decide)]

theorem performClose_badHeader (s : State) : performClose w s = s.complete w stBadDescriptor (resultOf o 0 0) := by
  have href : s.seRef w = .error (fail stBadDescriptor o) := chk_bind_error (needFields_seChecks h)
  unfold performClose
  rw [chk_bind_error href, settleChk_fail s w (by decide)]

theorem performUnload_badHeader (s : State) :
    performUnload w s = s.complete w stBadDescriptor (resultOf o 0 0) := by
  unfold performUnload
  rw [chk_bind_error (needFields_header_append h (by simp)), settleChk_fail s w (by decide)]

end

/-- A descriptor command that is dispatched at once, where the operation completes the descriptor with one record in
whatever state it is performed: that record, then what the block does by itself. -/
theorem next_submit_of_completes {s : State} {op sq st r : Nat} {d : Desc} {h : HostView}
    (hd : (s.withWork (workOf op sq d h)).Dispatches (workOf op sq d h))
    (hp : ∀ t : State, performByOpcode (workOf op sq d h) t = t.complete (workOf op sq d h) st r) :
    (.next (s.submit op sq d h .running false).settle : Host.Outcome State Fault Refusal)
      = .next ((s.withWork (workOf op sq d h)).complete (workOf op sq d h) st r).settle := by
  rw [submit_of_dispatches hd, hp]

/-- Settles O37: each operation's first check that can fail is that of its fields, and of those the header's come first. -/
theorem reservedFieldsRefused : Obligations.ReservedFieldsRefused := by
  intro s sq d h o
  refine ⟨fun op => header_workOf op 0 sq d h, fun hbad => ?_⟩
  have hdr : ∀ op, badOffset (workOf op sq d h).header = some o := fun _ => hbad
  exact ⟨badOffset_header_lt hbad,
    fun hd => next_submit_of_completes hd (performNop_badHeader (hdr 0x0F00)),
    fun hd => next_submit_of_completes hd (performSign_badHeader (hdr 0x0201)),
    fun hd => next_submit_of_completes hd (performPasswordHash_badHeader (hdr 0x0302)),
    fun hd => next_submit_of_completes hd fun t =>
      performCreate_badHeader (hdr 0x0401) t (show 0x0401 < 0x0408 by decide),
    fun hd => next_submit_of_completes hd (performClose_badHeader (hdr 0x0504)),
    fun hd => next_submit_of_completes hd (performUnload_badHeader (hdr 0x0603))⟩

end Sys2Proof.Machine
end

section
/-! PROOF. A step and the queue (R21, R22; logs 1 and 2): a step is the meaning of the front command, or one nanosecond. -/

namespace Sys2Proof.Machine

open Sys2Proof

theorem step_of_pending_cons {s : State} {c : Instr} {rest : List Instr} (h : s.pending = c :: rest) :
    step s = exec c { s with pending := rest } := by
  unfold step
  rw [h]

theorem step_of_pending_nil {s : State} (h : s.pending = []) : step s = .next { s with time := s.time + 1 } := by
  unfold step
  rw [h]

/-- Settles O1: the two cases of the queue. -/
theorem stepRunsFront : Obligations.StepRunsFront :=
  ⟨fun _ _ _ => step_of_pending_cons rfl, fun _ => step_of_pending_nil⟩

end Sys2Proof.Machine
end

section
/-! PROOF. Pipeline self-tests, drains and seam aborts (R17, R186-R188): each command in the states in which it acts, and in
those in which it changes nothing. -/

namespace Sys2Proof.Machine

open Sys2Proof

/-! ## A command is its action, settled -/

theorem exec_selftestInterval (s : State) : exec .selftestInterval s = settled (actSelftestInterval s) := rfl

theorem exec_selfTestEnd (p : Nat) (failed : Bool) (s : State) :
    exec (.selfTestEnd p failed) s = settled (actSelfTestEnd p failed s) := rfl

theorem exec_stitchQuadDrained (s : State) : exec .stitchQuadDrained s = settled (actStitchQuadDrained s) := rfl

theorem exec_seamAbort (a : AbortAt) (s : State) : exec (.seamAbort a) s = settled (actSeamAbort a s) := rfl

/-- An action that answers the state it found leaves a quiet block as it was. -/
theorem settled_next_of_quiet {s : State} (h : s.Quiet) : settled (.next s) = .next s := by
  rw [settled_next, settle_of_quiet h]

/-! ## Periodic self-tests (R187) -/

/-- The periodic tests' turn passed on to the next pipeline. -/
def State.turnPassed (s : State) : State := s.setSht { s.sht with testTurn := (s.sht.testTurn % 16 + 1) % 16 }

section

variable {s : State} (hon : s.rd .stcSelftest_intervalMs ≠ 0)
include hon

theorem actSelftestInterval_of_testable (ht : s.turnPassed.testable (s.sht.testTurn % 16) = true) :
    actSelftestInterval s = .next (s.turnPassed.startTest (s.sht.testTurn % 16) 0) :=
  (if_neg hon).trans (if_pos ht)

/-- A pipeline that may not be tested loses its turn. -/
theorem actSelftestInterval_of_untestable (ht : s.turnPassed.testable (s.sht.testTurn % 16) = false) :
    actSelftestInterval s = .next s.turnPassed :=
  (if_neg hon).trans (if_neg (Bool.eq_false_iff.1 ht))

end

theorem actSelfTestEnd_of_tested {s : State} {p : Nat} (failed : Bool) (hp : p < 16)
    (ht : s.flag .stcPipeState_selfTest p = true) : actSelfTestEnd p failed s = .next (s.testEnds p failed) := by
  simp [actSelfTestEnd, hp, ht]

/-! ## FRUGAL's quads (R188) -/

/-- Quads Q2 and Q3 are gated once none of their eight pipelines holds a job. -/
theorem actStitchQuadDrained_of_idle {s : State} (hd : s.sht.draining = true)
    (hidle : ∀ i < 8, (s.pipe (8 + i)).jobs = []) :
    actStitchQuadDrained s =
      .next (((s.gateQuad 2).gateQuad 3).setSht { ((s.gateQuad 2).gateQuad 3).sht with draining := false }) := by
  have hbusy : (List.range 8).any (fun i => !(s.pipe (8 + i)).jobs.isEmpty) = false := by
    rw [List.any_eq_false]
    intro i hi
    simp [hidle i (List.mem_range.1 hi)]
  simp [actStitchQuadDrained, hd, hbusy]

/-! ## Aborts at seams (R17, R186) -/

section

variable {s : State}

theorem actSeamAbort_quad_of_shut {q : Nat} (hq : q < 4) (h : s.seamShut (64 + q) = true) :
    actSeamAbort (.quad q) s = .next ((List.range 4).foldl (fun s i => s.unload (4 * q + i) false) s).shuttleRun := by
  simp [actSeamAbort, hq, h]

theorem actSeamAbort_ddrRead_of_shut {id : Nat} (h : s.ddrShut id false = true) :
    actSeamAbort (.ddrRead id) s = .next (s.endStrm id stDmaFault (resultOf 0xFF 1 0)).shuttleRun := by
  simp [actSeamAbort, h]

theorem actSeamAbort_ddrWrite_of_shut {id : Nat} (h : s.ddrShut id true = true) :
    actSeamAbort (.ddrWrite id) s = .next (s.endStrm id stDmaFault (resultOf 0xFF 2 0)).shuttleRun := by
  simp [actSeamAbort, h]

theorem actSeamAbort_quad_of_open {q : Nat} (h : s.seamShut (64 + q) = false) :
    actSeamAbort (.quad q) s = .next s := by
  simp [actSeamAbort, h]

theorem actSeamAbort_ddrRead_of_open {id : Nat} (h : s.ddrShut id false = false) :
    actSeamAbort (.ddrRead id) s = .next s := by
  simp [actSeamAbort, h]

theorem actSeamAbort_ddrWrite_of_open {id : Nat} (h : s.ddrShut id true = false) :
    actSeamAbort (.ddrWrite id) s = .next s := by
  simp [actSeamAbort, h]

end

/-- Settles O39: what each of the commands does in the states named, followed by what the block does by itself. -/
theorem pipelineTests : Obligations.PipelineTests := by
  refine ⟨fun s hon => ⟨fun htest => ?starts, fun htest => ?skips⟩, fun s p failed hp ht => ?ends,
    fun s hd hidle => ?drained, fun s q id m => ⟨fun hq h => ?quad, fun h => ?read, fun h => ?write, rfl,
      fun hs hquad hread hwrite => ⟨?quadOpen, ?readOpen, ?writeOpen⟩⟩⟩
  case starts =>
    exact (exec_selftestInterval s).trans (congrArg settled (actSelftestInterval_of_testable hon htest))
  case skips =>
    exact (exec_selftestInterval s).trans (congrArg settled (actSelftestInterval_of_untestable hon htest))
  case ends => rw [exec_selfTestEnd, actSelfTestEnd_of_tested failed hp ht, settled_next]
  case drained => rw [exec_stitchQuadDrained, actStitchQuadDrained_of_idle hd hidle, settled_next]
  case quad => rw [exec_seamAbort, actSeamAbort_quad_of_shut hq h, settled_next]
  case read => rw [exec_seamAbort, actSeamAbort_ddrRead_of_shut h, settled_next]
  case write => rw [exec_seamAbort, actSeamAbort_ddrWrite_of_shut h, settled_next]
  case quadOpen => rw [exec_seamAbort, actSeamAbort_quad_of_open hquad, settled_next_of_quiet hs]
  case readOpen => rw [exec_seamAbort, actSeamAbort_ddrRead_of_open hread, settled_next_of_quiet hs]
  case writeOpen => rw [exec_seamAbort, actSeamAbort_ddrWrite_of_open hwrite, settled_next_of_quiet hs]

end Sys2Proof.Machine
end

section
/-! PROOF. Every step answers (R36, R77, R98, R99; log 1): every branch of every command's meaning ends in a next state.
What a command that fails shows is a status, a record, a reset or a pin level, never a stop. -/

namespace Sys2Proof.Machine

open Sys2Proof

/-! ## Rules of composition -/

/-- The outcome is a next state. -/
def Answers (o : Host.Outcome State Fault Refusal) : Prop := ∃ t, o = .next t

theorem Answers.next (t : State) : Answers (.next t) := ⟨t, rfl⟩

theorem Answers.ite {c : Prop} {inst : Decidable c} {a b : Host.Outcome State Fault Refusal} (ha : Answers a)
    (hb : Answers b) : Answers (if c then a else b) := by
  split
  · exact ha
  · exact hb

theorem Answers.settled {o : Host.Outcome State Fault Refusal} (h : Answers o) : Answers (settled o) := by
  obtain ⟨t, rfl⟩ := h
  exact .next t.settle

/-! ## Register writes with what they ask of other chapters -/

theorem actSetupLockRequest_answers (s : State) : Answers (actSetupLockRequest s) :=
  .ite (.next _) (.ite (.next _) (.next _))

theorem actRingVfLockRequest_answers (fn : Nat) (s : State) : Answers (actRingVfLockRequest fn s) :=
  .ite (.next _) (.ite (.next _) (.next _))

theorem ask_answers (s : State) : ∀ r : RegAsk, Answers (s.ask r)
  | .lock => actSetupLockRequest_answers s
  | .vfLock fn => actRingVfLockRequest_answers fn s
  | .deploy => .next _

theorem doAsks_cons_of_next {s t : State} {r : RegAsk} {rs : List RegAsk} (h : s.ask r = .next t) :
    s.doAsks (r :: rs) = t.doAsks rs := by
  simp only [State.doAsks, h]

theorem doAsks_answers (rs : List RegAsk) : ∀ s : State, Answers (s.doAsks rs) := by
  induction rs with
  | nil => exact fun s => .next s
  | cons r rs ih =>
    intro s
    obtain ⟨t, ht⟩ := ask_answers s r
    rw [doAsks_cons_of_next ht]
    exact ih t

theorem access_answers (s : State) (a : RegAccess) : Answers (s.access a) := doAsks_answers _ _

/-! ## Commands that look something up first -/

section

variable (s : State)

theorem actSweepReturn_answers (words : List W64) : Answers (actSweepReturn words s) := by
  unfold actSweepReturn
  split <;> exact .next _

theorem actCasReturn_answers (word : Nat) (res : CasResult) : Answers (actCasReturn word res s) := by
  unfold actCasReturn
  split
  · exact .next _
  cases res with
  | unsupportedRequest => exact .next _
  | completerAbort => exact .next _
  | value w => exact .ite (.next _) (.ite (.next _) (.next _))

theorem actClearRereadReturn_answers (n : Nat) (word : W64) : Answers (actClearRereadReturn n word s) := by
  unfold actClearRereadReturn
  extract_lets
  split
  · exact .next _
  · exact .ite (.next _) (.next _)

theorem actSummaryReadFail_answers (addr : Nat) (why : ReadFail) : Answers (actSummaryReadFail addr why s) := by
  unfold actSummaryReadFail
  split
  · exact .next _
  · exact .ite (.next _) (.next _)

theorem actCqCoalTimer_answers (c : Nat) : Answers (actCqCoalTimer c s) := by
  unfold actCqCoalTimer
  refine .ite ?_ (.ite (.next _) (.next _))
  split
  · exact .ite (.next _) (.next _)
  · exact .next _

theorem actErrConsumerReadReturn_answers (count : W32) : Answers (actErrConsumerReadReturn count s) := by
  unfold actErrConsumerReadReturn
  split
  · exact .ite (.next _) (.next _)
  · exact .next _

theorem actBoltScrubRead_answers (ecc : EccEvent) (clientWrote : Bool) :
    Answers (actBoltScrubRead ecc clientWrote s) := by
  unfold actBoltScrubRead
  refine .ite (.next _) ?_
  split <;> exact .next _

theorem actDonorCopyDone_answers (b : Nat) : Answers (actDonorCopyDone b s) := by
  unfold actDonorCopyDone
  split <;> exact .next _

theorem actChunkSourceLand_answers (id : Nat) (data : Option (List Byte)) (ecc : EccEvent) :
    Answers (actChunkSourceLand id data ecc s) := by
  unfold actChunkSourceLand
  split
  · exact .next _
  split
  · exact .next _
  extract_lets
  split
  · exact .next _
  refine .ite (.next _) (.ite (.next _) (.ite (.next _) ?_))
  cases data with
  | none => exact .next _
  | some bs => exact .ite (.next _) (.ite (.next _) (.next _))

theorem actKeyScheduleBuilt_answers (p : Nat) : Answers (actKeyScheduleBuilt p s) := by
  unfold actKeyScheduleBuilt
  split
  · exact .next _
  · split <;> exact .next _

theorem actJobFinish_answers (p : Nat) (fault : Bool) : Answers (actJobFinish p fault s) := by
  unfold actJobFinish
  split
  · exact .next _
  · exact .ite (.next _) (.ite (.next _) (.ite (.next _) (.ite (.next _) (.ite (.next _) (.next _)))))

theorem actOutputDrainDone_answers (id : Nat) (bolt : MemAnswer) : Answers (actOutputDrainDone id bolt s) := by
  unfold actOutputDrainDone
  split
  · exact .next _
  split
  · exact .next _
  split
  · exact .next _
  · exact .ite (.next _) (.ite (.next _) (.ite (.next _) (.ite (.next _) (.ite (.next _) (.ite (.next _) (.next _))))))

theorem actDdrAccess_answers (r : DdrReq) : Answers (actDdrAccess r s) := by
  unfold actDdrAccess
  extract_lets
  refine .ite (.next _) (.ite ?refused ?served)
  case refused => split <;> exact .next _
  case served =>
    split
    · exact .ite (.next _) (.next _)
    · exact .ite (.next _) (.ite (.next _) (.next _))

theorem actDdrSpprDone_answers (c : Nat) (lost : List Nat) : Answers (actDdrSpprDone c lost s) := by
  unfold actDdrSpprDone
  split
  · exact .next _
  · exact .ite (.next _) (.next _)

theorem actCoalWindowClose_answers (origin cls : Nat) : Answers (actCoalWindowClose origin cls s) := by
  unfold actCoalWindowClose
  split <;> exact .next _

theorem actRetirementLogWrite_answers : Answers (actRetirementLogWrite s) := by
  unfold actRetirementLogWrite
  split <;> exact .next _

theorem actProfileSwitchDone_answers : Answers (actProfileSwitchDone s) := by
  unfold actProfileSwitchDone
  refine .ite (.next _) ?_
  extract_lets
  split <;> exact .next _

theorem actCheckpointMirrorDone_answers : Answers (actCheckpointMirrorDone s) := by
  unfold actCheckpointMirrorDone
  refine .ite (.next _) ?_
  extract_lets
  split <;> exact .next _

theorem actSpdmRequest_answers (r : SpdmReq) : Answers (actSpdmRequest r s) := by
  unfold actSpdmRequest
  refine .ite (.next _) ?_
  cases r with
  | getMeasurement i => exact .ite (.next _) (.next _)
  | getCertificate k => exact .ite (.next _) (.next _)
  | setCertificate k chain v => exact .ite (.next _) (.ite (.next _) (.next _))
  | challenge => exact .next _
  | getCsr => exact .next _
  | keyExchange t =>
    dsimp only
    split <;> exact .next _
  | endSession t =>
    dsimp only
    split <;> exact .next _
  | ideKey k key v => exact .ite (.next _) (.next _)
  | other => exact .next _

theorem actHubResponse_answers (m id : Nat) : Answers (actHubResponse m id s) := by
  unfold actHubResponse
  split <;> exact .next _

theorem actLoadReturn_answers (n : Nat) (ans : MemAnswer) : Answers (actLoadReturn n ans s) := by
  unfold actLoadReturn
  extract_lets
  split
  · exact .next _
  · split <;> exact .next _

theorem actDirectLoadWrite_answers (n : Nat) (ans : MemAnswer) : Answers (actDirectLoadWrite n ans s) := by
  unfold actDirectLoadWrite
  extract_lets
  split <;> exact .next _

theorem actGatherElementFault_answers (n i : Nat) (ecc : Bool) : Answers (actGatherElementFault n i ecc s) := by
  unfold actGatherElementFault
  split
  · exact .next _
  · exact .ite (.next _) (.next _)

theorem actVgatherFfCount_answers (n : Nat) : Answers (actVgatherFfCount n s) := by
  unfold actVgatherFfCount
  extract_lets
  split <;> exact .next _

theorem actStoreFaultReport_answers (n : Nat) (ecc : Bool) : Answers (actStoreFaultReport n ecc s) := by
  unfold actStoreFaultReport
  split <;> exact .next _

theorem actBundleIssue_answers (n : Nat) (ecc : Bool) : Answers (actBundleIssue n ecc s) := by
  unfold actBundleIssue
  refine .ite (.next _) (.ite (.next _) (.ite (.next _) ?_))
  extract_lets
  split
  · exact .next _
  split
  · exact .next _
  split
  · exact .next _
  · exact .ite (.next _) (.ite (.next _) (.next _))

theorem actUnitResultPush_answers (n unit : Nat) : Answers (actUnitResultPush n unit s) := by
  unfold actUnitResultPush
  extract_lets
  split
  · exact .next _
  refine .ite (.next _) (.ite ?bigm ?other)
  case bigm =>
    split
    · exact .next _
    · exact .ite (.next _) (.next _)
  case other =>
    extract_lets
    split <;> exact .next _

theorem actLongOpComplete_answers (n : Nat) : Answers (actLongOpComplete n s) := by
  unfold actLongOpComplete
  extract_lets
  split
  · exact .next _
  · exact .next _
  · exact .next _
  · exact .ite (.ite (.next _) (.next _)) (.ite (.next _) (.next _))

theorem actCritWindowExpiry_answers (n : Nat) : Answers (actCritWindowExpiry n s) := by
  unfold actCritWindowExpiry
  extract_lets
  split
  · exact .next _
  · exact .ite (.next _) (.next _)

theorem actStreamAdmit_answers (src : AdmitFrom) : Answers (actStreamAdmit src s) := by
  cases src <;> exact .next _

theorem actStreamRetire_answers (r : Nat) : Answers (actStreamRetire r s) := by
  unfold actStreamRetire
  split
  · exact .next _
  · split <;> exact .next _

theorem actSeamAbort_answers (a : AbortAt) : Answers (actSeamAbort a s) := by
  cases a with
  | quad q => exact .ite (.next _) (.next _)
  | ddrRead id => exact .next _
  | ddrWrite id => exact .next _
  | hub m id => exact .next _

theorem actHoldLimitExpiry_answers (sq : Nat) (cid : W16) : Answers (actHoldLimitExpiry sq cid s) := by
  unfold actHoldLimitExpiry
  split <;> exact .next _

theorem actCompletionTimeout_answers (sq : Nat) (cid : W16) : Answers (actCompletionTimeout sq cid s) := by
  unfold actCompletionTimeout
  refine .ite (.next _) ?_
  split
  · exact .next _
  refine .ite (.next _) ?_
  split
  · exact .next _
  · split <;> exact .next _

end

/-! ## Commands that only test conditions -/

theorem actIslandReset_answers (i : Nat) (s : State) : Answers (actIslandReset i s) :=
  .ite (.next _) <| .ite (.next _) <| .ite (.next _) <| .ite (.next _) <| .ite (.next _) <| .ite (.next _) <|
    .ite (.next _) <| .ite (.next _) <| .ite (.next _) (.next _)

theorem actThermalSample_answers (celsius : Nat) (s : State) : Answers (actThermalSample celsius s) :=
  .ite (.next _) (.ite (.ite (.next _) (.ite (.next _) (.next _)))
    (.ite (.ite (.next _) (.ite (.next _) (.next _))) (.next _)))

/-- Every command completes. The cases stand by the shape of the command's meaning: a state at once, one test to four,
or, for the rest, a lemma above. -/
theorem exec_answers (c : Instr) (s : State) : Answers (exec c s) := by
  cases c
  case stream | streamCmd | sign | verify | ecdh | rsaEncrypt | rsaDecrypt | kemEncaps | kemDecaps | pubkeyExport |
      mac | macVerify | passwordVerify | passwordHash | passwordDerive | create | importKey | exportWrapped | derive |
      rotate | destroy | query | rewrapStart | rewrapStatus | backupSeal | backupRestore | openSession | update |
      final | close | migrate | load | invoke | unload | join | leave | shardConfig | memberQuery | takeover | nop |
      errorRingSetup | profileChange | retire | restore | selfTest | ringRestart | ringClass | vectorRetarget |
      tenantLimits | keepalive | membership | shardWrite | shardReply | forward | claim | claimReply | reload |
      handoff | handoffReply | ack | keepaliveTimer | peerLostTimeout | retransmitTimer | ackTimer | joinTimeout |
      claimRetryTimer =>
    exact .next _
  case powerOnReset | sysRstNAssert | hotReset | msixUnmask | migrateTimeout | storePerform | boltCycle | fwWrite |
      fwActivate | fwCommit | fwRevert | meshKeyInstall | lcRetire | aerError =>
    exact .settled (.next _)
  case powerOnResetRelease | perstNRelease | dlDown | linkTrained | flrPf0 | flrVf | busMasterEnableSet |
      bar0BadAccess | gatedBlockAccess | sweepIssue | descriptorLand | fetchFail | readyBitSet | statusPageWrite |
      selfTestEnd | stitchQuadDrained | freeListRebuildDone | lockupClearDone | budgetExpiry | fitterInterrupt |
      debugHalt | watchdogExpiry | bankWakeDone | vaultReadbackDone | cacheWritebackDone | hubRequest | tackCycle |
      tackDelivery | xtalJudgedStable | rootPllLock | divisorSwitch | droopStretch | ddrRestoreDone | dqsOscInterval |
      zqCalInterval | ddrRefresh | rankSweepBurst | rankSweepEnd | berWindowEnd | svLinkUp | tapeSample |
      hbOutToggle | livenessDeadlineMiss | fitterAlive | bucketSliceAdvance | policyInterval | trngStartupDone |
      trngHealthFail | drbgReseed | tamperTrip | thimbleWatchdogExpiry | thermalTrip | debugUnlock | sysRstNRelease |
      svLinkDown | jtagProvisionRequest | d3hotToD0 =>
    exact .settled (.ite (.next _) (.next _))
  case setupLockRequest | lockCheckDone | ringVfLockRequest | ndlEngineReset | selftestInterval | bankIdleTimeout |
      gpioEdge | periTimerExpiry | missingEdge | patrolScrubStep | migrationGranuleCopy | fitterRestart =>
    exact .settled (.ite (.next _) (.ite (.next _) (.next _)))
  case perstNAssert | vfLockCheckDone | ndlModeWrite | doorbellReadReturn | rewrapSweepStep | renegotiationDone |
      adaptPeriod | powerWindow | stage1Verified | imageVerified =>
    exact .settled (.ite (.next _) (.ite (.next _) (.ite (.next _) (.next _))))
  case ddrTrainingDone =>
    exact .settled (.ite (.next _) (.ite (.next _) (.ite (.next _) (.ite (.next _) (.next _)))))
  case registerWrite a => exact .settled (.ite (access_answers s a) (.next _))
  case lcReqDeploy v => exact .settled (access_answers s _)
  case islandReset i => exact .settled (actIslandReset_answers i s)
  case thermalSample c => exact .settled (actThermalSample_answers c s)
  case sweepReturn => exact .settled (actSweepReturn_answers s ..)
  case holdLimitExpiry => exact .settled (actHoldLimitExpiry_answers s ..)
  case streamAdmit => exact .settled (actStreamAdmit_answers s ..)
  case directLoadWrite => exact .settled (actDirectLoadWrite_answers s ..)
  case storeFaultReport => exact .settled (actStoreFaultReport_answers s ..)
  case vgatherFfCount => exact .settled (actVgatherFfCount_answers s ..)
  case donorCopyDone => exact .settled (actDonorCopyDone_answers s ..)
  case hubResponse => exact .settled (actHubResponse_answers s ..)
  case retirementLogWrite => exact .settled (actRetirementLogWrite_answers s ..)
  case coalWindowClose => exact .settled (actCoalWindowClose_answers s ..)
  case casReturn => exact .settled (actCasReturn_answers s ..)
  case clearRereadReturn => exact .settled (actClearRereadReturn_answers s ..)
  case summaryReadFail => exact .settled (actSummaryReadFail_answers s ..)
  case gatherElementFault => exact .settled (actGatherElementFault_answers s ..)
  case critWindowExpiry => exact .settled (actCritWindowExpiry_answers s ..)
  case ddrSpprDone => exact .settled (actDdrSpprDone_answers s ..)
  case cqCoalTimer => exact .settled (actCqCoalTimer_answers s ..)
  case errConsumerReadReturn => exact .settled (actErrConsumerReadReturn_answers s ..)
  case chunkSourceLand => exact .settled (actChunkSourceLand_answers s ..)
  case keyScheduleBuilt => exact .settled (actKeyScheduleBuilt_answers s ..)
  case streamRetire => exact .settled (actStreamRetire_answers s ..)
  case loadReturn => exact .settled (actLoadReturn_answers s ..)
  case jobFinish => exact .settled (actJobFinish_answers s ..)
  case outputDrainDone => exact .settled (actOutputDrainDone_answers s ..)
  case seamAbort => exact .settled (actSeamAbort_answers s ..)
  case bundleIssue => exact .settled (actBundleIssue_answers s ..)
  case unitResultPush => exact .settled (actUnitResultPush_answers s ..)
  case longOpComplete => exact .settled (actLongOpComplete_answers s ..)
  case boltScrubRead => exact .settled (actBoltScrubRead_answers s ..)
  case checkpointMirrorDone => exact .settled (actCheckpointMirrorDone_answers s ..)
  case profileSwitchDone => exact .settled (actProfileSwitchDone_answers s ..)
  case ddrAccess => exact .settled (actDdrAccess_answers s ..)
  case spdmRequest => exact .settled (actSpdmRequest_answers s ..)
  case completionTimeout => exact .settled (actCompletionTimeout_answers s ..)

/-- Settles O5: with a command waiting a step is that command, and with none a nanosecond passes. -/
theorem everyStepAnswers : Obligations.EveryStepAnswers := by
  refine ⟨exec_answers, fun s => ?_⟩
  cases hq : s.pending with
  | nil => exact ⟨_, step_of_pending_nil hq⟩
  | cons c rest =>
    rw [step_of_pending_cons hq]
    exact exec_answers c _

end Sys2Proof.Machine
end

section
/-! PROOF. The host link (R28, R30, R47, R48, R377, R379, R383): resets, training and Bus Master Enable. -/

namespace Sys2Proof.Machine

open Sys2Proof

/-- A command whose action leaves a quiet state is that action. -/
theorem settled_of_quiet {o : Host.Outcome State Fault Refusal} {t : State} (h : o = .next t) (ht : t.Quiet) :
    settled o = .next t := by
  rw [h, settled_next_of_quiet ht]

/-! ## Function controls -/

@[simp] theorem fnCfg_setFnCfg_same (s : State) (fn : Nat) (c : FnCfg) : (s.setFnCfg fn c).fnCfg fn = c :=
  Store.get_put_self _

@[simp] theorem setFnCfg_isReady (s : State) (fn : Nat) (c : FnCfg) (b : Nat) :
    (s.setFnCfg fn c).isReady b = s.isReady b := rfl

theorem quiet_setFnCfg {s : State} (h : s.Quiet) (fn : Nat) (c : FnCfg) : (s.setFnCfg fn c).Quiet :=
  quiet_of_agree h rfl rfl rfl rfl rfl rfl (fun _ _ _ => rfl)

/-! ## Hot reset (R48, R377) -/

section

variable {s : State} (hheld : s.heldInReset = false) (hhold : s.power.hold = false) (htrip : s.power.trip = false)
  (hdue : s.power.hotDue = false)
include hheld hhold htrip hdue

/-- What absorbs a hot reset: a wider reset, CLOCK_HOLD, a trip, a hot reset that waits. -/
theorem hotReset_of_free : s.hotReset = if s.insideWork then s.hotWait else s.hotResetNow := by
  simp only [State.hotReset, State.clocked, hheld, hhold, htrip, hdue, Bool.not_false, Bool.not_true, Bool.and_self,
    Bool.or_self, Bool.false_eq_true, if_false]

theorem hotReset_of_idle (hin : s.insideWork = false) : s.hotReset = s.hotResetNow :=
  (hotReset_of_free hheld hhold htrip hdue).trans (if_neg (Bool.eq_false_iff.1 hin))

theorem hotReset_of_insideWork (hin : s.insideWork = true) : s.hotReset = s.hotWait :=
  (hotReset_of_free hheld hhold htrip hdue).trans (if_pos hin)

end

theorem exec_hotReset (s : State) : exec .hotReset s = .next s.hotReset.settle := rfl

theorem actDlDown_of_up {s : State} (h : s.pcie.linkUp = true) : actDlDown s = .next s.hotReset := if_pos h

theorem actDlDown_of_down {s : State} (h : s.pcie.linkUp = false) : actDlDown s = .next s :=
  if_neg (Bool.eq_false_iff.1 h)

theorem exec_dlDown_of_up {s : State} (h : s.pcie.linkUp = true) : exec .dlDown s = .next s.hotReset.settle :=
  congrArg settled (actDlDown_of_up h)

/-! ## Function-level resets (R47) -/

theorem actFlrPf0_of_up {s : State} (h : s.pcie.linkUp = true) : actFlrPf0 s = .next s.flrOfPf0 := if_pos h

theorem actFlrVf_of_exists {s : State} {n : Nat} (h : s.pcie.linkUp = true) (h1 : 1 ≤ n) (hn : n ≤ s.numVfs) :
    actFlrVf n s = .next (s.flrOfVf n).shuttleRun := by
  refine if_neg ?_
  rw [h]
  simp only [Bool.not_true, Bool.false_eq_true, or_false]
  omega

/-! ## Link training (R28, R383) -/

theorem actLinkTrained_of_down {s : State} (hl : s.pcie.linkUp = false) (hp : s.power.perst = false)
    (hd : s.power.hotDue = false) (hr : s.flag .clkIsland_running 77 = true)
    (hi : s.flag .clkIsland_inReset 77 = false) :
    actLinkTrained s = .next (({ s.negotiate with
      pins := { s.negotiate.pins with held := none }
      power := { s.negotiate.power with inReset := none } } : State).setReady readyCfg true) := by
  unfold actLinkTrained
  rw [hl, hp, hd, hr, hi]
  rfl

theorem negotiate_linkUp (s : State) : s.negotiate.pcie.linkUp = true := rfl

theorem getD_mem_of_lt {l : List Nat} {i : Nat} (d : Nat) (h : i < l.length) : l.getD i d ∈ l := by
  rw [List.getD_eq_getElem l d h]
  exact List.getElem_mem h

theorem negotiate_speed_mem (s : State) : s.negotiate.pcie.speed ∈ linkSpeeds :=
  getD_mem_of_lt 25 (Nat.mod_lt _ (by decide))

theorem negotiate_width_mem (s : State) : s.negotiate.pcie.width ∈ linkWidths :=
  getD_mem_of_lt 1 (Nat.mod_lt _ (by decide))

theorem negotiate_flit_of_speed (s : State) (h : s.negotiate.pcie.speed = 640) : s.negotiate.pcie.flit = true := by
  have hflit : s.negotiate.pcie.flit = (s.negotiate.pcie.speed == 640 || bitOf (s.fresh 16).1 6) := rfl
  rw [hflit, h]
  rfl

/-! ## Bus Master Enable (R379) -/

theorem waitingVectors_pf0_of_nil {s : State} (h : s.listed .pba_word = []) : s.waitingVectors 0 = [] := by
  simp [State.waitingVectors, h]

theorem waitingVectors_vf_of_zero {s : State} {fn : Nat} (hfn : 1 ≤ fn) (h : s.rd .vfPba_word fn = 0) :
    s.waitingVectors fn = [] := by
  have hne : fn ≠ 0 := by omega
  simp [State.waitingVectors, hne, h]

/-- The controls written, where no vector and no record waits. -/
theorem actBusMasterEnableSet_of_nothing {s : State} {fn : Nat} {cfg : CfgControls} (hr : s.isReady readyCfg = true)
    (hn : fn ≤ s.numVfs) (hv : s.waitingVectors fn = []) (hh : s.pcie.heldRecs = []) {t : State}
    (ht : t = s.setFnCfg fn { bme := true, ctl := cfg }) :
    actBusMasterEnableSet fn cfg s =
      .next (if fn = 0 then (State.errDrain 66 t).errPoll.owedReads.noteAtomic else t) := by
  subst ht
  have hgo : ¬((!s.isReady readyCfg || decide (fn > s.numVfs)) = true) := by simp [hr, hn]
  generalize ht : s.setFnCfg fn { bme := true, ctl := cfg } = t
  have hvt : t.waitingVectors fn = [] := ht ▸ hv
  have hht : t.pcie.heldRecs = [] := ht ▸ hh
  have hsame : ({ t with pcie := { t.pcie with heldRecs := [] } } : State) = t := by rw [← hht]
  unfold actBusMasterEnableSet
  rw [if_neg hgo]
  simp only [ht, hvt, hht, List.foldl_nil, List.filter_nil, ite_self, hsame]

theorem errDrain_of_noRing {s : State} (h : s.err.ring = none) (n : Nat) : State.errDrain n s = s := by
  cases n with
  | zero => rfl
  | succ n => simp only [State.errDrain, h]

theorem errPoll_of_noRing {s : State} (h : s.err.ring = none) : s.errPoll = s := by
  simp only [State.errPoll, h]

/-! What issuing the doorbell reads that are owed leaves as it is. -/

theorem reread_running (s : State) (e : Nat × Nat) : (s.reread e).rings.running = s.rings.running := by
  unfold State.reread State.readDoorbell State.hostRead
  split
  · dsimp only
    split <;> rfl
  · rfl

theorem reread_fns (s : State) (e : Nat × Nat) : (s.reread e).pcie.fns = s.pcie.fns := by
  unfold State.reread State.readDoorbell State.hostRead
  split
  · dsimp only
    split <;> rfl
  · rfl

theorem foldl_reread_running (l : List (Nat × Nat)) (s : State) :
    (l.foldl State.reread s).rings.running = s.rings.running := by
  induction l generalizing s with
  | nil => rfl
  | cons e l ih => rw [List.foldl_cons, ih, reread_running]

theorem foldl_reread_fns (l : List (Nat × Nat)) (s : State) : (l.foldl State.reread s).pcie.fns = s.pcie.fns := by
  induction l generalizing s with
  | nil => rfl
  | cons e l ih => rw [List.foldl_cons, ih, reread_fns]

@[simp] theorem owedReads_running (s : State) : s.owedReads.rings.running = s.rings.running :=
  foldl_reread_running _ _

@[simp] theorem owedReads_fnCfg (s : State) (fn : Nat) : s.owedReads.fnCfg fn = s.fnCfg fn :=
  congrArg (fun l => Store.get fnCfgDefault l fn) (foldl_reread_fns _ _)

theorem owedReads_of_nil {s : State} (h : s.rings.owed = []) : s.owedReads = s := by
  have hsame : ({ s with rings := { s.rings with owed := [] } } : State) = s := by rw [← h]
  simp only [State.owedReads, h, hsame, List.filter_nil, List.foldl_nil]

/-- Sequence mode begins exactly where the ring engine runs without AtomicOps (R30). -/
theorem noteAtomic_of_atomic {s : State} (h : s.rings.running = false ∨ (s.fnCfg 0).ctl.atomicOp = true) :
    s.noteAtomic = s := by
  unfold State.noteAtomic
  rcases h with h | h <;> simp [h]

theorem noteAtomic_of_noAtomic {s : State} (hr : s.rings.running = true) (ha : (s.fnCfg 0).ctl.atomicOp = false) :
    s.noteAtomic = s.wr .ringCtrl_sequence 0 1 := by
  simp [State.noteAtomic, hr, ha]

theorem actBusMasterEnableSet_pf0 {s : State} {cfg : CfgControls} (hr : s.isReady readyCfg = true)
    (hh : s.pcie.heldRecs = []) (he : s.err.ring = none) (hp : s.listed .pba_word = []) :
    actBusMasterEnableSet 0 cfg s = .next (s.setFnCfg 0 { bme := true, ctl := cfg }).owedReads.noteAtomic := by
  have het : (s.setFnCfg 0 { bme := true, ctl := cfg }).err.ring = none := he
  rw [actBusMasterEnableSet_of_nothing hr (Nat.zero_le _) (waitingVectors_pf0_of_nil hp) hh rfl, if_pos rfl,
    errDrain_of_noRing het, errPoll_of_noRing het]

/-- Settles O8: each command in the states in which it acts, and in those in which it finds nothing to do. -/
theorem hostLink : Obligations.HostLink := by
  refine ⟨fun s hheld hhold htrip hdue => ⟨fun hin => ?begins, fun hin => ?waits⟩, fun s hl => ?down,
    fun s hl => ⟨?flr, ?d3⟩, fun s n hl h1 hn => ?flrVf, fun s hl hp hd hr hi => ?trained,
    fun s fn cfg hq hr h1 hn hh hv => ?vfMaster, fun s cfg hr hh he hp => ⟨?pf0Master, ?owed, ?atomic, ?noAtomic⟩⟩
  case begins =>
    have hnow := congrArg (fun t => (.next t.settle : Host.Outcome State Fault Refusal))
      (hotReset_of_idle hheld hhold htrip hdue hin)
    exact ⟨(exec_hotReset s).trans hnow, fun hl => (exec_dlDown_of_up hl).trans hnow⟩
  case waits =>
    have hwait := congrArg (fun t => (.next t.settle : Host.Outcome State Fault Refusal))
      (hotReset_of_insideWork hheld hhold htrip hdue hin)
    exact ⟨(exec_hotReset s).trans hwait, fun hl => (exec_dlDown_of_up hl).trans hwait⟩
  case down => exact congrArg settled (actDlDown_of_down hl)
  case flr => exact congrArg settled (actFlrPf0_of_up hl)
  case d3 => exact congrArg settled (actFlrPf0_of_up hl)
  case flrVf => exact congrArg settled (actFlrVf_of_exists hl h1 hn)
  case trained =>
    exact ⟨congrArg settled (actLinkTrained_of_down hl hp hd hr hi), negotiate_linkUp s, negotiate_speed_mem s,
      negotiate_width_mem s, negotiate_flit_of_speed s⟩
  case vfMaster =>
    have hne : fn ≠ 0 := by omega
    have hact := actBusMasterEnableSet_of_nothing (cfg := cfg) hr hn (waitingVectors_vf_of_zero h1 hv) hh rfl
    rw [if_neg hne] at hact
    exact settled_of_quiet hact (quiet_setFnCfg hq fn _)
  case pf0Master => exact congrArg settled (actBusMasterEnableSet_pf0 hr hh he hp)
  case owed => exact fun ho => owedReads_of_nil ho
  case atomic =>
    intro h
    exact noteAtomic_of_atomic (by simpa using h)
  case noAtomic =>
    intro hrun ha
    exact noteAtomic_of_noAtomic (by simpa using hrun) (by simpa using ha)

end Sys2Proof.Machine
end

section
/-! PROOF. Register accesses (R10, R35, R36, R357, R456): the ones refused, the ones to gated blocks, reads, writes. -/

namespace Sys2Proof.Machine

open Sys2Proof

/-! ## What an access command does -/

theorem badAccess_write (s : State) : s.badAccess true = s.emit .aerCompleterAbort := rfl

theorem badAccess_read (s : State) : s.badAccess false = (s.emit .aerCompleterAbort).emit .completerAbort := rfl

theorem touchGated_eq (s : State) : s.touchGated = s.count .clkGatedTouch_count := rfl

section

variable {s : State} {a : RegAccess} (hreach : s.reaches a = true)
include hreach

theorem actBar0BadAccess_of_bad (write : Bool) (hbad : accessOk a.offset a.size = false) :
    actBar0BadAccess a write s = .next (s.badAccess write) := by
  unfold actBar0BadAccess
  rw [hbad, hreach]
  rfl

theorem actGatedBlockAccess_of_gated (write : Bool) (hok : accessOk a.offset a.size = true) (hfn : a.fn = 0)
    (hgate : s.gatedAt a.offset = true) :
    actGatedBlockAccess a write s =
      .next (if !write && a.writer == .bar0 then s.touchGated.emit (.regData 0) else s.touchGated) := by
  unfold actGatedBlockAccess
  rw [hok, hreach, hfn, hgate]
  rfl

theorem actRegisterWrite_of_reaches : actRegisterWrite a s = s.access a := if_pos hreach

end

theorem access_eq (s : State) (a : RegAccess) : s.access a = (s.regWrite a).1.doAsks (s.regWrite a).2 := rfl

theorem access_of_asks_nil {s : State} {a : RegAccess} (h : (s.regWrite a).2 = []) :
    s.access a = .next (s.regWrite a).1 := by
  rw [access_eq, h]
  rfl

theorem access_of_asks_deploy {s : State} {a : RegAccess} (h : (s.regWrite a).2 = [.deploy]) :
    s.access a = .next (s.regWrite a).1.deploy := by
  rw [access_eq, h]
  rfl

/-- Settles O9: the commands of R35 and R357 are the access refused or counted, and a write that asks for
nothing, or for the deployment alone, is that write. -/
theorem registerAccesses : Obligations.RegisterAccesses := by
  refine ⟨fun s a hbad hreach => ⟨?badWrite, ?badRead⟩, fun s a hok hreach hfn hgate =>
    ⟨?gatedWrite, fun hw => ?gatedRead⟩, fun s a hreach hasks => ?write, fun s v _ hasks => ?deploy⟩
  case badWrite =>
    rw [← badAccess_write]
    exact congrArg settled (actBar0BadAccess_of_bad hreach true hbad)
  case badRead =>
    rw [← badAccess_read]
    exact congrArg settled (actBar0BadAccess_of_bad hreach false hbad)
  case gatedWrite => exact congrArg settled (actGatedBlockAccess_of_gated hreach true hok hfn hgate)
  case gatedRead =>
    have hact := actGatedBlockAccess_of_gated hreach false hok hfn hgate
    rw [hw] at hact
    exact congrArg settled hact
  case write => exact congrArg settled ((actRegisterWrite_of_reaches hreach).trans (access_of_asks_nil hasks))
  case deploy => exact congrArg settled (access_of_asks_deploy hasks)

/-! ## Reads, and offsets that no register occupies (R36) -/

theorem regRead_of_open {s : State} {fn off : Nat} (size : Nat) (h : ¬(fn = 0 ∧ s.gatedAt off = true)) :
    s.regRead fn off size =
      (s.regRead32 fn off + (if size = 8 then s.regRead32 fn (off + 4) * 2 ^ 32 else 0), s) := if_neg h

theorem regRead_of_gated {s : State} {off : Nat} (size : Nat) (h : s.gatedAt off = true) :
    s.regRead 0 off size = (0, s.touchGated) := if_pos ⟨rfl, h⟩

section

variable {s : State} {fn off : Nat} (h : accessHits (s.landing fn off).1 fn (s.landing fn off).2 = [])
include h

theorem regRead32_of_unoccupied : s.regRead32 fn off = 0 := by
  simp only [State.regRead32, h, List.foldl_nil]

/-- With no field to cover, a write changes none and asks for nothing. -/
theorem regWrite32_of_unoccupied {a : RegAccess} (ha : a.fn = fn) (v : Nat) : s.regWrite32 a off v = (s, []) := by
  subst ha
  simp [State.regWrite32, h]

end

/-- Settles O11: a read's state is the one it found but for the count of a gated block. -/
theorem readsChangeNothing : Obligations.ReadsChangeNothing := by
  refine ⟨fun s fn off size h => ?open_, fun s off size h => ?gated, fun s fn off h => ?unoccupied⟩
  case open_ => rw [regRead_of_open size h]
  case gated =>
    rw [regRead_of_gated size h]
    exact ⟨rfl, touchGated_eq s⟩
  case unoccupied => exact ⟨regRead32_of_unoccupied h, fun a v ha => regWrite32_of_unoccupied h ha v⟩

end Sys2Proof.Machine
end

section
/-! PROOF. The set-up lock and the VF ring set-up lock (R43-R45, R55). -/

namespace Sys2Proof.Machine

open Sys2Proof

/-! ## Requests -/

section

variable {s : State}

theorem actSetupLockRequest_of_checking (hc : s.checking = true) : actSetupLockRequest s = .next s.duringCheck :=
  if_pos hc

theorem actSetupLockRequest_of_idle (hc : s.checking = false) :
    actSetupLockRequest s =
      if s.isReady readyCfg && !s.locked then .next (s.wr .globalSetupLock_checkBusy 0 1) else .next s :=
  if_neg (Bool.eq_false_iff.1 hc)

theorem actSetupLockRequest_of_open (hc : s.checking = false) (hr : s.isReady readyCfg = true)
    (hl : s.locked = false) : actSetupLockRequest s = .next (s.wr .globalSetupLock_checkBusy 0 1) := by
  rw [actSetupLockRequest_of_idle hc, hr, hl]
  rfl

/-- Without the configuration access, or behind the lock, the request is ignored. -/
theorem actSetupLockRequest_of_shut (hc : s.checking = false) (h : s.isReady readyCfg = false ∨ s.locked = true) :
    actSetupLockRequest s = .next s := by
  rw [actSetupLockRequest_of_idle hc]
  refine if_neg ?_
  rcases h with h | h <;> simp [h]

theorem actRingVfLockRequest_of_checking {fn : Nat} (h1 : 1 ≤ fn) (h2 : fn < 256) (hc : s.checking = true) :
    actRingVfLockRequest fn s = .next s.duringCheck := by
  refine if_pos ?_
  have hfn : 0 < fn ∧ fn < 256 := ⟨h1, h2⟩
  simp [hc, hfn]

theorem actRingVfLockRequest_of_open {fn : Nat} (h1 : 1 ≤ fn) (h2 : fn < 256) (hc : s.checking = false)
    (hl : s.flag .ringVfLock_lock fn = false) (hb : s.flag .ringVfLock_checkBusy fn = false) :
    actRingVfLockRequest fn s = .next (s.wr .ringVfLock_checkBusy fn 1) := by
  have hnot : ¬(fn = 0 ∨ fn ≥ 256) := by omega
  simp [actRingVfLockRequest, hc, hl, hb, not_or.1 hnot]

end

/-! ## The check of the set-up ends (R43, step 13) -/

section

variable {s u : State} (hc : s.checking = true) (hu : u = s.wr .globalSetupLock_checkBusy 0 0)
  (hring : u.errRing = false) (hbolt : u.boltSetupOk = true) (hspare : u.errSpare = false)
  (hregions : u.errRegions = false)
include hc hu hring hbolt hspare hregions

theorem actLockCheckDone_of_consistent (hhost : u.errHost = false) :
    actLockCheckDone s = .next (u.wr .globalSetupLock_lock 0 1).lockStarts := by
  simp [actLockCheckDone, ← hu, hc, hring, hhost, hbolt, hspare, hregions]

theorem actLockCheckDone_of_hostArea (hhost : u.errHost = true) :
    actLockCheckDone s = .next ((u.wr .globalSetupErr_hostArea 0 1).wr .globalSetupErr_lockRefused 0 1) := by
  simp [actLockCheckDone, ← hu, hc, hring, hhost, hbolt, hspare, hregions]

end

/-! ## The check of a VF's rings ends (R55) -/

theorem actVfLockCheckDone_of_busy {s u : State} {fn : Nat} (hb : s.flag .ringVfLock_checkBusy fn = true)
    (hu : u = s.wr .ringVfLock_checkBusy fn 0) :
    actVfLockCheckDone fn s =
      if (u.vfSqs fn).any u.foreignCq then .next (u.wr .ringVfLock_refused fn 1)
      else if u.rings.running then .next ((u.wr .ringVfLock_lock fn 1).startRings fn)
      else .next (u.wr .ringVfLock_lock fn 1) := by
  subst hu
  refine if_neg ?_
  simp [hb]

theorem quiet_foldl {α : Type} {f : State → α → State} (hf : ∀ t x, t.Quiet → (f t x).Quiet) (l : List α)
    {s : State} (h : s.Quiet) : (l.foldl f s).Quiet := by
  induction l generalizing s with
  | nil => exact h
  | cons x l ih => exact ih (hf s x h)

/-- Starting rings touches their states and registers alone. -/
theorem quiet_startRings {s : State} (h : s.Quiet) (fn : Nat) : (s.startRings fn).Quiet := by
  refine quiet_foldl (fun t n ht => ?sq) _ (quiet_foldl (fun t n ht => ?cq) _ h)
  case cq =>
    split
    · exact quiet_wr (quiet_wr (quiet_setCq ht _ _) _ _ _ rfl) _ _ _ rfl
    · exact quiet_wr ht _ _ _ rfl
  case sq =>
    dsimp only
    split
    · exact quiet_wr (quiet_wr (quiet_wr (quiet_setSq ht _ _) _ _ _ rfl) _ _ _ rfl) _ _ _ rfl
    · exact quiet_wr ht _ _ _ rfl

/-- Settles O12: each request and each end of a check is its action; what follows from a quiet state is nothing more. -/
theorem setupLocks : Obligations.SetupLocks := by
  refine ⟨fun s hq hr hc hl => ?request, fun s hq hc h => ?ignored, fun s hc => ?dropped,
    fun s hc hring hhost hbolt hspare hregions => ?locks, fun s hq hc hring hhost hbolt hspare hregions => ?refuses,
    fun s fn h1 h2 hc hl hb => ?vfRequest, fun s fn h1 h2 hc => ?vfDropped,
    fun s fn hq hb => ⟨fun hforeign => ?vfRefuses, fun hown hidle => ?vfLocks, fun hown hrun => ?vfStarts⟩⟩
  case request => exact settled_of_quiet (actSetupLockRequest_of_open hc hr hl) (quiet_wr hq _ _ _ rfl)
  case ignored => exact settled_of_quiet (actSetupLockRequest_of_shut hc h) hq
  case dropped => exact congrArg settled (actSetupLockRequest_of_checking hc)
  case locks => exact congrArg settled (actLockCheckDone_of_consistent hc rfl hring hbolt hspare hregions hhost)
  case refuses =>
    exact settled_of_quiet (actLockCheckDone_of_hostArea hc rfl hring hbolt hspare hregions hhost)
      (quiet_wr (quiet_wr (quiet_wr hq _ _ _ rfl) _ _ _ rfl) _ _ _ rfl)
  case vfRequest => exact congrArg settled (actRingVfLockRequest_of_open h1 h2 hc hl hb)
  case vfDropped => exact congrArg settled (actRingVfLockRequest_of_checking h1 h2 hc)
  all_goals
    have hact := actVfLockCheckDone_of_busy hb rfl
    have hu := quiet_wr hq .ringVfLock_checkBusy fn 0 rfl
  case vfRefuses => exact settled_of_quiet (hact.trans (if_pos hforeign)) (quiet_wr hu _ _ _ rfl)
  case vfLocks =>
    exact settled_of_quiet ((hact.trans (if_neg (Bool.eq_false_iff.1 hown))).trans (if_neg (Bool.eq_false_iff.1 hidle)))
      (quiet_wr hu _ _ _ rfl)
  case vfStarts =>
    exact settled_of_quiet ((hact.trans (if_neg (Bool.eq_false_iff.1 hown))).trans (if_pos hrun))
      (quiet_startRings (quiet_wr hu _ _ _ rfl) fn)

end Sys2Proof.Machine
end

section
/-! PROOF. Readiness bits and time limits (R31, R41, R74, R148, R383, R433). -/

namespace Sys2Proof.Machine

open Sys2Proof

/-- A bit that opens nothing else: no tier, whose last ends maintenance mode, and not BOLT_VAULT, which places keys. -/
theorem actReadyBitSet_of_plain {s : State} {b : Nat} (hr : s.isReady b = false) (hc : s.readyCond b = true)
    (ht : ¬(readyTier 0 ≤ b ∧ b ≤ readyTier 2)) (hv : b ≠ readyBoltVault) :
    actReadyBitSet b s = .next (s.setReady b true) := by
  have hnot : ∀ p : Prop, ¬(readyTier 0 ≤ b ∧ b ≤ readyTier 2 ∧ p) := fun _ h => ht ⟨h.1, h.2.1⟩
  simp only [actReadyBitSet, hr, hc, hnot, hv, Bool.not_true, Bool.or_self, Bool.false_eq_true, if_false]

theorem actHoldLimitExpiry_of_held {s : State} {sq : Nat} {cid : W16} {w : Work}
    (h : s.rings.work.find? (fun w => w.is sq cid && w.isHeld) = some w) :
    actHoldLimitExpiry sq cid s = .next (s.complete w stNotReady (s.unmet w)) := by
  unfold actHoldLimitExpiry
  split
  next x hx =>
    obtain rfl : x = w := Option.some.inj (hx.symm.trans h)
    rfl
  next hnone => exact absurd (hnone.symm.trans h) (Option.some_ne_none w).symm

theorem actCompletionTimeout_of_landed {s : State} {sq : Nat} {cid : W16} {w : Work}
    (hcto : (s.fnCfg 0).ctl.ctoDisable = false)
    (h : s.rings.work.find? (fun w => w.is sq cid && (w.at_ == .landed || w.at_ == .running)) = some w)
    (hat : w.at_ = .landed) :
    actCompletionTimeout sq cid s =
      .next (((s.emit (.aerRead .timeout)).spoilTargets w).complete w stDmaFault (resultOf 0xFF 1 0)) := by
  simp only [actCompletionTimeout, hcto, h, hat, Bool.false_eq_true, if_false, if_true, readFault]

theorem endHandoff_of_handingOff {s : State} {peer seq i sq cid : Nat} (h : s.handingOff peer seq = some (i, sq, cid)) :
    s.endHandoff peer seq = (s.handedOff i).finish sq cid stMeshUnavailable (resultOf 0xFF 3 peer) := by
  simp only [State.endHandoff, h]

theorem actAerError_correctable (s : State) : actAerError false s = .next (s.bucketEvent 0x500 1) := rfl

theorem actAerError_uncorrectable (s : State) : actAerError true s = .next (s.bucketEvent 0x500 16) := rfl

/-- Settles O22: each limit and each event is its action. -/
theorem readinessAndLimits : Obligations.ReadinessAndLimits := by
  refine ⟨fun s b hq hr hc ht hv => ?ready, fun s sq cid w h => ?held, fun s sq cid w hcto h hat => ?timeout,
    fun s peer seq i sq cid h => ?handoff, fun s => ⟨?correctable, ?uncorrectable⟩⟩
  case ready => exact settled_of_quiet (actReadyBitSet_of_plain hr hc ht hv) (quiet_setReady hq b true)
  case held => exact congrArg settled (actHoldLimitExpiry_of_held h)
  case timeout => exact congrArg settled (actCompletionTimeout_of_landed hcto h hat)
  case handoff =>
    rw [← endHandoff_of_handingOff h]
    rfl
  case correctable => exact congrArg settled (actAerError_correctable s)
  case uncorrectable => exact congrArg settled (actAerError_uncorrectable s)

end Sys2Proof.Machine
end

section
/-! PROOF. Rings, vectors and tenants (R34, R38, R59, R68, R80, R127, R447): the administrative operations,
unmasking and coalescing. -/

namespace Sys2Proof.Machine

open Sys2Proof

/-! ## Operations that pass their checks -/

theorem performRingRestart_of_checks {s : State} {w : Work} {n : Nat} (hn : n = w.ab 0 0 12)
    (hfn : s.tenantOf w.sq = 0 ∨ s.ringOwner n = some (s.tenantOf w.sq))
    (hbad : badOffset (w.admFields ++ [(8, s.flag .ringSqState_stopped n && s.sqStarts n),
      (16, decide (w.ab 1 0 16 < 2 ^ s.rd .ringSqCfg_sizeLog2 n))]) = none) :
    performRingRestart w s = (((s.setSq n { sqDefault n with started := true, pend := true }).wr
      .ringSqState_stopped n 0).wr .ringSqState_head n (w.ab 1 0 16)).complete w stOk 0 := by
  subst hn
  have howner : (s.tenantOf w.sq == 0 || s.ringOwner (w.ab 0 0 12) == some (s.tenantOf w.sq)) = true := by
    simpa using hfn
  unfold performRingRestart
  rw [chk_bind (needFn_ok howner), chk_bind (needFields_ok hbad), settleChk_pure]

theorem performRingClass_of_pin {s : State} {w : Work} {c : Nat} (hchk : s.admChecks w [] = .ok ())
    (hc : pinClass (w.ab 1 0 2) = some c) :
    performRingClass w s = ((s.wr .ringSqCfg_classPin (w.ab 0 0 12) (w.ab 1 0 2)).wr
      .ringSqState_class (w.ab 0 0 12) c).complete w stOk 0 := by
  simp only [performRingClass, chk_bind hchk, settleChk_pure, hc]

theorem performRingClass_of_noPin {s : State} {w : Work} (hchk : s.admChecks w [] = .ok ())
    (hc : pinClass (w.ab 1 0 2) = none) :
    performRingClass w s = (s.wr .ringSqCfg_classPin (w.ab 0 0 12) (w.ab 1 0 2)).complete w stOk 0 := by
  simp only [performRingClass, chk_bind hchk, settleChk_pure, hc]

theorem performVectorRetarget_of_checks {s t : State} {w : Work} (hchk : s.admChecks w [] = .ok ())
    (ht : t = ((s.wr .msix_addr (w.ab 0 0 11) (w.a 1)).wr .msix_data (w.ab 0 0 11) (w.ab 2 0 32)).wr .msix_mask
      (w.ab 0 0 11) (w.ab 2 32 1)) :
    performVectorRetarget w s = (t.sendUnmasked 0 (w.ab 0 0 11)).complete w stOk 0 := by
  subst ht
  unfold performVectorRetarget
  rw [chk_bind hchk, settleChk_pure]

theorem performTenantLimits_of_checks {s t : State} {w : Work} {lo : Nat} {q : Quota} (hlo : lo = max 1 (w.ab 1 16 16))
    (hchk : s.admChecks w [(16, decide (lo ≤ w.ab 1 0 16 ∧ w.ab 1 0 16 ≤ w.ab 1 32 16))] = .ok ())
    (ht : t = (((s.wr .fitTenant_weight (w.ab 0 0 8) (w.ab 1 0 16)).wr .fitTenant_minimum (w.ab 0 0 8)
      (w.ab 1 16 16)).wr .fitTenant_maximum (w.ab 0 0 8) (w.ab 1 32 16)).wr .fitTenant_effective (w.ab 0 0 8)
      (w.ab 1 0 16))
    (hq : q = { entries := w.ab 2 0 25, sessions := w.ab 3 0 17, programs := w.ab 3 24 8 }) :
    performTenantLimits w s = (t.setFit { t.fit with
      quotas := Store.put quotaDefault t.fit.quotas (w.ab 0 0 8) q }).complete w stOk 0 := by
  subst hlo ht hq
  unfold performTenantLimits
  rw [chk_bind hchk, settleChk_pure]

/-- A descriptor command that is dispatched at once leaves what its operation leaves, and what the block then does. -/
theorem next_submit_of_performs {s t : State} {op sq : Nat} {d : Desc} {h : HostView}
    (hd : (s.withWork (workOf op sq d h)).Dispatches (workOf op sq d h))
    (hp : performByOpcode (workOf op sq d h) (s.withWork (workOf op sq d h)) = t) :
    (.next (s.submit op sq d h .running false).settle : Host.Outcome State Fault Refusal) = .next t.settle := by
  rw [submit_of_dispatches hd, hp]

/-! ## Vectors and coalescing -/

theorem sendUnmasked_of_still {s : State} {fn v : Nat} (h : s.pba fn v = false ∨ s.vecMasked fn v = true) :
    s.sendUnmasked fn v = s := by
  refine if_neg ?_
  rcases h with h | h <;> simp [h]

theorem actMsixUnmask_of_open {s : State} {fn v : Nat} (hv : v < vectorsOf fn)
    (h0 : fn = 0 → s.checking = false ∧ s.locked = false) :
    actMsixUnmask fn v s =
      .next ((if fn = 0 then s.wr .msix_mask v 0 else s.wr .vfMsix_mask (vfVec fn v) 0).sendUnmasked fn v) := by
  have hex : ¬(v ≥ vectorsOf fn) := by omega
  unfold actMsixUnmask
  rw [if_neg hex]
  by_cases hfn : fn = 0
  · obtain ⟨hc, hl⟩ := h0 hfn
    simp only [hfn, hc, hl, if_true, Bool.false_eq_true, if_false]
  · simp only [hfn, if_false]

theorem actCqCoalTimer_of_unsignalled {s : State} {c : Nat} (hc : c < 4096) (hi : s.flag .ringCqCfg_irqEnable c = true)
    (hu : 0 < (s.cq c).unsig) :
    actCqCoalTimer c s =
      .next ((s.setCq c { s.cq c with unsig := 0 }).signal (s.tenantOf c) (s.rd .ringCqCfg_vector c)) := by
  have hcq : ¬(c ≥ 4096) := by omega
  simp [actCqCoalTimer, hcq, hi, hu]

/-- Settles O35: each operation past its checks, a vector unmasked, and a timer that finds records not signalled. -/
theorem ringsVectorsTenants : Obligations.RingsVectorsTenants := by
  refine ⟨fun s sq d h hd hfn hbad => ?restart, fun s sq d h hd hchk => ⟨fun c hc => ?pin, fun hc => ?noPin⟩,
    fun s sq d h hd hchk hstill => ?retarget, fun s sq d h hd hchk => ?limits, fun s fn v hv h0 => ?unmask,
    fun s c hc hi hu => ?timer⟩
  case restart => exact next_submit_of_performs hd (performRingRestart_of_checks rfl hfn hbad)
  case pin => exact next_submit_of_performs hd (performRingClass_of_pin hchk hc)
  case noPin => exact next_submit_of_performs hd (performRingClass_of_noPin hchk hc)
  case retarget =>
    refine next_submit_of_performs hd ((performVectorRetarget_of_checks hchk rfl).trans ?_)
    rw [sendUnmasked_of_still hstill]
  case limits => exact next_submit_of_performs hd (performTenantLimits_of_checks rfl hchk rfl rfl)
  case unmask => exact congrArg settled (actMsixUnmask_of_open hv h0)
  case timer => exact congrArg settled (actCqCoalTimer_of_unsignalled hc hi hu)

end Sys2Proof.Machine
end

section
/-! PROOF. The status fields that count (R54, R74, R146, R176, R179): what shows one field leaves every other and all that
is counted, and each command ends by showing them all. -/

namespace Sys2Proof.Machine

open Sys2Proof

/-! ## Showing one field -/

/-- The second state differs from the first in elements of field `f` alone. -/
def OnlyField (f : Fld) (s t : State) : Prop :=
  (∃ r, t = { s with regs := r }) ∧ ∀ g j, g ≠ f → t.rd g j = s.rd g j

theorem OnlyField.refl (f : Fld) (s : State) : OnlyField f s s := ⟨⟨s.regs, rfl⟩, fun _ _ _ => rfl⟩

theorem OnlyField.trans {f : Fld} {s t u : State} (h : OnlyField f s t) (k : OnlyField f t u) : OnlyField f s u := by
  obtain ⟨⟨r, rfl⟩, hrd⟩ := h
  obtain ⟨⟨q, rfl⟩, krd⟩ := k
  exact ⟨⟨q, rfl⟩, fun g j hg => (krd g j hg).trans (hrd g j hg)⟩

/-- What is read apart from the registers stays. -/
theorem OnlyField.read_eq {f : Fld} {s t : State} {α : Type} (h : OnlyField f s t) {read : State → α}
    (hc : ∀ r, read { s with regs := r } = read s) : read t = read s := by
  obtain ⟨⟨r, rfl⟩, _⟩ := h
  exact hc r

/-- A count that another field shows is still shown. -/
theorem OnlyField.keeps {f g : Fld} {s t : State} {i : Nat} {count : State → Nat} (h : OnlyField f s t) (hg : g ≠ f)
    (hc : ∀ r, count { s with regs := r } = count s) (hs : s.shows g i (count s)) : t.shows g i (count t) := by
  unfold State.shows at *
  rw [h.read_eq hc, h.2 g i hg, hs]

theorem showCount_onlyField (s : State) (f : Fld) (i n : Nat) : OnlyField f s (s.showCount f i n) := by
  unfold State.showCount
  split
  · exact .refl f s
  · exact ⟨⟨_, rfl⟩, fun g j hg => rd_wr_ne s n hg⟩

theorem showCount_shows (s : State) (f : Fld) (i n : Nat) : (s.showCount f i n).shows f i n := by
  unfold State.showCount
  split
  next h => exact h
  next => exact rd_wr_same s f i n

theorem showCount_rd_other (s : State) (f : Fld) {i j : Nat} (n : Nat) (hi : i < 65536) (hj : j < 65536) (hne : j ≠ i) :
    (s.showCount f i n).rd f j = s.rd f j := by
  unfold State.showCount
  split
  · rfl
  · exact rd_wr_other s n hi hj (fun h => hne h.2)

theorem each_succ (s : State) (n : Nat) (f : Nat → State → State) : s.each (n + 1) f = f n (s.each n f) := by
  simp [State.each, List.range_succ]

/-- The first `n` elements of a field, each shown with its count. -/
theorem each_showCount {f : Fld} {count : State → Nat → Nat} (hc : ∀ t r, count { t with regs := r } = count t)
    (s : State) {n : Nat} (hn : n ≤ 65536) {t : State} (ht : s.each n (fun i u => u.showCount f i (count u i)) = t) :
    OnlyField f s t ∧ ∀ i < n, t.shows f i (count t i) := by
  induction n generalizing t with
  | zero =>
    subst ht
    exact ⟨.refl f s, fun i hi => absurd hi (Nat.not_lt_zero i)⟩
  | succ n ih =>
    rw [each_succ] at ht
    obtain ⟨only, shown⟩ := ih (by omega) rfl
    generalize s.each n (fun i u => u.showCount f i (count u i)) = u at only shown ht
    have step : OnlyField f u t := ht ▸ showCount_onlyField u f n _
    have hcount : count t = count u := step.read_eq (hc u)
    refine ⟨only.trans step, fun i hi => ?_⟩
    rw [hcount, ← ht]
    rcases Nat.lt_succ_iff_lt_or_eq.1 hi with hlt | rfl
    · exact (showCount_rd_other u f _ (by omega) (by omega) (Nat.ne_of_lt hlt)).trans (shown i hlt)
    · exact showCount_shows u f i _

/-! ## Showing them all -/

theorem showCount_step {f : Fld} {count : State → Nat} (hc : ∀ t r, count { t with regs := r } = count t) (s : State)
    {i : Nat} {t : State} (ht : s.showCount f i (count s) = t) : OnlyField f s t ∧ t.shows f i (count t) := by
  have only : OnlyField f s t := ht ▸ showCount_onlyField s f i _
  refine ⟨only, ?_⟩
  rw [only.read_eq (hc s), ← ht]
  exact showCount_shows s f i _

theorem showStatus_statusShown (s : State) : s.showStatus.StatusShown := by
  unfold State.showStatus
  dsimp only
  generalize h1 : s.showCount .ringStat_held 0 s.heldCount = s1
  generalize h2 : s1.showCount .vtSessions_open 0 s1.openSessions = s2
  generalize h3 : s2.each 16 (fun r s => s.showCount .shtRrState_inFlight r (s.ringInFlight r)) = s3
  generalize h4 : s3.each 16 (fun r s => s.showCount .shtRrState_waiting r (s.ringWaiting r)) = s4
  generalize h5 : s4.each 16 (fun p s => s.showCount .stcPipeState_ksSlots p (s.filledSlots p)) = s5
  obtain ⟨_, held⟩ := showCount_step (count := State.heldCount) (fun _ _ => rfl) s h1
  obtain ⟨o2, opened⟩ := showCount_step (count := State.openSessions) (fun _ _ => rfl) s1 h2
  obtain ⟨o3, flight⟩ := each_showCount (count := State.ringInFlight) (fun _ _ => rfl) s2 (by decide) h3
  obtain ⟨o4, waiting⟩ := each_showCount (count := State.ringWaiting) (fun _ _ => rfl) s3 (by decide) h4
  obtain ⟨o5, slots⟩ := each_showCount (count := State.filledSlots) (fun _ _ => rfl) s4 (by decide) h5
  refine ⟨?_, ?_, fun r hr => ?_, fun r hr => ?_, slots⟩
  · exact o5.keeps nofun (fun _ => rfl) <| o4.keeps nofun (fun _ => rfl) <| o3.keeps nofun (fun _ => rfl) <|
      o2.keeps nofun (fun _ => rfl) held
  · exact o5.keeps nofun (fun _ => rfl) <| o4.keeps nofun (fun _ => rfl) <| o3.keeps nofun (fun _ => rfl) opened
  · exact o5.keeps (count := (State.ringInFlight · r)) nofun (fun _ => rfl) <|
      o4.keeps (count := (State.ringInFlight · r)) nofun (fun _ => rfl) (flight r hr)
  · exact o5.keeps (count := (State.ringWaiting · r)) nofun (fun _ => rfl) (waiting r hr)

theorem settle_statusShown (s : State) : s.settle.StatusShown := by
  unfold State.settle
  exact showStatus_statusShown _

/-! ## Every command ends settled -/

/-- An outcome that is a next state leaves the status fields shown. -/
def Shown (o : Host.Outcome State Fault Refusal) : Prop := ∀ t, o = .next t → t.StatusShown

theorem Shown.next_settle (s : State) : Shown (.next s.settle) := by
  intro t ht
  rw [← Host.Outcome.next.inj ht]
  exact settle_statusShown s

theorem Shown.settled (o : Host.Outcome State Fault Refusal) : Shown (settled o) := by
  cases o
  case next s => exact .next_settle s
  case fault | refused => exact fun _ ht => nomatch ht

/-- Every command is followed by what the block does by itself: those whose action always answers a state answer it
settled, the others settle what their action answers. -/
theorem exec_shown (c : Instr) (s : State) : Shown (exec c s) := by
  cases c
  case stream | streamCmd | sign | verify | ecdh | rsaEncrypt | rsaDecrypt | kemEncaps | kemDecaps | pubkeyExport |
      mac | macVerify | passwordVerify | passwordHash | passwordDerive | create | importKey | exportWrapped | derive |
      rotate | destroy | query | rewrapStart | rewrapStatus | backupSeal | backupRestore | openSession | update |
      final | close | migrate | load | invoke | unload | join | leave | shardConfig | memberQuery | takeover | nop |
      errorRingSetup | profileChange | retire | restore | selfTest | ringRestart | ringClass | vectorRetarget |
      tenantLimits | keepalive | membership | shardWrite | shardReply | forward | claim | claimReply | reload |
      handoff | handoffReply | ack | keepaliveTimer | peerLostTimeout | retransmitTimer | ackTimer | joinTimeout |
      claimRetryTimer | powerOnReset | sysRstNAssert | hotReset | msixUnmask | migrateTimeout | storePerform | boltCycle |
      fwWrite | fwActivate | fwCommit | fwRevert | meshKeyInstall | lcRetire | aerError =>
    exact .next_settle _
  all_goals exact .settled _

/-- Settles O4: a command ends settled, and a nanosecond changes nothing that is counted or shown. -/
theorem statusShownInvariant : Obligations.StatusShownInvariant := by
  intro s t hs ht
  cases hq : s.pending with
  | nil =>
    rw [step_of_pending_nil hq] at ht
    cases ht
    exact hs
  | cons c rest =>
    rw [step_of_pending_cons hq] at ht
    exact exec_shown c _ t ht

end Sys2Proof.Machine
end

section
/-! PROOF. Layouts in little-endian bytes (R8): the status page (R82) and the error record (R85, R440). -/

namespace Sys2Proof.Machine

open Sys2Proof

/-! ## Fields of a byte list -/

@[simp] theorem length_leBytes (n v : Nat) : (leBytes n v).length = n := by
  induction n generalizing v with
  | zero => rfl
  | succ n ih => simp [leBytes, ih]

theorem ofLe_leBytes (n v : Nat) : ofLe (leBytes n v) = v % 2 ^ (8 * n) := by
  induction n generalizing v with
  | zero => simp [leBytes, ofLe, Nat.mod_one]
  | succ n ih =>
    have hsplit : v % (256 * 2 ^ (8 * n)) = v % 256 + 256 * (v / 256 % 2 ^ (8 * n)) := Nat.mod_mul
    have hpow : 2 ^ (8 * (n + 1)) = 256 * 2 ^ (8 * n) := by rw [Nat.mul_succ, Nat.pow_add, Nat.mul_comm]
    simp [leBytes, ofLe, ih, hpow, hsplit]

/-- The whole of a list spelt by `leBytes`. -/
theorem leAt_leBytes (n v : Nat) : leAt (leBytes n v) 0 n = v % 2 ^ (8 * n) := by
  rw [← ofLe_leBytes]
  simp [leAt, sub, List.take_of_length_le]

theorem leAt_append_left {a b : List Byte} {off n : Nat} (h : off + n ≤ a.length) :
    leAt (a ++ b) off n = leAt a off n := by
  have hfits : n ≤ (a.drop off).length := by rw [List.length_drop]; omega
  unfold leAt sub
  rw [List.drop_append_of_le_length (by omega), List.take_append_of_le_length hfits]

theorem leAt_append_right {a b : List Byte} {off n : Nat} (h : a.length ≤ off) :
    leAt (a ++ b) off n = leAt b (off - a.length) n := by
  simp [leAt, sub, List.drop_append, List.drop_eq_nil_of_le h]

theorem leAt_cons_one (b : Byte) (bs : List Byte) : leAt (b :: bs) 0 1 = b.toNat := by simp [leAt, sub, ofLe]

@[simp] theorem length_zeroBytes (n : Nat) : (zeroBytes n).length = n := List.length_replicate

theorem leAt_zeroBytes (n : Nat) : leAt (zeroBytes n) 0 n = 0 := by
  have hzero : ofLe (zeroBytes n) = 0 := by
    induction n with
    | zero => rfl
    | succ n ih => simpa [zeroBytes, List.replicate_succ, ofLe] using ih
  simp [leAt, sub, List.take_of_length_le, hzero]

theorem length_flatten_leBytes (w n : Nat) (f : Nat → Nat) :
    ((List.range n).map (fun i => leBytes w (f i))).flatten.length = w * n := by
  simp [List.length_flatten, Function.comp_def, Nat.mul_comm]

/-- A table of numbers of one size. -/
theorem leAt_flatten_leBytes (w : Nat) {n i : Nat} (f : Nat → Nat) (hi : i < n) :
    leAt ((List.range n).map (fun i => leBytes w (f i))).flatten (w * i) w = f i % 2 ^ (8 * w) := by
  induction n with
  | zero => exact absurd hi (Nat.not_lt_zero i)
  | succ n ih =>
    rw [List.range_succ, List.map_append, List.flatten_append]
    have hlen := length_flatten_leBytes w n f
    rcases Nat.lt_succ_iff_lt_or_eq.1 hi with hlt | rfl
    · have hfits : w * i + w ≤ w * n := by rw [← Nat.mul_succ]; exact Nat.mul_le_mul_left w hlt
      rw [leAt_append_left (by omega), ih hlt]
    · rw [leAt_append_right (by omega), hlen, Nat.sub_self]
      simpa using leAt_leBytes w (f i)

/-! ## The status page -/

/-- The health bits (R82) in the order of their numbers. -/
def State.healthBits (s : State) : Fin 8 → Bool :=
  ![!s.fit.retired.isEmpty, s.rd .fitStatus_thermalStep != 0, s.err.overflow && s.err.ring.isSome, s.err.ring.isNone,
    s.anyRetired 0x0300 0x031F, s.meshDegraded, s.anyRetired 0x0000 0x003F || s.anyRetired 0x0100 0x010F,
    s.flag .ringCtrl_sequence]

theorem b2n_eq_toNat (b : Bool) : b2n b = b.toNat := by cases b <;> rfl

theorem health_eq_ofBits (s : State) : s.health = Nat.ofBits s.healthBits := by
  simp [State.health, State.healthBits, Nat.ofBits, b2n_eq_toNat, Fin.foldr_succ]
  omega

theorem health_lt (s : State) : s.health < 256 := by
  rw [health_eq_ofBits]
  exact Nat.ofBits_lt_two_pow _

theorem bitOf_health (s : State) (i : Fin 8) : bitOf s.health i = s.healthBits i := by
  rw [health_eq_ofBits]
  exact Nat.testBit_ofBits_lt _ _ i.2

/-- The page up to the line passes: 32 bytes. -/
def State.statusHead (s : State) (beat : Nat) : List Byte :=
  leBytes 4 beat ++ leBytes 4 (match s.err.ring with | some g => g.prod | none => 0) ++ leBytes 8 (s.rd .globalReady_bits)
    ++ leBytes 4 s.health ++ leBytes 1 (s.rd .globalProfile_active + 4 * s.rd .globalProfile_switching)
    ++ zeroBytes 3 ++ leBytes 8 s.time

@[simp] theorem length_statusHead (s : State) (beat : Nat) : (s.statusHead beat).length = 32 := by
  simp [State.statusHead]

theorem statusBytes_eq (s : State) (beat : Nat) :
    s.statusBytes beat = s.statusHead beat ++
      ((List.range 8).map (fun l => leBytes 4 (Store.get (fun _ => 0) s.rings.linePass l))).flatten := rfl

theorem length_statusBytes (s : State) (beat : Nat) : (s.statusBytes beat).length = 64 := by
  rw [statusBytes_eq, List.length_append, length_statusHead, length_flatten_leBytes]

/-- A field before the line passes. -/
theorem leAt_statusBytes_head (s : State) (beat : Nat) {off n : Nat} (h : off + n ≤ 32) :
    leAt (s.statusBytes beat) off n = leAt (s.statusHead beat) off n :=
  leAt_append_left (h.trans (length_statusHead s beat).ge)

theorem leAt_statusBytes_linePass (s : State) (beat : Nat) {l : Nat} (hl : l < 8) :
    leAt (s.statusBytes beat) (32 + 4 * l) 4 = Store.get (fun _ => 0) s.rings.linePass l % 2 ^ 32 := by
  rw [statusBytes_eq, leAt_append_right (by simp), length_statusHead, Nat.add_sub_cancel_left]
  exact leAt_flatten_leBytes 4 _ hl

theorem leAt_statusBytes_health (s : State) (beat : Nat) : leAt (s.statusBytes beat) 16 4 = s.health := by
  have hfits : s.health < 2 ^ (8 * 4) := (health_lt s).trans (by decide)
  rw [leAt_statusBytes_head s beat (by decide), ← Nat.mod_eq_of_lt hfits, ← leAt_leBytes 4]
  simp [State.statusHead, leAt_append_left, leAt_append_right]

/-- Settles O14: each field is the part of the page it stands in, and the health word is the number of its bits. -/
theorem statusPageLayout : Obligations.StatusPageLayout := by
  intro s beat
  refine ⟨length_statusBytes s beat, ?beat, ?prod, ?ready, ?health, ?profile, ?zeros, ?time,
    fun l hl => leAt_statusBytes_linePass s beat hl⟩
  case health =>
    have hbit := bitOf_health s
    rw [leAt_statusBytes_health]
    exact ⟨health_lt s, hbit 0, hbit 1, hbit 2, hbit 3, hbit 4, hbit 5, hbit 6, hbit 7⟩
  all_goals rw [leAt_statusBytes_head s beat (by decide)]
  case prod =>
    cases hring : s.err.ring <;> simp [State.statusHead, leAt_append_left, leAt_append_right, leAt_leBytes, hring]
  case beat | ready | profile | time | zeros =>
    simp [State.statusHead, leAt_append_left, leAt_append_right, leAt_leBytes, leAt_zeroBytes]

/-! ## The error record -/

@[simp] theorem length_errBytes (r : ErrRec) (p : Bool) : (errBytes r p).length = 32 := by
  simp [errBytes]

/-- Byte 31 is the phase bit alone. -/
theorem getElem?_errBytes_phase (r : ErrRec) (p : Bool) : (errBytes r p)[31]? = some (if p then 0x80 else 0) := by
  unfold errBytes
  rw [List.getElem?_append_right (by simp)]
  simp

theorem leAt_errBytes_slot (r : ErrRec) (p : Bool) :
    leAt (errBytes r p) 6 2 = (match r.slot with | some j => (j + 0x8000) % 2 ^ 16 | none => 0) := by
  cases h : r.slot <;> simp [errBytes, leAt_append_left, leAt_append_right, leAt_leBytes, h]

theorem leAt_errBytes_reporters (r : ErrRec) (p : Bool) : leAt (errBytes r p) 4 2 = min r.reporters 65535 := by
  simp [errBytes, leAt_append_left, leAt_append_right, leAt_leBytes]

/-! ## The error ring -/

@[simp] theorem setPba_host (s : State) (fn v : Nat) (b : Bool) : (s.setPba fn v b).host = s.host := by
  unfold State.setPba; split <;> rfl
@[simp] theorem setPba_err (s : State) (fn v : Nat) (b : Bool) : (s.setPba fn v b).err = s.err := by
  unfold State.setPba; split <;> rfl

/-- A vector signalled is nothing, its PBA bit, or one message. -/
theorem signal_cases (s : State) (fn v : Nat) :
    s.signal fn v = s ∨ s.signal fn v = s.setPba fn v true ∨ ∃ a d, s.signal fn v = s.emit (.msix fn a d) := by
  unfold State.signal
  split
  · exact .inl rfl
  split
  · exact .inr (.inl rfl)
  split
  · split <;> exact .inr (.inr ⟨_, _, rfl⟩)
  · exact .inl rfl

@[simp] theorem signal_host (s : State) (fn v : Nat) : (s.signal fn v).host = s.host := by
  obtain h | h | ⟨a, d, h⟩ := signal_cases s fn v <;> simp [h]
@[simp] theorem signal_err (s : State) (fn v : Nat) : (s.signal fn v).err = s.err := by
  obtain h | h | ⟨a, d, h⟩ := signal_cases s fn v <;> simp [h]

/-- Only the PBA is written in the registers. -/
theorem signal_rd (s : State) (fn v : Nat) {f : Fld} (hpf : f ≠ .pba_word) (hvf : f ≠ .vfPba_word) (i : Nat) :
    (s.signal fn v).rd f i = s.rd f i := by
  obtain h | h | ⟨a, d, h⟩ := signal_cases s fn v
  · rw [h]
  · rw [h]
    unfold State.setPba
    split
    · exact rd_wr_ne s _ hpf
    · exact rd_wr_ne s _ hvf
  · rw [h, emit_rd]

/-- A write that may be issued. -/
theorem hostWrite_of_canIssue {s : State} {fn : Nat} (h : s.canIssue fn = true) (a : Nat) (bs : List Byte) :
    (s.hostWrite fn a bs).host = Store.putAll hostDefault s.host (hostKey fn a) (bs.map some) := by
  simp [State.hostWrite, State.post, h]

/-- The error ring past a record: err_prod is the next, and the record counts towards the interrupt. -/
def ErrRing.advanced (g : ErrRing) : ErrRing :=
  { g with prod := (g.prod + 1) % 2 ^ 32,
           unsig := if g.timerUs == 0 || g.countM1 ≤ g.unsig then 0 else g.unsig + 1 }

theorem errPut_host {s : State} (h : s.canIssue 0 = true) (g : ErrRing) (r : ErrRec) :
    (s.errPut g r).host = Store.putAll hostDefault s.host (hostKey 0 (g.base + 32 * (g.prod % 2 ^ g.k)))
      ((errBytes r (g.prod / 2 ^ g.k % 2 == 0)).map some) := by
  unfold State.errPut
  rw [apply_ite State.host]
  simp only [signal_host, ite_self, setErr_host, hostWrite_of_canIssue h]

theorem errPut_ring (s : State) (g : ErrRing) (r : ErrRec) : (s.errPut g r).err.ring = some g.advanced := by
  unfold State.errPut
  rw [apply_ite State.err]
  simp only [signal_err, ite_self]
  rfl

/-- Settles O21: the record's layout, and the slot in a ring that begins at a multiple of 4,096. -/
theorem errorRecords : Obligations.ErrorRecords := by
  refine ⟨fun r p => ⟨length_errBytes r p, getElem?_errBytes_phase r p, ?origin, ?cls, ?severity,
    leAt_errBytes_reporters r p, leAt_errBytes_slot r p, ?first, ?detail, ?seq, ?span, ?zero⟩,
    fun s g r hissue hbase => ⟨errPut_host hissue g r, ?aligned, g.advanced, errPut_ring s g r, rfl, rfl, rfl⟩⟩
  case aligned => omega
  case origin | cls | severity | first | detail | seq | span | zero =>
    simp [errBytes, leAt_append_left, leAt_append_right, leAt_leBytes, leAt_cons_one]

end Sys2Proof.Machine
end

section
/-! PROOF. Completion records (R51, R78): the slot and the phase bit of each record, and where a CQ starts. -/

namespace Sys2Proof.Machine

open Sys2Proof

/-! ## One record -/

/-- Counting a record towards its CQ's interrupt writes neither host memory nor any register but the PBA. -/
theorem cqSignal_cases (s : State) (c : Nat) (irqNow : Bool) :
    s.cqSignal c irqNow = s ∨ (∃ q, s.cqSignal c irqNow = s.setCq c q) ∨
      ∃ q fn v, s.cqSignal c irqNow = (s.setCq c q).signal fn v := by
  unfold State.cqSignal
  split
  · exact .inl rfl
  dsimp only
  split
  · exact .inr (.inr ⟨_, _, _, rfl⟩)
  · exact .inr (.inl ⟨_, rfl⟩)

@[simp] theorem cqSignal_host (s : State) (c : Nat) (irqNow : Bool) : (s.cqSignal c irqNow).host = s.host := by
  obtain h | ⟨q, h⟩ | ⟨q, fn, v, h⟩ := cqSignal_cases s c irqNow <;> simp [h]

theorem cqSignal_rd (s : State) (c : Nat) (irqNow : Bool) {f : Fld} (hpf : f ≠ .pba_word) (hvf : f ≠ .vfPba_word)
    (i : Nat) : (s.cqSignal c irqNow).rd f i = s.rd f i := by
  obtain h | ⟨q, h⟩ | ⟨q, fn, v, h⟩ := cqSignal_cases s c irqNow
  · rw [h]
  · rw [h, setCq_rd]
  · rw [h, signal_rd _ _ _ hpf hvf, setCq_rd]

@[simp] theorem hostWrite_rd (s : State) (fn a : Nat) (bs : List Byte) (f : Fld) (i : Nat) :
    (s.hostWrite fn a bs).rd f i = s.rd f i := by
  unfold State.hostWrite State.post
  split <;> rfl

@[simp] theorem hostWrite_cqSize (s : State) (fn a : Nat) (bs : List Byte) (c : Nat) :
    (s.hostWrite fn a bs).cqSize c = s.cqSize c := by
  unfold State.cqSize
  rw [hostWrite_rd]

section

variable {s : State} {r : Record} {c : Nat} (hc : s.rd .ringSqCfg_cq r.sq = c)
include hc

theorem putRecord_host (hissue : s.canIssue r.fn = true) :
    (s.putRecord r).host =
      Store.putAll hostDefault s.host
        (hostKey r.fn (s.rd .ringCqBase_addr c * 4096 + 16 * s.rd .ringCqState_tail c))
        ((recordBytes r.result r.cid (s.rd .ringSqState_head r.sq) r.sq r.status
          (s.flag .ringCqState_phase c)).map some) := by
  subst hc
  simp only [State.putRecord, cqSignal_host, apply_ite State.host, wr_host, ite_self, hostWrite_of_canIssue hissue]

theorem putRecord_tail :
    (s.putRecord r).rd .ringCqState_tail c = (s.rd .ringCqState_tail c + 1) % s.cqSize c % 2 ^ 16 := by
  subst hc
  simp only [State.putRecord, hostWrite_cqSize]
  refine (cqSignal_rd _ _ _ (by nofun) (by nofun) _).trans ?_
  split
  · exact (rd_wr_ne _ _ (by nofun)).trans (rd_wr_same _ _ _ _)
  · exact rd_wr_same _ _ _ _

theorem putRecord_phase :
    (s.putRecord r).rd .ringCqState_phase c =
      if (s.rd .ringCqState_tail c + 1) % s.cqSize c = 0 then b2n (!s.flag .ringCqState_phase c) % 2
      else s.rd .ringCqState_phase c := by
  subst hc
  simp only [State.putRecord, hostWrite_cqSize]
  refine (cqSignal_rd _ _ _ (by nofun) (by nofun) _).trans ?_
  split
  · exact rd_wr_same _ _ _ _
  · exact (rd_wr_ne _ _ (by nofun)).trans (hostWrite_rd _ _ _ _ _ _)

end

/-- A phase bit inverted. -/
theorem b2n_not_flag {s : State} {f : Fld} {i : Nat} (h : s.rd f i < 2) : b2n (!s.flag f i) % 2 = 1 - s.rd f i := by
  unfold State.flag b2n
  interval_cases s.rd f i <;> rfl

/-! ## Where a CQ starts -/

/-- What every turn keeps, a fold over a list keeps. -/
theorem foldl_keeps {α : Type} {P : State → Prop} {f : State → α → State} (hf : ∀ t x, P t → P (f t x)) (l : List α)
    {s : State} (h : P s) : P (l.foldl f s) := by
  induction l generalizing s with
  | nil => exact h
  | cons x l ih => exact ih (hf s x h)

/-- What the turn of one member brings about and every turn keeps, a fold over the list brings about. -/
theorem foldl_reaches {α : Type} {P Q : State → Prop} {f : State → α → State} (hP : ∀ t x, P t → P (f t x))
    (hQ : ∀ t x, Q t → Q (f t x)) {a : α} (ha : ∀ t, Q t → P (f t a)) {l : List α} (hl : a ∈ l) {s : State}
    (h : Q s) : P (l.foldl f s) := by
  induction l generalizing s with
  | nil => exact absurd hl List.not_mem_nil
  | cons x l ih =>
    rcases List.mem_cons.1 hl with rfl | hl
    · exact foldl_keeps hP l (ha s h)
    · exact ih hl (hQ s x h)

/-- An element of a field written at some element is that write or what it was. -/
theorem rd_wr_cases (s : State) (f : Fld) (i j v : Nat) :
    (s.wr f i v).rd f j = v % 2 ^ f.spec.width ∨ (s.wr f i v).rd f j = s.rd f j := by
  unfold State.wr State.rd
  dsimp only
  rw [Store.get_put]
  split
  · exact .inl rfl
  · exact .inr rfl

/-- One CQ's turn in `startRings`. -/
def State.startCq (s : State) (n : Nat) : State :=
  if s.cqStarts n then
    ((s.setCq n { started := true, unsig := 0, since := 0 }).wr .ringCqState_stopped n 0).wr .ringCqState_phase n 1
  else s.wr .ringCqState_stopped n 1

/-- One SQ's turn in `startRings`. -/
def State.startSq (s : State) (n : Nat) : State :=
  if s.sqStarts n then
    let pin := s.rd .ringSqCfg_classPin n
    let cls := if pin = 1 then 2 else if pin = 2 then 1 else if pin = 3 then 0 else if n = 0 then 2 else 0
    let s := s.setSq n { sqDefault n with started := true }
    ((s.wr .ringSqState_class n cls).wr .ringSqState_stopped n 0).wr .ringSqState_lastSeq n 0
  else s.wr .ringSqState_stopped n 1

theorem startRings_eq (s : State) (fn : Nat) :
    s.startRings fn = ((s.listed .ringSqCfg_enable).filter (fun n => s.visible fn n)).foldl State.startSq
      (((s.listed .ringCqCfg_enable).filter (fun n => s.visible fn n)).foldl State.startCq s) := rfl

/-- A CQ's turn writes no register but RING_CQ_STATE. -/
theorem startCq_rd (s : State) (n : Nat) {f : Fld} (hs : f ≠ .ringCqState_stopped) (hp : f ≠ .ringCqState_phase)
    (i : Nat) : (s.startCq n).rd f i = s.rd f i := by
  unfold State.startCq
  split
  · rw [rd_wr_ne _ _ hp, rd_wr_ne _ _ hs, setCq_rd]
  · exact rd_wr_ne _ _ hs

theorem startCq_cqStarts (s : State) (n c : Nat) : (s.startCq n).cqStarts c = s.cqStarts c := by
  have hrd : ∀ f : Fld, f ≠ .ringCqState_stopped → f ≠ .ringCqState_phase → (s.startCq n).rd f c = s.rd f c :=
    fun f hs hp => startCq_rd s n hs hp c
  simp only [State.cqStarts, State.flag, hrd .ringCqCfg_enable nofun nofun, hrd .ringCqCfg_sizeLog2 nofun nofun,
    hrd .ringCqBase_addr nofun nofun]

theorem startCq_phase_of_starts {s : State} {c : Nat} (h : s.cqStarts c = true) :
    (s.startCq c).rd .ringCqState_phase c = 1 := by
  unfold State.startCq
  rw [if_pos h]
  exact rd_wr_same _ _ _ _

/-- A CQ in its first lap stays there while the others start. -/
theorem startCq_keeps_phase {s : State} {c : Nat} (n : Nat) (h : s.rd .ringCqState_phase c = 1) :
    (s.startCq n).rd .ringCqState_phase c = 1 := by
  unfold State.startCq
  split
  · rcases rd_wr_cases ((s.setCq n { started := true, unsig := 0, since := 0 }).wr .ringCqState_stopped n 0)
      .ringCqState_phase n c 1 with hw | hw
    · exact hw
    · rw [hw, rd_wr_ne _ _ (by nofun), setCq_rd, h]
  · rw [rd_wr_ne _ _ (by nofun), h]

theorem startSq_phase (s : State) (n c : Nat) :
    (s.startSq n).rd .ringCqState_phase c = s.rd .ringCqState_phase c := by
  unfold State.startSq
  split
  · exact (rd_wr_ne _ _ (by nofun)).trans ((rd_wr_ne _ _ (by nofun)).trans (rd_wr_ne _ _ (by nofun)))
  · exact rd_wr_ne _ _ nofun

theorem startRings_phase {s : State} {fn c : Nat} (hc : c ∈ s.listed .ringCqCfg_enable) (hv : s.visible fn c = true)
    (hs : s.cqStarts c = true) : (s.startRings fn).rd .ringCqState_phase c = 1 := by
  rw [startRings_eq]
  refine foldl_keeps (P := fun t => t.rd .ringCqState_phase c = 1) (fun t n h => (startSq_phase t n c).trans h) _ ?_
  exact foldl_reaches (P := fun t => t.rd .ringCqState_phase c = 1) (Q := fun t => t.cqStarts c = true)
    (fun _ n h => startCq_keeps_phase n h) (fun t n h => (startCq_cqStarts t n c).trans h)
    (fun _ h => startCq_phase_of_starts h) (List.mem_filter.2 ⟨hc, hv⟩) hs

theorem cqTail_fits {k : Nat} (hk : k ≤ 16) (t : Nat) : (t + 1) % 2 ^ k % 2 ^ 16 = (t + 1) % 2 ^ k :=
  Nat.mod_eq_of_lt ((Nat.mod_lt _ (Nat.two_pow_pos k)).trans_le (Nat.pow_le_pow_right (by decide) hk))

/-- Settles O19: a record's CQ past it, a CQ's turn among the rings that start, and the reset value of a tail. -/
theorem recordsInOrder : Obligations.RecordsInOrder := by
  refine ⟨fun s r hissue => ?record, fun s fn c hc hv hs => startRings_phase hc hv hs,
    fun c hc => reset_rd _ (by omega)⟩
  case record =>
    intro c t k hk hphase
    have phase := putRecord_phase (s := s) (r := r) rfl
    exact ⟨putRecord_host rfl hissue, (putRecord_tail rfl).trans (cqTail_fits hk t),
      fun hne => phase.trans (if_neg hne), fun h0 => (phase.trans (if_pos h0)).trans (b2n_not_flag hphase)⟩

end Sys2Proof.Machine
end

section
/-! PROOF. Polling (R30, R47, R57, R59-R62, R64, R65, R75, R82, R83): sweeps and the status page, doorbell reads and
fetches, summary clears. -/

namespace Sys2Proof.Machine

open Sys2Proof

/-! ## Sweeps (R60, R65, R75) -/

theorem hostRead_of_canIssue {s : State} {fn : Nat} (h : s.canIssue fn = true) (a n : Nat) :
    s.hostRead fn a n = s.emit (.read fn a n false) := if_pos h

/-- Requests put on the link one after the other. -/
def State.emitAll (s : State) (l : List Out) : State := { s with pcie := { s.pcie with out := s.pcie.out ++ l } }

theorem emitAll_nil (s : State) : s.emitAll [] = s := by simp [State.emitAll]

theorem emitAll_concat (s : State) (l : List Out) (o : Out) : s.emitAll (l ++ [o]) = (s.emitAll l).emit o := by
  simp [State.emitAll, State.emit]

theorem canIssue_emitAll (s : State) (l : List Out) (fn : Nat) : (s.emitAll l).canIssue fn = s.canIssue fn := rfl

/-- Reads issued in a row go out in that order. -/
theorem each_hostRead {s : State} {fn : Nat} (h : s.canIssue fn = true) (addr : Nat → Nat) (len n : Nat) :
    s.each n (fun l s => s.hostRead fn (addr l) len) =
      s.emitAll ((List.range n).map (fun l => Out.read fn (addr l) len false)) := by
  induction n with
  | zero => exact (emitAll_nil s).symm
  | succ n ih =>
    rw [each_succ, ih, hostRead_of_canIssue ((canIssue_emitAll s _ fn).trans h), List.range_succ, List.map_append]
    exact (emitAll_concat s _ _).symm

theorem actSweepIssue_of_running {s : State} (hrun : s.rings.running = true) (hissue : s.canIssue 0 = true) {t : State}
    (ht : t = s.emitAll ((List.range 8).map (fun l => Out.read 0 (s.rd .ringSumBase_addr * 4096 + 64 * l) 64 false))) :
    actSweepIssue s =
      .next { t with rings := { t.rings with sweepOut := t.rings.sweepOut ++ [t.rings.heartbeat] } } := by
  have hreads := each_hostRead hissue (fun l => s.rd .ringSumBase_addr * 4096 + 64 * l) 64 8
  have hcond : (s.rings.running && s.canIssue 0) = true := by rw [hrun, hissue]; rfl
  refine (if_pos hcond).trans ?_
  dsimp only
  rw [hreads, ht]

theorem actSweepReturn_of_out {s : State} {beat : Nat} {more : List Nat} (words : List W64)
    (h : s.rings.sweepOut = beat :: more) {t u : State}
    (ht : t = { s with rings := { s.rings with
      sweepOut := more, sum := Store.putAll (fun _ => 0) [] 0 ((words.take 64).map BitVec.toNat),
      sweepNo := s.rings.sweepNo + 1 } })
    (hu : u = t.each 8 (fun l s => s.passStart beat l)) :
    actSweepReturn words s = .next (((u.startedSqs.filter
      (fun n => slotDue (u.rd .ringSqState_class n) s.rings.sweepNo n)).foldl State.serviceSlot u).passEnd) := by
  subst hu ht
  simp only [actSweepReturn, h]

/-- A read failed, and not by a timeout that is disabled. -/
theorem noTimeout_of_not {s : State} {why : ReadFail} (h : ¬(why = .timeout ∧ (s.fnCfg 0).ctl.ctoDisable = true)) :
    s.noTimeout why = false := by
  simpa [State.noTimeout] using h

theorem actSummaryReadFail_of_out {s : State} {beat : Nat} {more : List Nat} (addr : Nat) {why : ReadFail}
    (h : s.rings.sweepOut = beat :: more) (hcto : ¬(why = .timeout ∧ (s.fnCfg 0).ctl.ctoDisable = true)) :
    actSummaryReadFail addr why s =
      .next ((({ s with rings := { s.rings with sweepOut := more } } : State).emit (.aerRead why)).report
        0x0600 0x07 3 addr repRings) := by
  simp only [actSummaryReadFail, h, noTimeout_of_not hcto, Bool.false_eq_true, if_false]

/-! ## The status page (R82, R83) -/

/-- Bytes that fit one TLP go out as one. -/
theorem pieces_of_le {m n : Nat} (hn : 0 < n) (h : n ≤ m) (a : Nat) : pieces m n a n = [(a, n)] := by
  obtain ⟨k, rfl⟩ := Nat.exists_eq_add_one.2 hn
  have hnil : pieces m k (a + m) (k + 1 - m) = [] := by
    rw [Nat.sub_eq_zero_of_le h]
    cases k <;> rfl
  simp only [pieces, Nat.succ_ne_zero, if_false, hnil, Nat.min_eq_right h]

theorem hostWrite_of_fits {s : State} {fn : Nat} (h : s.canIssue fn = true) (a : Nat) {bs : List Byte}
    (h0 : 0 < bs.length) (hfits : bs.length ≤ s.maxPayload) :
    s.hostWrite fn a bs =
      { s with host := Store.putAll hostDefault s.host (hostKey fn a) (bs.map some)
               pcie := { s.pcie with out := s.pcie.out ++ [.write fn a bs.length false] } } := by
  simp only [State.hostWrite, State.post, h, if_true, pieces_of_le h0 hfits, List.map_cons, List.map_nil]

/-- No Max Payload Size is below 128 bytes (R28). -/
theorem le_maxPayload (s : State) : 128 ≤ s.maxPayload := Nat.le_mul_of_pos_right 128 (Nat.two_pow_pos _)

/-- The page is one write of 64 bytes. -/
theorem hostWrite_statusBytes {s : State} (h : s.canIssue 0 = true) (a beat : Nat) :
    s.hostWrite 0 a (s.statusBytes beat) =
      { s with host := Store.putAll hostDefault s.host (hostKey 0 a) ((s.statusBytes beat).map some)
               pcie := { s.pcie with out := s.pcie.out ++ [.write 0 a 64 false] } } := by
  have hlen := length_statusBytes s beat
  have hmax := le_maxPayload s
  rw [hostWrite_of_fits h a (by omega) (by omega), hlen]

theorem actStatusPageWrite_of_alive {s t : State} {beat : Nat} (halive : s.fitterAlive = true)
    (hrun : s.rings.running = true) (hissue : s.canIssue 0 = true) (hbeat : beat = (s.rings.heartbeat + 1) % 2 ^ 32)
    (ht : t = { s with rings := { s.rings with heartbeat := beat } }) :
    actStatusPageWrite s = .next
      { t with host := Store.putAll hostDefault t.host (hostKey 0 (t.rd .ringStatusBase_addr * 4096))
                 ((t.statusBytes beat).map some)
               pcie := { t.pcie with out := t.pcie.out ++ [.write 0 (t.rd .ringStatusBase_addr * 4096) 64 false] }
               err := { t.err with overflow := false } } := by
  have hcond : (s.fitterAlive && s.rings.running && s.canIssue 0) = true := by rw [halive, hrun, hissue]; rfl
  have hwrite := hostWrite_statusBytes (s := t) (by rw [ht]; exact hissue) (t.rd .ringStatusBase_addr * 4096) beat
  refine (if_pos hcond).trans ?_
  dsimp only
  rw [← hbeat, ← ht, hwrite]
  simp only [State.setErr]

/-- Settles O13: each command with what it waits for; from a quiet state nothing more follows. -/
theorem sweepsAndStatusPage : Obligations.SweepsAndStatusPage := by
  refine ⟨fun s hq hrun hissue => ?issue, fun s beat more words h => ?sweep, fun s hq halive hrun hissue => ?page,
    fun s addr why beat more h hcto => ?fail⟩
  case issue =>
    refine settled_of_quiet (actSweepIssue_of_running hrun hissue rfl) ?_
    exact quiet_of_agree hq rfl rfl rfl rfl rfl rfl (fun _ _ _ => rfl)
  case sweep => exact congrArg settled (actSweepReturn_of_out words h rfl rfl)
  case page =>
    exact settled_of_quiet (actStatusPageWrite_of_alive halive hrun hissue rfl rfl)
      (quiet_of_agree hq rfl rfl rfl rfl rfl rfl (fun _ _ _ => rfl))
  case fail => exact congrArg settled (actSummaryReadFail_of_out addr h hcto)

/-! ## Doorbell reads and fetches (R57, R59, R60, R65) -/

theorem actFetchFail_of_started {s : State} {n addr : Nat} {why : ReadFail} (h : (s.sq n).started = true)
    (hcto : ¬(why = .timeout ∧ (s.fnCfg 0).ctl.ctoDisable = true)) :
    actFetchFail n addr why s =
      .next (((s.stopSq n).emit (.aerRead why)).report (0x1000 + n) 0x07 3 addr repRings) := by
  simp only [actFetchFail, h, noTimeout_of_not hcto, Bool.not_true, Bool.or_self, Bool.false_eq_true, if_false]

theorem actDescriptorLand_of_fetching {s : State} {n : Nat} (ds : List (W16 × Desc × HostView))
    (h : (s.sq n).fetching ≠ 0) :
    actDescriptorLand n ds s = .next ((ds.foldl (fun s x => s.landOne n x) s).noteConsumed n) := if_neg h

section

variable {s u : State} {n : Nat} {word : W64} (hread : (s.sq n).reading ≠ 0)
  (hu : u = (s.setSq n { s.sq n with reading := (s.sq n).reading - 1 }).wr .ringSqState_lastSeq n (word.toNat / 2 ^ 32))
include hread hu

theorem actDoorbellReadReturn_of_reading :
    actDoorbellReadReturn n word s =
      if u.seqMode && word.toNat / 2 ^ 32 == s.rd .ringSqState_lastSeq n && !(s.sq n).pend then
        .next (u.pollOutcome n false)
      else if word.toNat % 2 ^ 32 ≥ u.sqSize n then .next (u.invalidDoorbell n (word.toNat % 2 ^ 32))
      else .next (u.fetch n (word.toNat % 2 ^ 32)) := by
  subst hu
  exact if_neg hread

theorem actDoorbellReadReturn_of_unchanged (hseq : u.seqMode = true)
    (hsame : word.toNat / 2 ^ 32 = s.rd .ringSqState_lastSeq n) (hpend : (s.sq n).pend = false) :
    actDoorbellReadReturn n word s = .next (u.pollOutcome n false) := by
  have hempty : (u.seqMode && word.toNat / 2 ^ 32 == s.rd .ringSqState_lastSeq n && !(s.sq n).pend) = true := by
    rw [hseq, hsame, hpend, beq_self_eq_true]
    rfl
  rw [actDoorbellReadReturn_of_reading hread hu, if_pos hempty]

section

variable (hnew : u.seqMode = false ∨ word.toNat / 2 ^ 32 ≠ s.rd .ringSqState_lastSeq n ∨ (s.sq n).pend = true)
include hnew

/-- A word that is no empty poll of sequence mode. -/
theorem actDoorbellReadReturn_of_new :
    actDoorbellReadReturn n word s =
      if word.toNat % 2 ^ 32 ≥ u.sqSize n then .next (u.invalidDoorbell n (word.toNat % 2 ^ 32))
      else .next (u.fetch n (word.toNat % 2 ^ 32)) := by
  have hpoll : ¬(u.seqMode && word.toNat / 2 ^ 32 == s.rd .ringSqState_lastSeq n && !(s.sq n).pend) = true := by
    simp only [Bool.and_eq_true, beq_iff_eq, Bool.not_eq_true', not_and, Bool.not_eq_false]
    exact fun ⟨hseq, hsame⟩ => (hnew.resolve_left (ne_false_of_eq_true hseq)).resolve_left (fun hne => hne hsame)
  rw [actDoorbellReadReturn_of_reading hread hu, if_neg hpoll]

theorem actDoorbellReadReturn_of_valid (htail : word.toNat % 2 ^ 32 < u.sqSize n) :
    actDoorbellReadReturn n word s = .next (u.fetch n (word.toNat % 2 ^ 32)) :=
  (actDoorbellReadReturn_of_new hread hu hnew).trans (if_neg (Nat.not_le.2 htail))

theorem actDoorbellReadReturn_of_invalid (htail : u.sqSize n ≤ word.toNat % 2 ^ 32) :
    actDoorbellReadReturn n word s = .next (u.invalidDoorbell n (word.toNat % 2 ^ 32)) :=
  (actDoorbellReadReturn_of_new hread hu hnew).trans (if_pos htail)

end

end

theorem invalidDoorbell_eq (s : State) (n : Nat) {tail : Nat} (h : tail < 2 ^ 32) :
    s.invalidDoorbell n tail = (s.stopSq n).report (0x1000 + n) 0x08 3 tail repRings := by
  unfold State.invalidDoorbell
  rw [Nat.mod_eq_of_lt h]

/-- The re-read of a doorbell word after a clear (R62): a tail that moved marks the SQ pending. -/
theorem actClearRereadReturn_of_rereading {s u : State} {n tail : Nat} {more : List Nat} {word : W64} {q : SqDyn}
    (h : (s.sq n).rereading = tail :: more) (hq : q = { s.sq n with rereading := more })
    (hu : u = (s.setSq n (if word.toNat % 2 ^ 32 ≠ tail then { q with pend := true, stale := q.reading } else q)).wr
      .ringSqState_lastSeq n (word.toNat / 2 ^ 32)) :
    actClearRereadReturn n word s =
      if word.toNat % 2 ^ 32 ≥ u.sqSize n then .next (u.invalidDoorbell n (word.toNat % 2 ^ 32)) else .next u := by
  subst hq hu
  simp only [actClearRereadReturn, h, ite_not]

/-- Settles O15: each return and each fetch's end in the cases of its action; a tail read has 32 bits. -/
theorem doorbells : Obligations.Doorbells := by
  refine ⟨fun s n word hread => ?read, fun s n word tail more h => ?reread,
    fun s n ds h => congrArg settled (actDescriptorLand_of_fetching ds h),
    fun s n addr why h hcto => congrArg settled (actFetchFail_of_started h hcto)⟩
  all_goals have hword : word.toNat % 2 ^ 32 < 2 ^ 32 := Nat.mod_lt _ (Nat.two_pow_pos 32)
  case read =>
    intro u
    refine ⟨fun hseq hsame hpend _ => ?unchanged, fun hnew => ⟨fun htail => ?valid, fun htail => ?invalid⟩⟩
    case unchanged => exact congrArg settled (actDoorbellReadReturn_of_unchanged hread rfl hseq hsame hpend)
    case valid => exact congrArg settled (actDoorbellReadReturn_of_valid hread rfl hnew htail)
    case invalid =>
      rw [← invalidDoorbell_eq u n hword]
      exact congrArg settled (actDoorbellReadReturn_of_invalid hread rfl hnew htail)
  case reread =>
    intro q moved u
    have hact := actClearRereadReturn_of_rereading h rfl rfl (u := u)
    refine ⟨fun htail => ?valid, fun htail => ?invalid⟩
    case valid => exact congrArg settled (hact.trans (if_neg (Nat.not_le.2 htail)))
    case invalid =>
      rw [← invalidDoorbell_eq u n hword]
      exact congrArg settled (hact.trans (if_pos htail))

/-! ## Summary clears (R30, R47, R61, R62, R64, R65) -/

section

variable {s t : State} {word : Nat} {c : CasOut} (hc : s.rings.cas.find? (fun c => c.word == word) = some c)
  (ht : t = { s with rings := { s.rings with cas := s.rings.cas.erase c } })
include hc ht

theorem actCasReturn_of_success {v : W64} (hv : v.toNat = c.cmp) :
    actCasReturn word (.value v) s = .next ((t.rereads c.sqs).casIssue word) := by
  subst ht
  simp only [actCasReturn, hc, hv, if_true]

theorem actCasReturn_of_mismatch {v : W64} (hv : v.toNat ≠ c.cmp) {swap : Nat}
    (hswap : swap = c.sqs.foldl (fun x n => withBit x (n % 64) false) v.toNat) {u : State}
    (hu : u = t.count .ringStat_casRetries) :
    actCasReturn word (.value v) s =
      if s.mayCas then .next (({ u with rings := { u.rings with
        cas := u.rings.cas ++ [{ c with cmp := v.toNat, swap := swap }] } } : State).emit (.cas word v.toNat swap))
      else .next (t.clearEnds c.sqs) := by
  subst hswap hu ht
  simp only [actCasReturn, hc, hv, if_false]
  rfl

/-- A completion that refuses the CAS: sequence mode, and one record with the completion's status. -/
theorem actCasReturn_of_refused {res : CasResult} {code : Nat}
    (hres : res = .unsupportedRequest ∧ code = 1 ∨ res = .completerAbort ∧ code = 4) :
    actCasReturn word res s =
      .next (((t.clearEnds c.sqs).wr .ringCtrl_sequence 0 1).report 0x0600 0x09 1 code repRings) := by
  subst ht
  obtain ⟨rfl, rfl⟩ | ⟨rfl, rfl⟩ := hres <;> simp only [actCasReturn, hc]

end

/-- Settles O17: the cases of what the completion brings back. -/
theorem summaryClears : Obligations.SummaryClears := by
  intro s word c hc t
  refine ⟨fun v hv => ?success, fun v hv hmay => ?retry, fun v hv hmay => ?ends, ?unsupported, ?aborted⟩
  case success => exact congrArg settled (actCasReturn_of_success hc rfl hv)
  case retry => exact congrArg settled ((actCasReturn_of_mismatch hc rfl hv rfl rfl).trans (if_pos hmay))
  case ends =>
    exact congrArg settled ((actCasReturn_of_mismatch hc rfl hv rfl rfl).trans (if_neg (Bool.eq_false_iff.1 hmay)))
  case unsupported => exact congrArg settled (actCasReturn_of_refused hc rfl (.inl ⟨rfl, rfl⟩))
  case aborted => exact congrArg settled (actCasReturn_of_refused hc rfl (.inr ⟨rfl, rfl⟩))

end Sys2Proof.Machine
end

section
/-! PROOF. Maintenance (R84, R86, R127, R187, R435, R439, R450): the operations past their checks, and the consumer count
read of the error ring. -/

namespace Sys2Proof.Machine

open Sys2Proof

/-! ## NOP, the error ring, profile changes -/

section

variable {s : State} {w : Work}

theorem performNop_of_checks (h : badOffset w.admFields = none) : performNop w s = s.complete w stOk s.time := by
  unfold performNop
  rw [chk_bind (needFields_ok h), settleChk_pure]

theorem performErrorRingSetup_of_checks {k : Nat} (hk : k = w.ab 1 0 5)
    (hchk : s.admChecks w [(8, w.a 0 % 4096 == 0), (16, decide (5 ≤ k ∧ k ≤ 16)), (32, w.a 3 % 4 == 0)] = .ok ())
    {g : ErrRing} (hg : g = { base := w.a 0, k, vector := w.ab 1 16 11, countM1 := w.ab 2 0 8, timerUs := w.ab 2 8 10,
                              consumer := w.a 3, prod := 0, seen := 0, unsig := 0 }) :
    performErrorRingSetup w s = (State.errDrain 66
      (s.setErr { s.err with ring := some g, readOut := false })).errPoll.complete w stOk 0 := by
  subst hg hk
  unfold performErrorRingSetup
  rw [chk_bind hchk, settleChk_pure]

theorem performProfileChange_of_checks (hchk : s.admChecks w [] = .ok ()) {t : State}
    (ht : t = (s.moveWork w .running).setFit { (s.moveWork w .running).fit with
      profQueue := (s.moveWork w .running).fit.profQueue ++ [(w.sq, w.d.cid.toNat, w.a 0)] }) :
    performProfileChange w s =
      if t.flag .globalProfile_switching then t else State.profNext t.fit.profQueue.length t := by
  subst ht
  unfold performProfileChange
  rw [chk_bind hchk, settleChk_pure]

/-! ## Units -/

theorem performRetire_of_checks (hchk : s.unitChecks w = .ok ()) :
    performRetire w s = (s.retireUnit (w.a 0) 3).complete w stOk 0 := by
  unfold performRetire
  rw [chk_bind hchk, settleChk_pure]

/-- Neither the result bit nor the event of a pipeline's test retires or restores a unit. -/
theorem raiseTack_fit (s : State) (src gen : Nat) : (s.raiseTack src gen).fit = s.fit := by
  unfold State.raiseTack
  dsimp only
  split
  · rfl
  · split <;> rfl

theorem pipeTested_isRetired (s : State) (x : Nat) (failed : Bool) (y : Nat) :
    (s.pipeTested x failed).isRetired y = s.isRetired y := by
  unfold State.isRetired State.pipeTested
  split
  · rw [raiseTack_fit, wr_fit]
  · rfl

/-- Only a pipeline notes how its test ended, and for a pipeline the test's end is what the command says. -/
theorem pipeTested_of_flag (s : State) (x : Nat) (passed : Bool) :
    s.pipeTested x (!(passed || decide (0x300 ≤ x ∧ x < 0x320))) = s.pipeTested x (!passed) := by
  unfold State.pipeTested
  split
  next hpipe =>
    have hddr : ¬(0x300 ≤ x ∧ x < 0x320) := by omega
    simp only [hddr, decide_false, Bool.or_false]
  next => rfl

section

variable (hchk : s.unitChecks w = .ok ()) {v : State} (hv : s.pipeTested (w.a 0) (!w.flag) = v)
include hchk hv

/-- A unit's test passed, or the unit is a rank or channel, which has none. -/
theorem performRestore_of_passed (hpass : w.flag = true ∨ 0x300 ≤ w.a 0 ∧ w.a 0 < 0x320) :
    performRestore w s =
      (if s.isRetired (w.a 0) then v.retireClear (w.a 0) else v).complete w stOk 0 := by
  have hp : (w.flag || decide (0x300 ≤ w.a 0 ∧ w.a 0 < 0x320)) = true := by simpa using hpass
  have tested := (pipeTested_of_flag s (w.a 0) w.flag).trans hv
  rw [hp] at tested
  unfold performRestore
  rw [chk_bind hchk, settleChk_pure]
  simp only [hp, ← tested, pipeTested_isRetired, Bool.not_true, Bool.false_eq_true, if_false]

theorem performRestore_of_failed (hfail : w.flag = false) (hddr : ¬(0x300 ≤ w.a 0 ∧ w.a 0 < 0x320)) :
    performRestore w s = v.complete w stResourceRetired (resultOf 0xFF (retiredDetail (w.a 0)) (w.a 0)) := by
  subst hv
  unfold performRestore
  rw [chk_bind hchk, settleChk_pure]
  simp only [hfail, hddr, decide_false, Bool.or_self, Bool.not_false, if_true]

end

theorem performSelfTest_of_unit (hchk : s.unitChecks w = .ok ()) (hpipe : ¬(0x100 ≤ w.a 0 ∧ w.a 0 < 0x110)) :
    performSelfTest w s = (if w.flag then s.latch (w.a 0) 2 else s).complete w stOk (b2n w.flag) := by
  unfold performSelfTest
  rw [chk_bind hchk, if_neg hpipe, settleChk_pure]

theorem performSelfTest_of_pipe (hchk : s.unitChecks w = .ok ()) (hpipe : 0x100 ≤ w.a 0 ∧ w.a 0 < 0x110) {p : Nat}
    (hp : p = w.a 0 - 0x100) {v : State} (hv : v = if s.flag .stcPipeState_selfTest p then s else s.startTest p 0) :
    performSelfTest w s = (v.setPipe p { v.pipe p with
      testFor := (v.pipe p).testFor ++ [(w.sq, w.d.cid.toNat)] }).moveWork w .running := by
  unfold performSelfTest
  rw [chk_bind hchk, if_pos hpipe, settleChk_pure, hv, hp]

end

/-- As `next_submit_of_performs`, of a command that brings how its test ended. -/
theorem next_submit_flag_of_performs {s t : State} {op sq : Nat} {d : Desc} {h : HostView} {flag : Bool}
    (hd : (s.withWork (workOf op sq d h .running flag)).Dispatches (workOf op sq d h .running flag))
    (hp : performByOpcode (workOf op sq d h .running flag) (s.withWork (workOf op sq d h .running flag)) = t) :
    (.next (s.submit op sq d h .running flag).settle : Host.Outcome State Fault Refusal) = .next t.settle := by
  rw [submit_of_dispatches hd, hp]

/-! ## The consumer count (R86) -/

theorem actErrConsumerReadReturn_of_out {s : State} {g : ErrRing} (count : W32) (hg : s.err.ring = some g)
    (hout : s.err.readOut = true) :
    actErrConsumerReadReturn count s = .next (State.errDrain 66
      (s.setErr { s.err with readOut := false, ring := some { g with seen := count.toNat } })).errPoll := by
  simp only [actErrConsumerReadReturn, hg, hout, if_true]

/-- Settles O34: each operation past its checks, and the error ring drained by the count read. -/
theorem maintenance : Obligations.Maintenance := by
  refine ⟨fun s sq d h => ?nop, fun s sq d h => ?errorRing, fun s sq d h => ?profile, fun s sq d h => ?retire,
    fun s sq d h passed => ?restore, fun s sq d h failed => ?selfTest,
    fun s g count hg hout => congrArg settled (actErrConsumerReadReturn_of_out count hg hout)⟩
  case nop =>
    intro w u hd hbad
    exact next_submit_of_performs hd ((performNop_of_checks hbad).trans (by rw [withWork_time]))
  case errorRing => exact fun hd hchk => next_submit_of_performs hd (performErrorRingSetup_of_checks rfl hchk rfl)
  case profile => exact fun hd hchk => next_submit_of_performs hd (performProfileChange_of_checks hchk rfl)
  case retire => exact fun hd hchk => next_submit_of_performs hd (performRetire_of_checks hchk)
  case restore =>
    intro w u x v hd hchk
    have tested : u.pipeTested x (!passed) = v := rfl
    refine ⟨fun hpass hret => ?retired, fun hpass hret => ?inService, fun hfail hddr => ?failed⟩
    case retired =>
      exact next_submit_flag_of_performs hd ((performRestore_of_passed hchk tested hpass).trans (by rw [if_pos hret]))
    case inService =>
      exact next_submit_flag_of_performs hd
        ((performRestore_of_passed hchk tested hpass).trans (by rw [if_neg (Bool.eq_false_iff.1 hret)]))
    case failed =>
      exact next_submit_flag_of_performs hd (performRestore_of_failed hchk tested hfail hddr)
  case selfTest =>
    intro w u x p v hd hchk
    refine ⟨fun hunit => ?unit, fun hlo hhi => ?pipe⟩
    case unit => exact next_submit_flag_of_performs hd (performSelfTest_of_unit hchk hunit)
    case pipe => exact next_submit_flag_of_performs hd (performSelfTest_of_pipe hchk ⟨hlo, hhi⟩ rfl rfl)

end Sys2Proof.Machine
end

section
/-! PROOF. Public keys and MACs (R95, R111-R113): each operation of group 0x02, MAC and MAC_VERIFY, past its checks and with
its reads answered. -/

namespace Sys2Proof.Machine

open Sys2Proof

section

variable {s v : State} {w : Work} {k : KeyMat} (hv : v = s.touchKey w.h w.pkKind w.key)
include hv

/-! ## Signatures and MACs -/

theorem performSign_of_key {msg ctx : List Byte} {r : (Nat → Nat) × State} (hr : r = v.draws 64)
    (hkey : s.pkKey w false true [uSign] = .ok k) (hcap : sigLen w.alg k.keyType ≤ w.cap)
    (hmsg : viewRead w.h w.inA w.inN = some msg) (hctx : viewRead w.h w.auxA w.auxN = some ctx) :
    performSign w s = (r.2.hostOut w w.outA (bytesOf (signWith w k (natsOf msg) (natsOf ctx) r.1)) w.pkBufs).complete w
      stOk (sigLen w.alg k.keyType) := by
  subst hr hv
  unfold performSign
  rw [chk_bind hkey, chk_bind (needField_ok (decide_eq_true hcap)), settleChk_pure, readOr_some hmsg, readOr_some hctx]

theorem performVerify_of_key {msg sig : List Byte} (hkey : s.pkKey w false false [uVerify] = .ok k)
    (hmsg : viewRead w.h w.inA w.inN = some msg) (hsig : viewRead w.h w.auxA w.auxN = some sig) :
    performVerify w s = v.complete w (if verifyWith w k.keyType (publicOf k.keyType k.material) (natsOf msg) (natsOf sig)
      then stOk else stVerifyFalse) 0 := by
  subst hv
  unfold performVerify
  rw [chk_bind hkey, settleChk_pure, readOr_some hmsg, readOr_some hsig, completeIf_eq]

theorem performMac_of_key {msg : List Byte} (halg : w.alg ≠ 0x2D) (hkey : s.pkKey w false true [uMac] = .ok k)
    (hmsg : viewRead w.h w.inA w.inN = some msg) :
    performMac w s = (v.hostOut w w.outA (bytesOf (Hash.hmac (macHash w.alg) k.material (natsOf msg))) w.pkBufs).complete w
      stOk (Hash.outLen (macHash w.alg)) := by
  subst hv
  have hsup : w.macSupported = .ok () := need_ok (bne_iff_ne.2 halg)
  unfold performMac
  rw [chk_bind hsup, chk_bind hkey, settleChk_pure, readOr_some hmsg]

theorem performMacVerify_of_key {msg tag : List Byte} (hkey : s.pkKey w false true [uMac] = .ok k)
    (hmsg : viewRead w.h w.inA w.inN = some msg) (htag : viewRead w.h w.auxA w.auxN = some tag) :
    performMacVerify w s = v.complete w
      (if (Hash.hmac (macHash w.alg) k.material (natsOf msg)).take w.auxN == natsOf tag then stOk else stVerifyFalse)
      0 := by
  subst hv
  unfold performMacVerify
  rw [chk_bind hkey, settleChk_pure, readOr_some hmsg, readOr_some htag, completeIf_eq]

/-! ## Key agreement -/

section

variable {peer : List Byte} (hkey : s.pkKey w true true [uAgree] = .ok k) (hpeer : viewRead w.h w.inA w.inN = some peer)
include hkey hpeer

/-- The shared secret becomes an entry, where the peer's key is a point of the curve. -/
theorem performEcdh_of_key :
    performEcdh w s = (Pk.ecdh (curveOf k.keyType) (valBe (k.material.take (curveOf k.keyType).len)) (natsOf peer)).elim
      (v.complete w stVerifyFalse 0) (v.newSecret w k.shard) := by
  subst hv
  unfold performEcdh
  rw [chk_bind hkey, settleChk_pure, readOr_some hpeer]
  cases Pk.ecdh (curveOf k.keyType) (valBe (k.material.take (curveOf k.keyType).len)) (natsOf peer) <;> rfl

theorem performKemDecaps_of_key :
    performKemDecaps w s =
      v.newSecret w k.shard (Lattice.kemDecaps (kemOf k.keyType) k.material (natsOf peer)) := by
  subst hv
  unfold performKemDecaps
  rw [chk_bind hkey, settleChk_pure, readOr_some hpeer]

end

theorem performKemEncaps_of_key {ek : Bs} (hek : ek = publicOf k.keyType k.material) {r : List Byte × State}
    (hr : r = v.freshBytes 32) {e : Bs × Bs} (he : e = Lattice.kemEncaps (kemOf k.keyType) ek (natsOf r.1))
    (hkey : s.pkKey w true false [uAgree] = .ok k) (hok : Lattice.kemKeyOk (kemOf k.keyType) ek = true)
    (hroom : v.secretFits k.shard 32 = true) :
    performKemEncaps w s = (r.2.hostOut w w.outA (bytesOf e.2) w.pkBufs).newSecret w k.shard e.1 := by
  subst he hr hek hv
  unfold performKemEncaps
  rw [chk_bind hkey, chk_bind (needField_ok hok), chk_bind (needQuota_ok hroom), settleChk_pure]

/-! ## RSA and public forms -/

theorem performRsaEncrypt_of_key {msg label : List Byte} {n : Nat} (hn : n = rsaLen k.keyType) {a : Hash.Alg}
    (ha : a = paramHash w.params) {r : List Byte × State} (hr : r = v.freshBytes (Hash.outLen a))
    (hkey : s.pkKey w false false [uEncrypt] = .ok k) (hfit : w.inN + 2 * Hash.outLen a + 2 ≤ n) (hcap : n ≤ w.cap)
    (hmsg : viewRead w.h w.inA w.inN = some msg) (hlabel : viewRead w.h w.auxA w.auxN = some label) :
    performRsaEncrypt w s = (r.2.hostOut w w.outA (bytesOf (Pk.oaepEncrypt a (Pk.rsaPubOf n (publicOf k.keyType k.material))
      (natsOf label) (natsOf msg) (natsOf r.1))) w.pkBufs).complete w stOk n := by
  subst hr ha hn hv
  unfold performRsaEncrypt
  rw [chk_bind hkey, chk_bind (needField_ok (decide_eq_true hfit)), chk_bind (needField_ok (decide_eq_true hcap)),
    settleChk_pure, readOr_some hmsg, readOr_some hlabel]

/-- A ciphertext of the modulus' length gives its plaintext, or none. -/
theorem performRsaDecrypt_of_key {ct label : List Byte} (hkey : s.pkKey w w.toEntry true [uDecrypt] = .ok k)
    (hct : viewRead w.h w.inA w.inN = some ct) (hlabel : viewRead w.h w.auxA w.auxN = some label)
    (hlen : ct.length = rsaLen k.keyType) :
    performRsaDecrypt w s = (Pk.oaepDecrypt (paramHash w.params) (Pk.rsaPrivOf (rsaLen k.keyType) k.material)
      (natsOf label) (natsOf ct)).elim (v.complete w stVerifyFalse 0) (v.rsaPlain w k) := by
  subst hv
  unfold performRsaDecrypt
  rw [chk_bind hkey, settleChk_pure, readOr_some hct, readOr_some hlabel]
  simp only [if_pos hlen]
  cases Pk.oaepDecrypt (paramHash w.params) (Pk.rsaPrivOf (rsaLen k.keyType) k.material) (natsOf label)
    (natsOf ct) <;> rfl

theorem performPubkeyExport_of_key {pub : Bs} (hpub : pub = publicOf k.keyType k.material)
    (hbad : badOffset w.pkChecks = none) (hkey : s.keyOperand w.h (s.tenantOf w.sq) w.pkKind w.key 8 0 = .ok k)
    (htype : checkTypeUse k 8 (fun kt => decide (0x10 ≤ kt % 0x8000)) [] = .ok ()) (hcap : pub.length ≤ w.cap) :
    performPubkeyExport w s = (v.hostOut w w.outA (bytesOf pub) w.pkBufs).complete w stOk pub.length := by
  subst hpub hv
  unfold performPubkeyExport
  rw [chk_bind (needFields_ok hbad), chk_bind hkey, chk_bind htype, chk_bind (needField_ok (decide_eq_true hcap)),
    settleChk_pure]

end

/-- A plaintext that fits the output buffer goes there (R113). -/
theorem rsaPlain_of_buffer {s : State} {w : Work} {p : Bs} (k : KeyMat) (hto : w.toEntry = false)
    (hcap : p.length ≤ w.cap) :
    s.rsaPlain w k p = (s.hostOut w w.outA (bytesOf p) w.pkBufs).complete w stOk p.length := by
  simp only [State.rsaPlain, hto, Bool.false_eq_true, if_false, if_pos hcap]

/-- A plaintext of 16 to 64 bytes becomes an entry where the descriptor asks for one (R95). -/
theorem rsaPlain_of_entry {s : State} {w : Work} {p : Bs} {k : KeyMat} (hto : w.toEntry = true) (hlo : 16 ≤ p.length)
    (hhi : p.length ≤ 64) : s.rsaPlain w k p = s.newSecret w k.shard p := by
  have hlen : 16 ≤ p.length ∧ p.length ≤ 64 := ⟨hlo, hhi⟩
  simp only [State.rsaPlain, if_pos hto, if_pos hlen]

/-- Settles O23: each operation past its checks, with its input and auxiliary bytes read. -/
theorem signaturesAndMacs : Obligations.SignaturesAndMacs := by
  refine ⟨fun s sq d h k msg ctx hd hkey hcap hmsg hctx => ?sign, fun s sq d h k msg sig hd hkey hmsg hsig => ?verify,
    fun s sq d h k msg hd halg hkey hmsg => ?mac, fun s sq d h k msg tag hd hkey hmsg htag => ?macVerify⟩
  case sign => exact next_submit_of_performs hd (performSign_of_key rfl rfl hkey hcap hmsg hctx)
  case verify => exact next_submit_of_performs hd (performVerify_of_key rfl hkey hmsg hsig)
  case mac => exact next_submit_of_performs hd (performMac_of_key rfl halg hkey hmsg)
  case macVerify => exact next_submit_of_performs hd (performMacVerify_of_key rfl hkey hmsg htag)

/-- Settles O24: each operation past its checks, ECDH by whether the peer's key is a point. -/
theorem keyAgreement : Obligations.KeyAgreement := by
  refine ⟨fun s sq d h k peer => ?ecdh, fun s sq d h k hd hkey hok hroom => ?encaps,
    fun s sq d h k ct hd hkey hct => ?decaps⟩
  case ecdh =>
    intro w u v c hd hkey hpeer
    have agrees : performByOpcode w u = (Pk.ecdh c (valBe (k.material.take c.len)) (natsOf peer)).elim
        (v.complete w stVerifyFalse 0) (v.newSecret w k.shard) := performEcdh_of_key rfl hkey hpeer
    refine ⟨fun x hx => ?point, fun hx => ?noPoint⟩
    case point | noPoint =>
      rw [hx] at agrees
      exact next_submit_of_performs hd agrees
  case encaps => exact next_submit_of_performs hd (performKemEncaps_of_key rfl rfl rfl rfl hkey hok hroom)
  case decaps => exact next_submit_of_performs hd (performKemDecaps_of_key rfl hkey hct)

/-- Settles O25: each operation past its checks, RSA_DECRYPT by what the ciphertext decrypts to and where that goes. -/
theorem rsaAndExport : Obligations.RsaAndExport := by
  refine ⟨fun s sq d h k msg label hd hkey hfit hcap hmsg hlabel => ?encrypt, fun s sq d h k ct label => ?decrypt,
    fun s sq d h k hd hbad hkey htype hcap => ?pubkey⟩
  case encrypt =>
    exact next_submit_of_performs hd (performRsaEncrypt_of_key rfl rfl rfl rfl hkey hfit hcap hmsg hlabel)
  case decrypt =>
    intro w u n v plain hd hkey hct hlabel hlen
    have decrypts : performByOpcode w u = plain.elim (v.complete w stVerifyFalse 0) (v.rsaPlain w k) :=
      performRsaDecrypt_of_key rfl hkey hct hlabel hlen
    refine ⟨fun p hp hto hcap => ?buffer, fun p hp hto hlo hhi => ?entry, fun hp => ?noPlain⟩
    all_goals rw [hp] at decrypts
    case buffer => exact next_submit_of_performs hd (decrypts.trans (rsaPlain_of_buffer k hto hcap))
    case entry => exact next_submit_of_performs hd (decrypts.trans (rsaPlain_of_entry hto hlo hhi))
    case noPlain => exact next_submit_of_performs hd decrypts
  case pubkey => exact next_submit_of_performs hd (performPubkeyExport_of_key rfl rfl hbad hkey htype hcap)

end Sys2Proof.Machine
end

section
/-! PROOF. Passwords (R114, R115, R117): each operation past its checks, with hash memory found and password and salt
read. -/

namespace Sys2Proof.Machine

open Sys2Proof

/-- With password and salt read, an operation goes on with their tag. -/
theorem withTag_of_reads {v : State} {w : Work} {pwd salt : List Byte} (secret : Bs) (dst : Nat × Nat)
    (go : Bs → State → State) (hpwd : viewRead w.h w.pwdA w.pwdN = some pwd)
    (hsalt : viewRead w.h w.saltA w.saltN = some salt) :
    v.withTag w secret dst go = go (w.pwTag (natsOf pwd) (natsOf salt) secret) (v.touchKey w.h w.pepKind w.pepper) := by
  unfold State.withTag
  rw [readOr_some hpwd, readOr_some hsalt]

section

variable {s v t : State} {w : Work} {k : Bs × Nat} {pwd salt : List Byte} {tag : Bs}
  (ht : t = v.touchKey w.h w.pepKind w.pepper) (htag : tag = w.pwTag (natsOf pwd) (natsOf salt) k.1)
  (hkey : s.pwKey w = .ok k) (hmem : s.hashMemory w = .ok v) (hpwd : viewRead w.h w.pwdA w.pwdN = some pwd)
  (hsalt : viewRead w.h w.saltA w.saltN = some salt)
include ht htag hkey hmem hpwd hsalt

theorem performPasswordVerify_of_key {given : List Byte} (hgiven : viewRead w.h w.tagA w.tagN = some given) :
    performPasswordVerify w s = t.complete w (if tag == natsOf given then stOk else stVerifyFalse) 0 := by
  subst ht htag
  unfold performPasswordVerify
  rw [chk_bind hkey, chk_bind hmem, settleChk_pure, withTag_of_reads k.1 _ _ hpwd hsalt, readOr_some hgiven,
    completeIf_eq]

theorem performPasswordHash_of_key :
    performPasswordHash w s = (t.hostOut w w.tagA (bytesOf tag)
      ([(w.pwdA, w.pwdN), (w.saltA, w.saltN)] ++ keyBuf w.h w.pepKind w.pepper 0)).complete w stOk w.tagN := by
  subst ht htag
  unfold performPasswordHash
  rw [chk_bind hkey, chk_bind hmem, settleChk_pure, withTag_of_reads k.1 _ _ hpwd hsalt]

theorem performPasswordDerive_of_key : performPasswordDerive w s = t.newSecret w k.2 tag := by
  subst ht htag
  unfold performPasswordDerive
  rw [chk_bind hkey, chk_bind hmem, settleChk_pure, withTag_of_reads k.1 _ _ hpwd hsalt]

end

/-- Settles O26: each operation goes on with the tag of what it has read. -/
theorem passwords : Obligations.Passwords := by
  refine ⟨fun s sq d h k pwd salt given v hd hkey hmem hpwd hsalt hgiven => ?verify,
    fun s sq d h k pwd salt v hd hkey hmem hpwd hsalt => ?hash,
    fun s sq d h k pwd salt v hd hkey hmem hpwd hsalt => ?derive⟩
  case verify =>
    exact next_submit_of_performs hd (performPasswordVerify_of_key rfl rfl hkey hmem hpwd hsalt hgiven)
  case hash => exact next_submit_of_performs hd (performPasswordHash_of_key rfl rfl hkey hmem hpwd hsalt)
  case derive => exact next_submit_of_performs hd (performPasswordDerive_of_key rfl rfl hkey hmem hpwd hsalt)

end Sys2Proof.Machine
end

section
/-! PROOF. The Vault Table's operations (R93, R119, R134, R138-R141, R149, R153, R154): entries made, read and ended, the
table key, backup images. -/

namespace Sys2Proof.Machine

open Sys2Proof

section

variable {s : State} {w : Work} (hchk : s.vtChecks w = .ok ())
include hchk

/-! ## New entries -/

theorem performCreate_of_checks {r : Bs × State} (hr : r = s.drawKey w.keyType) :
    performCreate w s = r.2.newEntry w
      { shard := w.vtShard, keyType := w.keyType, usage := w.usage, expiry := w.expiry, material := r.1 } := by
  subst hr
  unfold performCreate
  rw [chk_bind hchk, settleChk_pure]

theorem performImport_of_key {k : KeyMat} {v : State} {own use : Nat} (hown : own = k.usage.getD 0)
    (huse : use = if w.usage = 0 then own else w.usage)
    (hv : v = if isPublicOnly k.keyType then s else s.touchKey w.h 2 w.bufA) (hkey : s.importKey w = .ok k)
    (hsub : (use &&& own) = use) (hfits : usageFits k.keyType use = true) :
    performImport w s = v.newEntry w
      { shard := w.vtShard, keyType := k.keyType, usage := use, expiry := w.expiry, material := k.material } := by
  subst hv huse hown
  unfold performImport
  rw [chk_bind hchk, chk_bind hkey, chk_bind (needField_ok (by rw [hfits, Bool.and_true, beq_iff_eq]; exact hsub)),
    settleChk_pure]

/-- A child may be exported only where its parent may (R139). -/
theorem performDerive_of_parent {k : KeyMat} {info : List Byte}
    (hkey : s.keyOperand w.h (s.tenantOf w.sq) w.hKind w.vtHandle 8 0 = .ok k)
    (huse : checkTypeUse k 8 (fun _ => true) [uDerive] = .ok ())
    (hexp : bitOf w.usage uExport = true → bitOf (k.usage.getD 0) uExport = true)
    (hinfo : viewRead w.h w.bufA w.bufN = some info) :
    performDerive w s = (s.touchKey w.h w.hKind w.vtHandle).newEntry w
      { shard := w.vtShard, keyType := w.keyType, usage := w.usage, expiry := childExpiry w.expiry k.expiry,
        material := Hash.hkdf .sha512 k.material (toLe 2 w.keyType ++ toLe 2 w.usage) (natsOf info)
          (createLen w.keyType) } := by
  have hfield : (!bitOf w.usage uExport || bitOf (k.usage.getD 0) uExport) = true := by
    rw [Bool.or_eq_true, Bool.not_eq_true']
    by_cases hc : bitOf w.usage uExport = true
    · exact .inr (hexp hc)
    · exact .inl (Bool.eq_false_iff.2 hc)
  unfold performDerive
  rw [chk_bind hchk, chk_bind hkey, chk_bind huse, chk_bind (needField_ok hfield), settleChk_pure, readOr_some hinfo]

/-! ## Entries replaced, freed and read -/

theorem performRotate_of_handle {i : Nat} {e : Entry} {r : Bs × State} {salt : Nat × State} (hr : r = s.drawKey e.keyType)
    (hsalt : salt = r.2.fresh 32) (hentry : s.checkHandle (s.tenantOf w.sq) w.vtHandle 8 = .ok (i, e))
    (hpriv : isPublicOnly e.keyType = false) :
    performRotate w s = (salt.2.adopt i e).tableWrite w
      { index := i, live := true, generation := nextGen e.generation, tenant := e.tenant, keyType := e.keyType,
        usage := e.usage, nonceSalt := salt.1, created := e.created, expiry := e.expiry, material := bytesOf r.1 }
      e.shard (handleOf i { e with generation := nextGen e.generation }) := by
  subst hsalt hr
  unfold performRotate
  rw [chk_bind hchk, chk_bind hentry]
  dsimp only
  rw [chk_bind (needField_ok (by rw [hpriv]; rfl)), settleChk_pure]

theorem performExportWrapped_of_keys {k e : KeyMat} {blob : Bs} (hblob : blob = blobOf k w.kek e.material)
    (hkey : s.keyOperand w.h (s.tenantOf w.sq) 0 w.vtHandle 8 0 = .ok k)
    (huse : checkTypeUse k 8 (fun t => !isPublicOnly t) [uExport] = .ok ())
    (hkek : s.keyOperand w.h (s.tenantOf w.sq) 0 w.kek 16 0 = .ok e)
    (hwrap : checkTypeUse e 16 (fun t => t == 6) [uWrap] = .ok ()) (hlen : blob.length ≤ w.bufN) :
    performExportWrapped w s = (((s.touchKey w.h 0 w.vtHandle).touchKey w.h 0 w.kek).hostOut w w.bufA (bytesOf blob)
      []).complete w stOk blob.length := by
  subst hblob
  unfold performExportWrapped
  rw [chk_bind hchk, chk_bind hkey, chk_bind huse, chk_bind hkek, chk_bind hwrap,
    chk_bind (needField_ok (decide_eq_true hlen)), settleChk_pure]

end

theorem needUnfenced_ok {s : State} {i : Nat} {e : Entry} (h : s.entryFenced i e = none) :
    s.needUnfenced i e = .ok () := by
  unfold State.needUnfenced
  rw [h]

theorem needEntry_ok {s : State} {i off : Nat} {e : Entry} (h : s.entryRead i = some e) :
    s.needEntry i off = .ok e := by
  unfold State.needEntry
  rw [h]

section

variable {s : State} {w : Work} {i : Nat} (hchk : s.vtChecks w = .ok ())
  (hindex : s.handleIndex (s.tenantOf w.sq) w.vtHandle 8 = .ok i) (hfence : s.entryFenced i (s.entry i) = none)
include hchk hindex hfence

theorem performDestroy_of_current {e : Entry} (he : e = s.entryClear i) (hcur : handleCurrent e w.vtHandle = true) :
    performDestroy w s = (s.adopt i e).tableWrite w
      { index := i, live := false, generation := (e.generation + 1) % 65536, tenant := 0, keyType := 0, usage := 0,
        nonceSalt := 0, created := 0, expiry := 0, material := [] } e.shard 0 := by
  subst he
  unfold performDestroy
  rw [chk_bind hchk, chk_bind hindex, chk_bind (needUnfenced_ok hfence), chk_bind (need_ok hcur), settleChk_pure]

/-- A lookup of an index gives generation 0, and reads whatever entry is there (R141). -/
theorem performQuery_of_entry {e : Entry} (hread : s.entryRead i = some e)
    (hcur : w.vtHandle / 2 ^ 24 % 2 ^ 16 = 0 ∨ handleCurrent e w.vtHandle = true) :
    performQuery w s = (s.hostOut w w.bufA (bytesOf (s.attrRecord (s.tenantOf w.sq) i
      (if e.live && e.tenant == s.tenantOf w.sq then some e else none))) []).complete w stOk 64 := by
  have hok : (w.vtHandle / 2 ^ 24 % 2 ^ 16 == 0 || handleCurrent e w.vtHandle) = true := by
    rw [Bool.or_eq_true, beq_iff_eq]
    exact hcur
  unfold performQuery
  rw [chk_bind hchk, chk_bind hindex, chk_bind (needUnfenced_ok hfence), chk_bind (needEntry_ok hread),
    chk_bind (need_ok hok), settleChk_pure]

end

/-! ## The table key and backup images -/

section

variable {s : State} {w : Work} (hchk : s.vtChecks w = .ok ())
include hchk

theorem performRewrapStart_of_checks {r : List Byte × State} (hr : r = s.freshBytes 32) {t : State}
    (ht : t = r.2.setVault { r.2.vault with
      keyId := (r.2.vault.keyId + 1) % 2 ^ 32, key := r.1, prev := some (r.2.vault.keyId, r.2.vault.key),
      sealedPrev := some (r.2.vault.keyId, r.2.vault.key), sweeping := true, fromZero := false })
    {u : State} (hu : u = ((t.sealRecord 1 t.vault.keyId t.vault.key).checkpoint 0).showSweep 0) :
    performRewrapStart w s = u.complete w stOk (b2n u.epochNow) := by
  subst hu ht hr
  unfold performRewrapStart
  rw [chk_bind hchk, settleChk_pure]

theorem performRewrapStatus_of_checks :
    performRewrapStatus w s = s.complete w stOk
      (s.rd .vtStatus_sweepNext % 2 ^ 25 + 2 ^ 25 * b2n s.vault.sweeping + 2 ^ 26 * b2n s.epochNow) := by
  unfold performRewrapStatus
  rw [chk_bind hchk, settleChk_pure]

theorem performBackupSeal_of_entries {r : Nat × State} (hr : r = s.fresh 521) {sig : Bs}
    (hsig : sig = Pk.ecdsaSign Pk.p521 s.identityKey (Hash.sha512 s.imageBody) (r.1 % (Pk.p521.n - 1) + 1))
    (hlen : s.imageBody.length + 132 ≤ w.bufN)
    (hfence : s.liveEntries.findSome? (fun e => s.entryFenced e.1 e.2) = none)
    (hbad : s.liveEntries.find? (fun e => s.entryBad e.1) = none) :
    performBackupSeal w s = (r.2.hostOut w w.bufA (bytesOf (s.imageBody ++ sig)) []).complete w stOk
      (s.imageBody.length + 132) := by
  subst hsig hr
  unfold performBackupSeal
  rw [chk_bind hchk, chk_bind (needField_ok (decide_eq_true hlen))]
  simp only [hfence, hbad, settleChk_pure]

/-- An image of this device whose signature verifies under its identity key and whose table key is held (R154). -/
theorem performBackupRestore_of_image {bs : List Byte} {img key : Bs} {t : State} {n : Nat} (himg : img = natsOf bs)
    (hresume : w.resume = none) (hbuf : 196 ≤ w.bufN) (hread : viewRead w.h w.bufA w.bufN = some bs)
    (hsig : Pk.ecdsaVerify Pk.p521 (Pk.ecPublic Pk.p521 s.identityKey) (Hash.sha512 (img.take (img.length - 132)))
      (img.drop (img.length - 132)) = true)
    (hversion : valLe (img.take 2) = 1) (hserial : valLe ((img.drop 8).take 8) = s.thm.serial)
    (hkey : s.imageKey (valLe ((img.drop 24).take 4)) = some key) {rs : List (Nat × Entry)}
    (hrs : rs = imageRecords key (valLe ((img.drop 4).take 4)) ((img.take (img.length - 132)).drop 64))
    (hall : s.restoreAll rs 0 = .ok (t, n)) (halone : rs.all (fun r => s.alone r.2.shard) = true) :
    performBackupRestore w s = t.complete w stOk n := by
  have hown : (valLe (img.take 2) == 1 && valLe ((img.drop 8).take 8) == s.thm.serial) = true := by
    rw [Bool.and_eq_true, beq_iff_eq, beq_iff_eq]
    exact ⟨hversion, hserial⟩
  subst hrs himg
  unfold performBackupRestore
  simp only [hresume]
  rw [chk_bind hchk, chk_bind (needField_ok (decide_eq_true hbuf)), settleChk_pure, readOr_some hread,
    chk_bind (need_ok hsig), chk_bind (need_ok hown)]
  simp only [hkey]
  rw [chk_bind hall]
  simp only [halone, if_true, settleChk_pure]

end

/-- Settles O27: each operation past its checks, with its key material drawn, read or derived. -/
theorem newEntries : Obligations.NewEntries := by
  refine ⟨fun s sq d h hd hchk => ?create, fun s sq d h k hd hchk hkey hsub hfits => ?importKey,
    fun s sq d h k info hd hchk hkey huse hexp hinfo => ?derive, fun s sq d h i e hd hchk hentry hpriv => ?rotate⟩
  case create => exact next_submit_of_performs hd (performCreate_of_checks hchk rfl)
  case importKey => exact next_submit_of_performs hd (performImport_of_key hchk rfl rfl rfl hkey hsub hfits)
  case derive => exact next_submit_of_performs hd (performDerive_of_parent hchk hkey huse hexp hinfo)
  case rotate => exact next_submit_of_performs hd (performRotate_of_handle hchk rfl rfl hentry hpriv)

/-- Settles O28: each operation past its checks, the entry's fences and what its handle must match. -/
theorem entriesRead : Obligations.EntriesRead := by
  refine ⟨fun s sq d h k e hd hchk hkey huse hkek hwrap hlen => ?wrapped,
    fun s sq d h i hd hchk hindex hfence hcur => ?destroy, fun s sq d h i e hd hchk hindex hfence hread hcur => ?query⟩
  case wrapped =>
    exact next_submit_of_performs hd (performExportWrapped_of_keys hchk rfl hkey huse hkek hwrap hlen)
  case destroy => exact next_submit_of_performs hd (performDestroy_of_current hchk hindex hfence rfl hcur)
  case query => exact next_submit_of_performs hd (performQuery_of_entry hchk hindex hfence hread hcur)

/-- Settles O30: each operation past its checks; every record of an image restored stands for a shard of this device. -/
theorem tableKeysAndBackup : Obligations.TableKeysAndBackup := by
  refine ⟨fun s sq d h hd hchk => ?start, fun s sq d h hd hchk => ?status,
    fun s sq d h hd hchk hlen hfence hbad => ?sealImage,
    fun s sq d h bs key t n hd hchk hbuf hread hsig hversion hserial hkey hall halone => ?restore⟩
  case start => exact next_submit_of_performs hd (performRewrapStart_of_checks hchk rfl rfl rfl)
  case status => exact next_submit_of_performs hd (performRewrapStatus_of_checks hchk)
  case sealImage => exact next_submit_of_performs hd (performBackupSeal_of_entries hchk rfl rfl hlen hfence hbad)
  case restore =>
    exact next_submit_of_performs hd (performBackupRestore_of_image hchk rfl rfl hbuf hread hsig hversion hserial hkey rfl
      hall halone)

end Sys2Proof.Machine
end

section
/-! PROOF. Sessions (R121, R122, R146-R148, R426): contexts opened, used, freed and handed to a member. -/

namespace Sys2Proof.Machine

open Sys2Proof

section

variable {s : State} {w : Work}

/-! ## OPEN -/

theorem performOpen_of_key {k : KeyMat} {nonce : List Byte} {i : Nat} {v : State} {chacha : Bool} {x : Sess}
    (hv : v = s.touchKey w.h w.seKind w.ref) (hchacha : chacha = (w.seAlg == 0x31))
    (hx : x = { isOpen := true, gen := (v.sess i).gen, tenant := s.tenantOf w.sq, chacha, opening := w.unseals,
                dataPhase := false, ended := false, nonce, key := bytesOf k.material, aad := [], text := [],
                source := k.source, migrating := none })
    (hbad : badOffset w.seChecks = none)
    (hquota : s.sessionsOf (s.tenantOf w.sq) < (s.quota (s.tenantOf w.sq)).sessions)
    (hkey : s.keyOperand w.h (s.tenantOf w.sq) w.seKind w.ref 8 0 = .ok k)
    (htype : checkTypeUse k 8 (fun t => if chacha then t == 5 else t == 1 || t == 2) [uSession] = .ok ())
    (huse : checkTypeUse k 8 (fun _ => true) [if w.unseals then uDecrypt else uEncrypt] = .ok ())
    (hnonce : viewRead w.h w.seAux 12 = some nonce) (hslot : v.slotFree k.source = true) (hctx : v.freeCtx = some i) :
    performOpen w s = (v.putSess i x).complete w stOk (sessRef i x) := by
  subst hx hchacha hv
  unfold performOpen
  rw [chk_bind (needFields_ok hbad), chk_bind (needQuota_ok (decide_eq_true hquota)), chk_bind hkey, chk_bind htype,
    chk_bind huse, settleChk_pure, readOr_some hnonce]
  simp only [hslot, if_true, hctx]

/-! ## UPDATE, FINAL, CLOSE -/

section

variable {i : Nat} (href : s.seRef w = .ok i) {x : Sess} (hx : x = s.sess i)
include href hx

section

variable {bs : List Byte} (hended : x.ended = false) (hin : viewRead w.h w.seIn w.seLen = some bs)
include hended hin

theorem performUpdate_of_aad (haad : w.isAad = true) (hphase : x.dataPhase = false) :
    performUpdate w s =
      (s.putSess i { x with aad := x.aad ++ bs, ended := !(w.seLen % 64 == 0) }).complete w stOk 0 := by
  subst hx
  have hmore : (!(s.sess i).ended && (w.isAad || decide ((s.sess i).text.length + w.seLen ≤ (s.sess i).most))) = true := by
    rw [hended, haad]; rfl
  have horder : (!(w.isAad && (s.sess i).dataPhase)) = true := by rw [hphase, Bool.and_false]; rfl
  unfold performUpdate
  rw [chk_bind href, chk_bind (needField_ok hmore), chk_bind (needField_ok horder), if_pos haad, settleChk_pure,
    readOr_some hin]

theorem performUpdate_of_data {out : List Byte} (hout : out = bytesOf (x.crypt (natsOf bs))) {y : Sess}
    (hy : y = { x with dataPhase := true, ended := !(w.seLen % 64 == 0),
                       text := x.text ++ (if x.opening then bs else out) })
    (haad : w.isAad = false) (hmost : x.text.length + w.seLen ≤ x.most) :
    performUpdate w s =
      ((s.putSess i y).hostOut w w.seOut out [(w.seIn, w.seLen)]).complete w stOk w.seLen := by
  subst hy hout hx
  have hmore : (!(s.sess i).ended && (w.isAad || decide ((s.sess i).text.length + w.seLen ≤ (s.sess i).most))) = true := by
    rw [hended, haad, decide_eq_true hmost]; rfl
  have horder : (!(w.isAad && (s.sess i).dataPhase)) = true := by rw [haad]; rfl
  unfold performUpdate
  rw [chk_bind href, chk_bind (needField_ok hmore), chk_bind (needField_ok horder),
    if_neg (Bool.eq_false_iff.1 haad), settleChk_pure, readOr_some hin]

end

theorem performFinal_of_sealing (hseal : x.opening = false) :
    performFinal w s = ((s.freeSess i).hostOut w w.seAux (bytesOf x.tag) []).complete w stOk 16 := by
  subst hx
  unfold performFinal
  rw [chk_bind href, if_neg (Bool.eq_false_iff.1 hseal), settleChk_pure]

theorem performFinal_of_opening {tag : List Byte} (hopen : x.opening = true)
    (htag : viewRead w.h w.seAux 16 = some tag) :
    performFinal w s = (s.freeSess i).complete w (if natsOf tag == x.tag then stOk else stVerifyFalse) 0 := by
  subst hx
  unfold performFinal
  rw [chk_bind href, if_pos hopen, settleChk_pure, readOr_some htag, completeIf_eq]

end

theorem performClose_of_ref {i : Nat} (href : s.seRef w = .ok i) :
    performClose w s = (s.freeSess i).complete w stOk 0 := by
  unfold performClose
  rw [chk_bind href, settleChk_pure]

/-! ## MIGRATE -/

section

variable {i : Nat} (href : s.seRef w = .ok i) (hjoined : s.joined = true)
include href hjoined

/-- To itself, or to a device that is no member: the session stays (R128). -/
theorem performMigrate_of_noMember (hpeer : w.toPeer = s.myId ∨ (s.peer w.toPeer).member = false) :
    performMigrate w s = s.complete w stMeshUnavailable (resultOf 0xFF 3 w.toPeer) := by
  have hno : (w.toPeer != s.myId && (s.peer w.toPeer).member) = false := by
    rw [Bool.and_eq_false_iff, bne_eq_false_iff_eq]
    exact hpeer
  have hstop : need (w.toPeer != s.myId && (s.peer w.toPeer).member) (fail stMeshUnavailable 0xFF 3 w.toPeer)
      = .error (fail stMeshUnavailable 0xFF 3 w.toPeer) := by
    rw [hno]; rfl
  unfold performMigrate
  rw [chk_bind href, chk_bind (need_ok hjoined), chk_bind_error hstop, settleChk_fail s w (by decide)]

/-- A member that is lost ends the session (R426); an open hand-off to it is waited for (log 37); else the context is handed
over in the next frame to it. -/
theorem performMigrate_of_member {v : State} (hv : v = s.moveWork w .running) {x : Sess}
    (hx : x = { s.sess i with migrating := some (w.sq, w.d.cid.toNat, w.toPeer, (v.peer w.toPeer).txSeq + 1) })
    (hself : w.toPeer ≠ s.myId) (hmember : (s.peer w.toPeer).member = true) :
    performMigrate w s =
      if (s.peer w.toPeer).lost then (s.freeSess i).complete w stMeshUnavailable (resultOf 0xFF 3 w.toPeer)
      else if (s.openHandoff w.toPeer).isSome then s.moveWork w .fenced
      else (v.putSess i x).sendTo w.toPeer 0 0 (.handoff (s.sess i).image) := by
  subst hx hv
  have hpeer : (w.toPeer != s.myId && (s.peer w.toPeer).member) = true := by
    rw [Bool.and_eq_true, bne_iff_ne]
    exact ⟨hself, hmember⟩
  unfold performMigrate
  rw [chk_bind href, chk_bind (need_ok hjoined), chk_bind (need_ok hpeer)]
  simp only [apply_ite (s.settleChk w), settleChk_pure]

end

end

/-- Settles O31: each operation past its checks, UPDATE and FINAL by what they carry, MIGRATE by what its peer is. -/
theorem sessions : Obligations.Sessions := by
  refine ⟨fun s sq d h k nonce i hd hbad hquota hkey htype huse hnonce hslot hctx => ?opens,
    fun s sq d h i bs hd href hended hin => ⟨fun haad hphase => ?aad, fun haad hmost => ?data⟩,
    fun s sq d h i hd href => ⟨fun hseal => ?sealed, fun tag hopen htag => ?opened⟩,
    fun s sq d h i hd href => ?close, fun s sq d h i => ?migrate⟩
  case opens =>
    exact next_submit_of_performs hd
      (performOpen_of_key rfl rfl rfl hbad hquota hkey htype huse hnonce hslot hctx)
  case aad => exact next_submit_of_performs hd (performUpdate_of_aad href rfl hended hin haad hphase)
  case data => exact next_submit_of_performs hd (performUpdate_of_data href rfl hended hin rfl rfl haad hmost)
  case sealed => exact next_submit_of_performs hd (performFinal_of_sealing href rfl hseal)
  case opened => exact next_submit_of_performs hd (performFinal_of_opening href rfl hopen htag)
  case close => exact next_submit_of_performs hd (performClose_of_ref href)
  case migrate =>
    intro w u p hd href hjoined
    refine ⟨fun hpeer => ?noMember, fun hself hmember hlost => ?lost, fun hself hmember hlost hopen => ?waits,
      fun hself hmember hlost hopen => ?live⟩
    case noMember => exact next_submit_of_performs hd (performMigrate_of_noMember href hjoined hpeer)
    all_goals
      refine next_submit_of_performs hd ((performMigrate_of_member href hjoined rfl rfl hself hmember).trans ?_)
    case lost => exact if_pos hlost
    case waits => exact (if_neg (Bool.eq_false_iff.1 hlost)).trans (if_pos hopen)
    case live => exact (if_neg (Bool.eq_false_iff.1 hlost)).trans (if_neg (Option.not_isSome_iff_eq_none.2 hopen))

end Sys2Proof.Machine
end

section
/-! PROOF. What the use of a key leaves alone: a read of its entry through the cache region may report, write a line back and
fill another (R133, R145, R336), and none of this reaches the Thimble's programs. -/

namespace Sys2Proof.Machine

open Sys2Proof

section

variable (s : State)

/-! ## Reports -/

@[simp] theorem hostWrite_thm (fn a : Nat) (bs : List Byte) : (s.hostWrite fn a bs).thm = s.thm := by
  unfold State.hostWrite State.post
  split <;> rfl

@[simp] theorem hostRead_thm (fn a n : Nat) : (s.hostRead fn a n).thm = s.thm := by
  unfold State.hostRead
  split <;> rfl

@[simp] theorem setPba_thm (fn v : Nat) (b : Bool) : (s.setPba fn v b).thm = s.thm := by
  unfold State.setPba
  split <;> rfl

@[simp] theorem signal_thm (fn v : Nat) : (s.signal fn v).thm = s.thm := by
  obtain h | h | ⟨a, d, h⟩ := signal_cases s fn v <;> simp [h]

@[simp] theorem errPut_thm (g : ErrRing) (r : ErrRec) : (s.errPut g r).thm = s.thm := by
  unfold State.errPut
  rw [apply_ite State.thm]
  simp only [signal_thm, ite_self, setErr_thm, hostWrite_thm]

@[simp] theorem errEmit_thm (r : ErrRec) : (s.errEmit r).thm = s.thm := by
  unfold State.errEmit
  dsimp only
  split
  · split
    · split <;> simp
    · simp
  · simp

@[simp] theorem closeWindow_thm (w : ErrWindow) : (s.closeWindow w).thm = s.thm := by
  unfold State.closeWindow
  dsimp only
  split <;> simp

@[simp] theorem coalesce_thm (p : Report) : (s.coalesce p).thm = s.thm := by
  unfold State.coalesce
  split
  · rfl
  · rw [setErr_thm]
    split
    · split <;> simp
    · rfl

@[simp] theorem report_thm (origin cls severity detail reporter : Nat) :
    (s.report origin cls severity detail reporter).thm = s.thm := by
  unfold State.report
  dsimp only
  split
  · rw [coalesce_thm]
  · split <;> rfl

/-! ## Reads through the cache region -/

@[simp] theorem ddrMet_thm (a reporter : Nat) : (s.ddrMet a reporter).thm = s.thm := report_thm s ..

@[simp] theorem writeBackLine_thm (x : CacheLine) : (s.writeBackLine x).thm = s.thm := by
  unfold State.writeBackLine
  split
  · split <;> rfl
  · rfl

@[simp] theorem setWay_thm (t w : Nat) (x : Option CacheLine) : (s.setWay t w x).thm = s.thm := rfl

@[simp] theorem touchWay_thm (t w : Nat) : (s.touchWay t w).thm = s.thm := rfl

@[simp] theorem evict_thm (t w : Nat) : (s.evict t w).thm = s.thm := by
  unfold State.evict
  split <;> simp

@[simp] theorem cachePut_thm (x : CacheLine) : (s.cachePut x).thm = s.thm := by
  unfold State.cachePut
  dsimp only
  rw [touchWay_thm, setWay_thm]
  split
  · split <;> simp
  · rfl

@[simp] theorem cacheFill_thm (reporter l : Nat) : (s.cacheFill reporter l).2.thm = s.thm := by
  unfold State.cacheFill
  split
  · rfl
  split
  · rfl
  split
  · rfl
  split
  · exact ddrMet_thm s _ _
  · exact cachePut_thm s _

@[simp] theorem ddrRead_thm (reporter a n : Nat) : (s.ddrRead reporter a n).2.2.thm = s.thm := by
  unfold State.ddrRead
  split
  · rfl
  split
  · rfl
  split
  · rfl
  split
  · exact ddrMet_thm s _ _
  · rfl

@[simp] theorem cacheRead_thm (reporter a n : Nat) : (s.cacheRead reporter a n).2.2.thm = s.thm := by
  unfold State.cacheRead
  split
  · exact ddrRead_thm s _ _ _
  split
  · rfl
  have filled : ((linesOf a n).foldl (fun (r : Resp × State) l =>
      if r.1 = .ok then r.2.cacheFill reporter l else r) (Resp.ok, s)).2.thm = s.thm := by
    refine List.foldlRecOn (motive := fun r : Resp × State => r.2.thm = s.thm) _ _ rfl fun r hr l _ => ?_
    split
    · exact (cacheFill_thm r.2 reporter l).trans hr
    · exact hr
  dsimp only
  split <;> exact filled

/-! ## The hot-entry cache -/

@[simp] theorem useLineBank_thm (l : Nat) : (s.useLineBank l).thm = s.thm := by
  unfold State.useLineBank
  dsimp only
  split <;> rfl

@[simp] theorem vaultRead_thm (ls : List Nat) : (s.vaultRead ls).thm = s.thm :=
  List.foldlRecOn (motive := fun t : State => t.thm = s.thm) _ _ rfl fun t ht l _ =>
    (cacheRead_thm (t.useLineBank l) _ _ _).trans ((useLineBank_thm t l).trans ht)

@[simp] theorem fresh_thm (n : Nat) : (s.fresh n).2.thm = s.thm := rfl

@[simp] theorem count_thm (f : Fld) (i n : Nat) : (s.count f i n).thm = s.thm := rfl

@[simp] theorem uncache_thm (i : Nat) : (s.uncache i).thm = s.thm := rfl

end

@[simp] theorem trimHot_thm (keep n : Nat) (s : State) : (State.trimHot keep n s).thm = s.thm := by
  induction n generalizing s with
  | zero => rfl
  | succ n ih =>
    unfold State.trimHot
    dsimp only
    split
    · rfl
    · rw [ih, uncache_thm, fresh_thm]

@[simp] theorem touchEntry_thm (s : State) (i : Nat) : (s.touchEntry i).thm = s.thm := by
  unfold State.touchEntry
  split
  · rw [count_thm]
  · rw [trimHot_thm, count_thm, setVault_thm, vaultRead_thm]

@[simp] theorem touchKey_thm (s : State) (h : HostView) (kind value : Nat) : (s.touchKey h kind value).thm = s.thm := by
  unfold State.touchKey
  split
  · exact touchEntry_thm s _
  split
  · split
    · exact touchEntry_thm s _
    · rfl
  · rfl

/-- The programs stay as they are loaded. -/
@[simp] theorem touchKey_prog (s : State) (h : HostView) (kind value p : Nat) :
    (s.touchKey h kind value).prog p = s.prog p := by
  unfold State.prog
  rw [touchKey_thm]

end Sys2Proof.Machine
end

section
/-! PROOF. Tenant programs (R123, R464, R465): images loaded, invoked and unloaded. -/

namespace Sys2Proof.Machine

open Sys2Proof

/-! ## LOAD -/

section

variable {s v : State} {w : Work} {hd img : List Byte} {i place n kind : Nat} {k : KeyMat}
  (hv : v = s.touchKey w.h kind (w.f 16 8)) (hn : n = w.f 24 4) (hkind : kind = w.f 28 1)
  (hbad : badOffset (w.header ++ [(24, decide (256 ≤ n ∧ n ≤ 540672)), (28, kind == 0 || kind == 2),
    (29, w.f 29 35 == 0)]) = none)
  (hread : dmaRead w.h (w.f 8 8) 256 = .ok hd) (hok : progHeaderOk hd n = true)
  (hquota : (s.thm.progs.filter (fun p => p.2.live && p.2.tenant == s.tenantOf w.sq)).length
    < (s.quota (s.tenantOf w.sq)).programs)
  (hslot : s.freeSlot n = some (i, place))
  (hkey : s.keyOperand w.h (s.tenantOf w.sq) kind (w.f 16 8) 16 0 = .ok k)
  (huse : checkTypeUse k 16 isEc [uSigner] = .ok ()) (hfor : leAt hd 6 2 = s.tenantOf w.sq ∨ leAt hd 6 2 = 0xFFFF)
  (himg : viewRead w.h (w.f 8 8) n = some img)
include hv hn hkind hbad hread hok hquota hslot hkey huse hfor himg

/-- An image for the tenant, or for any (R464), takes the slot and its place where its signature verifies. -/
theorem performLoad_of_image {p : Prog}
    (hp : p = { live := true, gen := (v.prog i).gen, tenant := s.tenantOf w.sq, entries := progEntries hd,
                code := sub img 256 (progCode hd), rodata := sub img (256 + progCode hd) (progRo hd),
                data := img.drop (256 + progCode hd + progRo hd), place }) :
    performLoad w s =
      if progSigned k (natsOf img) then
        (v.fencedUnit (v.progAt p) n).elim
          (((v.cacheWrite repThimble (v.progAt p) img).2.setProg i p).complete w stOk (i + 256 * p.gen))
          (fun u => v.complete w stResourceRetired (resultOf 0xFF 1 u))
      else v.complete w stVerifyFalse 0 := by
  subst hp hv hn hkind
  have hany : (leAt hd 6 2 == s.tenantOf w.sq || leAt hd 6 2 == 0xFFFF) = true := by
    rw [Bool.or_eq_true, beq_iff_eq, beq_iff_eq]
    exact hfor
  unfold performLoad
  rw [chk_bind (needFields_ok hbad), chk_bind hread, chk_bind (needField_ok hok)]
  simp only [if_pos hquota, hslot]
  rw [chk_bind hkey, chk_bind huse, chk_bind (need_ok hany), settleChk_pure, readOr_some himg]
  split
  case isTrue => split <;> next hfence => rw [hfence]; rfl
  case isFalse => rfl

end

/-! ## INVOKE -/

section

variable {s v : State} {w : Work} {inp img : List Byte} {p e : Nat}
  (hv : v = (s.touchKey w.h (w.f 11 1 % 4) (w.f 40 8)).touchKey w.h (w.f 11 1 / 4 % 4) (w.f 48 8))
  (hchk : s.invokeChecks w = .ok (p, e)) (hprog : s.progRead (s.prog p) = .ok img)
  (hin : viewRead w.h (w.f 16 8) (w.f 32 4) = some inp)
include hv hchk hprog hin

theorem performInvoke_of_ended {ret : W32} {out got : List Byte} (hfin : w.fin = .ok ret out)
    (hgot : got = out.take (w.f 36 4)) :
    performInvoke w s = (v.hostOut w (w.f 24 8) got ((w.f 16 8, w.f 32 4)
      :: keyBuf w.h (w.f 11 1 % 4) (w.f 40 8) 0 ++ keyBuf w.h (w.f 11 1 / 4 % 4) (w.f 48 8) 0)).complete w stOk
        (got.length + 2 ^ 32 * ret.toNat) := by
  subst hgot hv
  have hgo : ¬(w.fin = .running ∧ s.idleNeedle = none) := by simp [hfin]
  unfold performInvoke
  rw [chk_bind hchk]
  dsimp only
  rw [if_neg hgo, chk_bind hprog, settleChk_pure, readOr_some hin]
  simp only [hfin]

theorem performInvoke_of_running {n : Nat} (hfin : w.fin = .running) (hidle : s.idleNeedle = some n) :
    performInvoke w s = (v.moveWork w .running).startProg n (s.prog p) img e
      { sq := w.sq, cid := w.d.cid.toNat, tenant := s.tenantOf w.sq,
        bufs := [(w.f 16 8, w.f 32 4), (w.f 24 8, w.f 36 4)], out := (w.f 24 8, w.f 36 4), flt := none } := by
  subst hv
  have hgo : ¬(w.fin = .running ∧ s.idleNeedle = none) := by simp [hidle]
  unfold performInvoke
  rw [chk_bind hchk]
  dsimp only
  rw [if_neg hgo, chk_bind hprog, settleChk_pure, readOr_some hin]
  simp only [hfin, hidle, Option.getD_some, touchKey_prog]

end

/-! ## UNLOAD -/

theorem performUnload_of_ref {s : State} {w : Work} {i g : Nat} (hg : g = (s.prog i).gen)
    (hbad : badOffset (w.header ++ [(10, w.f 10 54 == 0)]) = none) (href : s.progRef w = .ok i) :
    performUnload w s =
      (s.setProg i { progDefault i with gen := if g ≥ 255 then 1 else g + 1 }).complete w stOk 0 := by
  subst hg
  unfold performUnload
  rw [chk_bind (needFields_ok hbad), chk_bind href, settleChk_pure]

/-- As `next_submit_of_performs`, of an invocation that brings its own end. -/
theorem next_submit_fin_of_performs {s t : State} {op sq : Nat} {d : Desc} {h : HostView} {fin : InvokeEnd}
    (hd : (s.withWork (workOf op sq d h fin)).Dispatches (workOf op sq d h fin))
    (hp : performByOpcode (workOf op sq d h fin) (s.withWork (workOf op sq d h fin)) = t) :
    (.next (s.submit op sq d h fin false).settle : Host.Outcome State Fault Refusal) = .next t.settle := by
  rw [submit_of_dispatches hd, hp]

/-- Settles O32: LOAD by whether the image's signature verifies, INVOKE by how it ends. -/
theorem programs : Obligations.Programs := by
  refine ⟨fun s sq d h hd img i place k => ?load, fun s sq d h ret out inp img p e hd hchk hprog hin => ?ended,
    fun s sq d h inp img p e n hd hchk hidle hprog hin => ?running, fun s sq d h i hd hbad href => ?unload⟩
  case load =>
    intro w u tenant n kind v hdisp hbad hread hok hquota hslot hkey huse hfor himg
    have loads := performLoad_of_image (s := u) (w := w) rfl rfl rfl hbad hread hok hquota hslot hkey huse hfor himg rfl
    refine ⟨fun hsig => ?signed, fun hsig => ?unsigned⟩
    case signed =>
      intro p hfence
      exact next_submit_of_performs hdisp (loads.trans ((if_pos hsig).trans (congrArg (Option.elim · _ _) hfence)))
    case unsigned => exact next_submit_of_performs hdisp (loads.trans (if_neg (Bool.eq_false_iff.1 hsig)))
  case ended => exact next_submit_fin_of_performs hd (performInvoke_of_ended rfl hchk hprog hin rfl rfl)
  case running => exact next_submit_of_performs hd (performInvoke_of_running rfl hchk hprog hin rfl hidle)
  case unload => exact next_submit_of_performs hd (performUnload_of_ref rfl hbad href)

end Sys2Proof.Machine
end

section
/-! PROOF. The mesh (R126, R413, R414, R417-R424): the administrative operations past their checks, and frames that act. -/

namespace Sys2Proof.Machine

open Sys2Proof

section

variable {s : State} {w : Work}

/-! ## JOIN and LEAVE -/

theorem performJoin_of_peers {n : Nat} {ids : List Nat} {bs : List Byte} {v : State} {j : Joining} (hn : n = w.a 2)
    (hids : ids = idList bs n) (hv : v = (s.moveWork w .running).wr .svMeshState_deviceId 0 (w.a 0))
    (hj : j = { peers := ids.eraseDups, answered := [], members := [], firstAt := none, work := (w.sq, w.d.cid.toNat) })
    (hchk : s.admChecks w [(24, decide (1 ≤ n ∧ n ≤ 1023)), (0xFF, !s.joined)] = .ok ())
    (hidle : s.mesh.joining = none) (hread : viewRead w.h (w.a 1) (2 * n) = some bs) (hsmall : ∀ i ∈ ids, i < 1024) :
    performJoin w s = j.peers.foldl (fun s p =>
      (s.setPeer p { s.peer p with joining := true }).sendJoin p (.membership (.join j.peers s.shardDigest)))
        (v.setMesh { v.mesh with joining := some j }) := by
  subst hj hv hids hn
  have hfree : ¬s.mesh.joining.isSome = true := Option.not_isSome_iff_eq_none.2 hidle
  have hnone : ¬(idList bs (w.a 2)).any (fun d => decide (d ≥ 1024)) = true := by
    rw [List.any_eq_true]
    rintro ⟨i, hi, hbig⟩
    have := hsmall i hi
    have := of_decide_eq_true hbig
    omega
  unfold performJoin
  rw [chk_bind hchk, if_neg hfree, settleChk_pure, readOr_some hread, if_neg hnone]

theorem performLeave_of_settled (hchk : s.admChecks w [] = .ok ())
    (hidle : bitOf (w.a 0) 0 = false ∨ s.pendsAsPrimary = false) :
    performLeave w s = s.endMeshWork.leaveMesh.complete w stOk 0 := by
  have hgo : ¬(bitOf (w.a 0) 0 && s.pendsAsPrimary) = true := by
    rw [Bool.not_eq_true, Bool.and_eq_false_iff]
    exact hidle
  unfold performLeave
  rw [chk_bind hchk, if_neg hgo, settleChk_pure]

/-! ## SHARD_CONFIG -/

/-- The configuration taken and sent to every other replica, the first live one claims (R419). -/
theorem performShardConfig_of_members {bs : List Byte} {sh n k : Nat} {ids : List Nat} {c : ShardConf} {t v : State}
    (hsh : sh = w.a 0) (hn : n = w.ab 1 0 4) (hk : k = w.ab 1 8 4) (hids : ids = idList bs n)
    (hc : c = { shard := sh, replicas := ids, k, epoch := s.rd .svShard_epoch sh, primary := s.rd .svShard_primary sh })
    (ht : t = (s.moveWork w .running).takeConfig s.myId c)
    (hv : v = (ids.filter (fun p => p != t.myId)).foldl (fun s p => s.sendTo p sh c.epoch (.membership (.config c))) t)
    (hchk : s.admChecks w [(16, decide (1 ≤ n ∧ n ≤ 8 ∧ 1 ≤ k ∧ k ≤ n))] = .ok ())
    (hread : viewRead w.h (w.a 2) (2 * n) = some bs) (hsmall : ∀ i ∈ ids, i < 1024) (hdup : ids.eraseDups.length = n)
    (hmembers : ids.find? (fun p => p != s.myId && !(s.peer p).member) = none)
    (hclaim : (s.shard sh).claiming.bind (·.work) = none) :
    performShardConfig w s =
      if ids.find? v.liveMember = some v.myId then v.startClaim sh (c.epoch + 1) (some (w.sq, w.d.cid.toNat))
      else v.setMesh { v.mesh with confs := v.mesh.confs ++ [(sh, c.epoch, w.sq, w.d.cid.toNat)] } := by
  subst hv ht hc hids hk hn hsh
  have hlist : ((idList bs (w.ab 1 0 4)).all (fun d => decide (d < 1024))
      && (idList bs (w.ab 1 0 4)).eraseDups.length == w.ab 1 0 4) = true := by
    rw [Bool.and_eq_true, List.all_eq_true, beq_iff_eq]
    exact ⟨fun i hi => decide_eq_true (hsmall i hi), hdup⟩
  have hfree : ¬((s.shard (w.a 0)).claiming.bind (·.work)).isSome = true := Option.not_isSome_iff_eq_none.2 hclaim
  unfold performShardConfig
  rw [chk_bind hchk, settleChk_pure, readOr_some hread, chk_bind (needField_ok hlist)]
  simp only [hmembers]
  rw [if_neg hfree]
  simp only [apply_ite (s.settleChk w), settleChk_pure]

/-! ## MEMBER_QUERY and TAKEOVER -/

theorem performMemberQuery_of_checks {ids : List Nat}
    (hids : ids = ((List.range 1024).filter (fun p => p == s.myId || (s.peer p).member || (s.peer p).joining)).take 1024)
    (hchk : s.admChecks w [] = .ok ()) :
    performMemberQuery w s =
      (s.hostOut w (w.a 0) (bytesOf ((ids.map s.memberRec).flatten)) []).complete w stOk ids.length := by
  unfold performMemberQuery
  rw [chk_bind hchk, settleChk_pure, hids]

section

variable {sh e : Nat} (hsh : sh = w.a 0) (he : e = s.rd .svShard_epoch sh)
  (hchk : s.admChecks w [(8, (s.replicasOf sh).contains s.myId)] = .ok ())
include hsh he hchk

theorem performTakeover_of_primary (hrole : s.rd .svShard_role sh = 1) : performTakeover w s = s.complete w stOk e := by
  subst he hsh
  unfold performTakeover
  rw [chk_bind hchk, if_pos (beq_iff_eq.2 hrole), settleChk_pure]

theorem performTakeover_of_other (hrole : s.rd .svShard_role sh ≠ 1) (hload : s.shardReloading sh = false)
    (hclaim : (s.shard sh).claiming = none) :
    performTakeover w s = (s.moveWork w .running).startClaim sh (e + 1) (some (w.sq, w.d.cid.toNat)) := by
  subst he hsh
  have hother : ¬(s.rd .svShard_role (w.a 0) == 1) = true := fun h => hrole (beq_iff_eq.1 h)
  unfold performTakeover
  rw [chk_bind hchk, if_neg hother, if_neg (Bool.eq_false_iff.1 hload),
    if_neg (Option.not_isSome_iff_eq_none.2 hclaim), settleChk_pure]

end

end

/-! ## Frames -/

/-- A valid frame without a sequence of its own makes its path live and releases what its ack covers (R413, R414, R418). -/
theorem heard_of_frameOk {s : State} {f : FrameHdr} {b : MeshBody} (hok : s.frameOk f b = true) :
    s.heard f b = (s.hear f b).takeAck f.src f.ack := if_pos hok

/-- A valid reliable frame that is the next of its pair, of either beginning, acts (R414). -/
theorem arrive_of_next {s r t u : State} {f : FrameHdr} {b : MeshBody} (act : State → State) (hr : r = s.renew f b)
    (ht : t = (r.hear f b).takeAck f.src f.ack)
    (hu : u = t.setPeer f.src { t.peer f.src with rxSeq := f.seq, ackOwed := true })
    (hok : r.frameOk f b = true) (hseq : f.seq = (t.peer f.src).rxSeq + 1) : s.arrive f b act = act u := by
  subst hu ht hr
  have hvalid : ¬(!(s.renew f b).frameOk f b) = true := by rw [hok]; decide
  unfold State.arrive State.receive
  rw [if_neg hvalid]
  exact if_pos hseq

/-- Settles O33: the operations past their checks, and each class of frame that is heard or arrives next. -/
theorem meshAdmin : Obligations.MeshAdmin := by
  refine ⟨fun s sq d h bs hd hchk hidle hread hsmall => ?join, fun s sq d h hd hchk hidle => ?leave,
    fun s sq d h bs => ?config, fun s sq d h hd hchk => ?query,
    fun s sq d h hd hchk => ⟨fun hrole => ?primary, fun hrole hload hclaim => ?claims⟩, fun s f b hok => ?heard,
    fun s f b => ?arrives⟩
  case join => exact next_submit_of_performs hd (performJoin_of_peers rfl rfl rfl rfl hchk hidle hread hsmall)
  case leave => exact next_submit_of_performs hd (performLeave_of_settled hchk hidle)
  case config =>
    intro w u sh n k ids c t v hd hchk hread hsmall hdup hmembers hclaim
    have configured := performShardConfig_of_members (s := u) (w := w) rfl rfl rfl rfl rfl rfl rfl hchk hread hsmall hdup
      hmembers hclaim
    refine ⟨fun hfirst => ?first, fun hother => ?other⟩
    case first => exact next_submit_of_performs hd (configured.trans (if_pos hfirst))
    case other => exact next_submit_of_performs hd (configured.trans (if_neg hother))
  case query => exact next_submit_of_performs hd (performMemberQuery_of_checks rfl hchk)
  case primary => exact next_submit_of_performs hd (performTakeover_of_primary rfl rfl hchk hrole)
  case claims => exact next_submit_of_performs hd (performTakeover_of_other rfl rfl hchk hrole hload hclaim)
  case heard =>
    refine ⟨fun time ports hb => ?_, fun hb => ?_⟩
    all_goals
      subst hb
      exact congrArg (fun t : State => Host.Outcome.next t.settle) (heard_of_frameOk hok)
  case arrives =>
    intro r t u hok hseq
    have acts : ∀ act : State → State, s.arrive f b act = act u := fun act => arrive_of_next act rfl rfl rfl hok hseq
    refine ⟨fun x hb => ?_, fun x hb => ?_, fun x e hb => ?_, fun x hb => ?_, fun x hb => ?_, fun x e hb => ?_,
      fun x hb => ?_, fun x hb => ?_, fun x hb => ?_⟩
    all_goals
      subst hb
      exact congrArg (fun t : State => Host.Outcome.next t.settle) (acts _)

end Sys2Proof.Machine
end

section
/-! PROOF. Stream descriptors (R103, R104, R106, R145, R179): one whose vectors, key and fences are in order joins its ring's
admission. -/

namespace Sys2Proof.Machine

open Sys2Proof

section

variable {s : State} {w : Work} {key : Nat × Nat} {vecs : Chk Strm} {whole : Strm → Chk Strm} {v x : Strm}
  (hvecs : vecs = .ok v) (hwhole : whole v = .ok x)
  (hfence : s.checkFences x.src x.dst0 x.dst1 x.length x.sideBytes = .ok ())
include hvecs hwhole hfence

/-- A stream descriptor past its checks: its key is used, and it waits in its ring's admission queue. -/
theorem startStream_of_checks :
    s.startStream w key vecs whole = ((s.touchStrm w.h x key).moveWork w .running).enqueueStrm x := by
  simp only [State.startStream, hvecs, hwhole, hfence]

/-- A chain without a cipher stage uses no key. -/
theorem startStream_of_noKey (hks : x.ks = none) :
    s.startStream w key vecs whole = (s.moveWork w .running).enqueueStrm x := by
  have untouched : s.touchStrm w.h x key = s := by
    simp only [State.touchStrm, hks, Option.isSome_none, Bool.false_eq_true, if_false]
  rw [startStream_of_checks hvecs hwhole hfence, untouched]

theorem startStream_of_key (hks : x.ks ≠ none) :
    s.startStream w key vecs whole = ((s.touchKey w.h key.1 key.2).moveWork w .running).enqueueStrm x := by
  have touched : s.touchStrm w.h x key = s.touchKey w.h key.1 key.2 := if_pos (Option.isSome_iff_ne_none.2 hks)
  rw [startStream_of_checks hvecs hwhole hfence, touched]

end

/-- Settles O36: both forms start a stream, with a key's use or without. -/
theorem streamDescriptors : Obligations.StreamDescriptors := by
  refine ⟨fun s sq d h v x hd hvecs hstrm hfence => ⟨fun hks => ?inlineNoKey, fun hks => ?inlineKey⟩,
    fun s sq d h v x hd hvecs hstrm hfence => ⟨fun hks => ?blockNoKey, fun hks => ?blockKey⟩⟩
  case inlineNoKey => exact next_submit_of_performs hd (startStream_of_noKey hvecs hstrm hfence hks)
  case inlineKey => exact next_submit_of_performs hd (startStream_of_key hvecs hstrm hfence hks)
  case blockNoKey => exact next_submit_of_performs hd (startStream_of_noKey hvecs hstrm hfence hks)
  case blockKey => exact next_submit_of_performs hd (startStream_of_key hvecs hstrm hfence hks)

end Sys2Proof.Machine
end

section
/-! PROOF. The table engine's own work (R150-R152, R155, R156, R344): each command in the states in which it acts. -/

namespace Sys2Proof.Machine

open Sys2Proof

section

variable {s : State}

/-! ## The sweep (R150-R152) -/

section

variable (hsweep : s.vault.sweeping = true) (hready : s.isReady readyVault = true)
  (hmaint : s.flag .boltMode_maint = false)
include hsweep hready hmaint

theorem sweep_unheld : ¬(!s.vault.sweeping || !s.isReady readyVault || s.flag .boltMode_maint) = true := by
  rw [hsweep, hready, hmaint]; decide

variable {i : Nat} (hi : s.rd .vtStatus_sweepNext = i)
include hi

/-- Past the last index the sweep ends. -/
theorem actRewrapSweepStep_of_ended (hend : s.tableSize ≤ i) : actRewrapSweepStep s = .next s.sweepEnd := by
  subst hi
  exact (if_neg (sweep_unheld hsweep hready hmaint)).trans (if_pos hend)

/-- A visit between checkpoints, which stand at every 4,096th index (R151), and before the table's end. The SPI NOR
mirror is written with every 256th checkpoint alone. -/
theorem actRewrapSweepStep_of_visit (hlt : i < s.tableSize)
    (hmore : i + 1 < ((s.rewrap i).showSweep (i + 1)).tableSize) (hckpt : (i + 1) % 4096 ≠ 0) :
    actRewrapSweepStep s = .next ((s.rewrap i).showSweep (i + 1)) := by
  subst hi
  have hmirror : (s.rd .vtStatus_sweepNext + 1) % 1048576 ≠ 0 := by omega
  unfold actRewrapSweepStep
  simp only [if_neg (sweep_unheld hsweep hready hmaint), if_neg (not_le.2 hlt), if_neg hckpt, if_neg hmirror,
    if_neg (not_le.2 hmore)]

end

/-! ## The free list, the mirror, the vault region -/

/-- With no sweep to resume, VAULT_TABLE sets and the sweep's place is shown as it stood (R155, R156). -/
theorem actFreeListRebuildDone_of_idle {t v : State}
    (ht : t = ((s.setVault { s.vault with rebuilding := false }).setReady readyVault true).noteLive)
    (hv : v = t.showSweep (t.rd .vtStatus_sweepNext)) (hrebuild : s.vault.rebuilding = true)
    (hcond : s.tableCond = true) (hidle : t.vault.sweeping = false) :
    actFreeListRebuildDone s = .next (v.setVault { v.vault with fromZero := false }) := by
  subst hv ht
  have hgo : ¬(!s.vault.rebuilding || !s.tableCond) = true := by rw [hrebuild, hcond]; decide
  unfold actFreeListRebuildDone
  simp only [if_neg hgo, hidle, Bool.false_and, Bool.false_eq_true, if_false]

/-- A mirror that no Tack generation waits for (R358, R360). -/
theorem actCheckpointMirrorDone_of_unasked (hmirror : s.vault.mirroring = true)
    (hgen : s.mirrorNow.tack.ckptGen = none) :
    actCheckpointMirrorDone s = .next (s.mirrorNow.setVault { s.mirrorNow.vault with mirroring := false }) := by
  have hgo : ¬(!s.vault.mirroring) = true := by rw [hmirror]; decide
  unfold actCheckpointMirrorDone
  simp only [if_neg hgo, setVault_tack, hgen]

/-- With debug closed, BOLT_VAULT stays as the readback leaves it (R344, R470). -/
theorem actVaultReadbackDone_of_closed {nonZero : List (Nat × Nat)} (hwipe : s.bolt.wiping = true)
    (hready : s.isReady (readyTier 0) = true) (hdebug : (s.vaultReadback nonZero).debugOpen = false) :
    actVaultReadbackDone nonZero s = .next (s.vaultReadback nonZero).placeKeys := by
  have hgo : ¬(!s.bolt.wiping || !s.isReady (readyTier 0)) = true := by rw [hwipe, hready]; decide
  unfold actVaultReadbackDone
  simp only [if_neg hgo, hdebug, Bool.false_eq_true, if_false]

end

/-- Settles O40: each command does what its conditions let it do, then what the block does by itself. -/
theorem tableEngine : Obligations.TableEngine := by
  refine ⟨fun s hsweep hready hmaint => ⟨fun hend => ?ends, fun hlt hmore hckpt => ?visits⟩,
    fun s hrebuild hcond _ hidle => ?rebuilt, fun s hmirror hgen => ?mirrored,
    fun s nonZero hwipe hready hdebug => ?readBack⟩
  case ends => exact congrArg settled (actRewrapSweepStep_of_ended hsweep hready hmaint rfl hend)
  case visits => exact congrArg settled (actRewrapSweepStep_of_visit hsweep hready hmaint rfl hlt hmore hckpt)
  case rebuilt => exact congrArg settled (actFreeListRebuildDone_of_idle rfl rfl hrebuild hcond hidle)
  case mirrored => exact congrArg settled (actCheckpointMirrorDone_of_unasked hmirror hgen)
  case readBack => exact congrArg settled (actVaultReadbackDone_of_closed hwipe hready hdebug)

end Sys2Proof.Machine
end

section
/-! PROOF. The control of a Needle (R147, R301, R318, R320, R321): engine reset, mode bits, gated blocks, lockup
clear. -/

namespace Sys2Proof.Machine

open Sys2Proof

section

variable {s : State} {n : Nat}

section

variable (hn : n < 64)
include hn

theorem actNdlEngineReset_of_clocked (hgate : s.gateOff n = false) :
    actNdlEngineReset n s = .next (((s.dropSessions 6).ndlEngineReset n).noteCluster n) :=
  (if_neg (not_le.2 hn)).trans (if_neg (Bool.eq_false_iff.1 hgate))

theorem actNdlEngineReset_of_gated (hgate : s.gateOff n = true) : actNdlEngineReset n s = .next s.touchGated :=
  (if_neg (not_le.2 hn)).trans (if_pos hgate)

theorem actNdlModeWrite_of_gated (hgate : s.gateOff n = true) (remap debug : Bool) :
    actNdlModeWrite n remap debug s = .next s.touchGated :=
  (if_neg (not_le.2 hn)).trans (if_pos hgate)

/-- Bits that differ from those in force are asked for at the engine's next boundary (R320). -/
theorem actNdlModeWrite_of_changed {remap debug : Bool} {t : State}
    (ht : t = (s.wr .ndlCtrl_remap n (b2n remap)).wr .ndlCtrl_debug n (b2n debug)) (hgate : s.gateOff n = false)
    (hnew : ¬(s.ctlRemap n = remap ∧ s.ctlDebug n = debug)) :
    actNdlModeWrite n remap debug s = .next (t.setNd n { t.nd n with modeReq := true }) := by
  subst ht
  exact ((if_neg (not_le.2 hn)).trans (if_neg (Bool.eq_false_iff.1 hgate))).trans (if_neg hnew)

end

/-- A locked-up engine past the Thimble's clear (R301 step 3). -/
def Needle.lockupCleared (x : Needle) : Needle :=
  { needleReset with m := { nmemReset with istore := x.m.istore }, inv := x.inv, pc := x.pc, priv := x.priv,
                     tenant := x.tenant, remap := x.remap, debug := x.debug, done := x.done, seq := x.seq,
                     cycles := x.cycles, x := { x.x with sys := x.x.sys } }

theorem actLockupClearDone_of_locked (hlock : s.ndLocked n = true) :
    actLockupClearDone n s = .next (s.setNd n (s.nd n).lockupCleared) := if_pos hlock

end

/-- Settles O41: the three commands' actions; a count, a mode bit and an engine's state leave a quiet block quiet. -/
theorem needleControl : Obligations.NeedleControl := by
  refine ⟨fun s n hn hgate => ?reset, fun s n hs hn hgate remap debug => ⟨?resetGated, ?modeGated⟩,
    fun s n remap debug hs hn hgate hnew => ?mode, fun s n hs hlock => ?cleared⟩
  case reset => exact congrArg settled (actNdlEngineReset_of_clocked hn hgate)
  case resetGated => exact settled_of_quiet (actNdlEngineReset_of_gated hn hgate) (quiet_count hs _ _ _ rfl)
  case modeGated => exact settled_of_quiet (actNdlModeWrite_of_gated hn hgate remap debug) (quiet_count hs _ _ _ rfl)
  case mode =>
    exact settled_of_quiet (actNdlModeWrite_of_changed hn rfl hgate hnew)
      (quiet_setNd (quiet_wr (quiet_wr hs _ _ _ rfl) _ _ _ rfl) _ _)
  case cleared => exact settled_of_quiet (actLockupClearDone_of_locked hlock) (quiet_setNd hs _ _)

end Sys2Proof.Machine
end

section
/-! PROOF. What accesses through the cache region (R336, R350), reports (R442) and completion records (R76) reach:
registers, the link, host memory, rings, error reporting, the Bolt, DDR5, and free values. A part of the state apart
from these stays. -/

namespace Sys2Proof.Machine

open Sys2Proof

/-- A part of the state that reads none of what such an access writes. -/
def Apart {α : Type} (p : State → α) : Prop :=
  ∀ (s : State) (freeCtr : Nat) (regs : List (Nat × Nat)) (pcie : Pcie) (host : List (Nat × Option Byte))
    (rings : RingEng) (err : ErrState) (bolt : Bolt) (ddr : Ddr),
    p { s with freeCtr, regs, pcie, host, rings, err, bolt, ddr } = p s

theorem apart_vault : Apart State.vault := fun _ _ _ _ _ _ _ _ _ => rfl

namespace Apart

section

variable {α : Type} {p : State → α} (hp : Apart p) (s : State)
include hp

/-! ## Single updates -/

theorem wr (f : Fld) (i v : Nat) : p (s.wr f i v) = p s := hp s _ _ _ _ _ _ _ _
theorem emit (o : Out) : p (s.emit o) = p s := hp s _ _ _ _ _ _ _ _
theorem setErr (x : ErrState) : p (s.setErr x) = p s := hp s _ _ _ _ _ _ _ _
theorem setBolt (x : Bolt) : p (s.setBolt x) = p s := hp s _ _ _ _ _ _ _ _
theorem setCq (n : Nat) (x : CqDyn) : p (s.setCq n x) = p s := hp s _ _ _ _ _ _ _ _
theorem dropWork (w : Work) : p (s.dropWork w) = p s := hp s _ _ _ _ _ _ _ _
theorem freshBytes (n : Nat) : p (s.freshBytes n).2 = p s := hp s _ _ _ _ _ _ _ _
theorem ddrStore (a : Nat) (bs : List Byte) : p (s.ddrStore a bs) = p s := hp s _ _ _ _ _ _ _ _

/-! ## Reports -/

theorem hostWrite (fn a : Nat) (bs : List Byte) : p (s.hostWrite fn a bs) = p s := by
  unfold State.hostWrite State.post
  split
  · exact hp s _ _ _ _ _ _ _ _
  · rfl

theorem hostRead (fn a n : Nat) : p (s.hostRead fn a n) = p s := by
  unfold State.hostRead
  split
  · exact hp.emit s _
  · rfl

theorem signal (fn v : Nat) : p (s.signal fn v) = p s := by
  obtain h | h | ⟨a, d, h⟩ := signal_cases s fn v
  · rw [h]
  · rw [h]
    unfold State.setPba
    split <;> exact hp.wr s _ _ _
  · rw [h, hp.emit]

theorem errPut (g : ErrRing) (r : ErrRec) : p (s.errPut g r) = p s := by
  unfold State.errPut
  dsimp only
  split
  · rw [hp.signal, hp.setErr, hp.hostWrite]
  · rw [hp.setErr, hp.hostWrite]

theorem errEmit (r : ErrRec) : p (s.errEmit r) = p s := by
  unfold State.errEmit
  dsimp only
  split
  · split
    · split
      · rw [hp.hostRead, hp.setErr, hp.setErr, hp.setErr]
      · rw [hp.setErr, hp.setErr]
    · rw [hp.errPut, hp.setErr]
  · rw [hp.setErr, hp.setErr]

theorem closeWindow (w : ErrWindow) : p (s.closeWindow w) = p s := by
  unfold State.closeWindow
  dsimp only
  split
  · rw [hp.errEmit, hp.setErr, hp.wr, hp.wr, hp.setErr]
  · rw [hp.errEmit, hp.setErr]

theorem coalesce (r : Report) : p (s.coalesce r) = p s := by
  unfold State.coalesce
  split
  · exact hp.setErr s _
  · rw [hp.setErr]
    split
    · split
      · exact hp.closeWindow s _
      · rfl
    · rfl

theorem report (origin cls severity detail reporter : Nat) :
    p (s.report origin cls severity detail reporter) = p s := by
  unfold State.report
  dsimp only
  split
  · exact hp.coalesce s _
  split <;> exact hp.setErr s _

/-! ## Lines of the cache region -/

theorem writeBackLine (x : CacheLine) : p (s.writeBackLine x) = p s := by
  unfold State.writeBackLine
  split
  · split
    · exact (hp.ddrStore _ _ _).trans (hp.freshBytes s _)
    · exact hp.ddrStore s _ _
  · rfl

theorem evict (t w : Nat) : p (s.evict t w) = p s := by
  unfold State.evict
  split
  · exact (hp.setBolt _ _).trans (hp.writeBackLine s _)
  · rfl

theorem cachePut (x : CacheLine) : p (s.cachePut x) = p s := by
  unfold State.cachePut
  refine (hp.setBolt _ _).trans ((hp.setBolt _ _).trans ?_)
  split
  · split
    · rfl
    · exact hp.evict s _ _
  · rfl

theorem cacheFill (reporter l : Nat) : p (s.cacheFill reporter l).2 = p s := by
  unfold State.cacheFill
  split
  · exact hp.setBolt s _
  split
  · rfl
  split
  · rfl
  split
  · exact hp.report s _ _ _ _ _
  · exact hp.cachePut s _

theorem cacheDrop (a n : Nat) : p (s.cacheDrop a n) = p s := by
  refine foldl_keeps (P := fun t => p t = p s) (fun t l h => ?_) _ rfl
  split
  · exact (hp.evict t _ _).trans h
  · exact h

theorem useLineBank (l : Nat) : p (s.useLineBank l) = p s := by
  unfold State.useLineBank
  dsimp only
  split
  · rfl
  · exact hp.wr s _ _ _

/-! ## Writes -/

theorem ddrWrite (a : Nat) (bs : List Byte) : p (s.ddrWrite a bs).2 = p s := by
  unfold State.ddrWrite
  split
  · rfl
  split
  · rfl
  split
  · exact (hp.ddrStore _ _ _).trans ((hp.freshBytes _ _).trans (hp.cacheDrop s _ _))
  · exact (hp.ddrStore _ _ _).trans (hp.cacheDrop s _ _)

theorem cacheWriteLine (reporter l off : Nat) (bs : List Byte) :
    p (s.cacheWriteLine reporter l off bs).2 = p s := by
  have filled := hp.cacheFill s reporter l
  unfold State.cacheWriteLine
  split
  · split
    · rfl
    · exact hp.cachePut s _
  · split
    case h_1 t hfill => exact (hp.cachePut t _).trans (by rw [← filled, hfill])
    case h_2 r t hmiss hfill => exact show p t = p s by rw [← filled, hfill]

theorem cacheWrite (reporter a : Nat) (bs : List Byte) : p (s.cacheWrite reporter a bs).2 = p s := by
  unfold State.cacheWrite
  split
  · exact hp.ddrWrite s _ _
  split
  · rfl
  refine List.foldlRecOn (motive := fun r : Resp × State => p r.2 = p s) _ _ rfl fun r hr l _ => ?_
  split
  · exact (hp.cacheWriteLine r.2 _ _ _ _).trans hr
  · exact hr

/-! ## Completion records -/

theorem cqSignal (c : Nat) (irqNow : Bool) : p (s.cqSignal c irqNow) = p s := by
  obtain h | ⟨q, h⟩ | ⟨q, fn, v, h⟩ := cqSignal_cases s c irqNow
  · rw [h]
  · rw [h, hp.setCq]
  · rw [h, hp.signal, hp.setCq]

theorem putRecord (r : Record) : p (s.putRecord r) = p s := by
  unfold State.putRecord
  dsimp only
  rw [hp.cqSignal]
  split
  · rw [hp.wr, hp.wr, hp.hostWrite]
  · rw [hp.wr, hp.hostWrite]

theorem complete (w : Work) (status result : Nat) : p (s.complete w status result) = p s := by
  unfold State.complete State.postRecord
  split
  · exact hp.dropWork s w
  split
  · rw [hp.putRecord, hp.dropWork]
  · exact (hp _ _ _ _ _ _ _ _ _).trans (hp.dropWork s w)

end

end Apart

end Sys2Proof.Machine
end

section
/-! PROOF. What is in the table (R130, R132, R134, R145): stores of entries, free runs of the extension store,
and a write of the engine's own. -/

namespace Sys2Proof.Machine

open Sys2Proof

namespace Store

variable {α : Type} [DecidableEq α] {d : Nat → α}

omit [DecidableEq α] in
theorem mem_insert_cases {k : Nat} {v : α} {e : Nat × α} (m : List (Nat × α)) (h : e ∈ insert m k v) :
    e = (k, v) ∨ e ∈ m := by
  induction m with
  | nil => exact .inl (List.mem_singleton.1 h)
  | cons x m ih =>
    unfold insert at h
    split at h
    · exact List.mem_cons.1 h
    split at h
    · exact (List.mem_cons.1 h).imp_right (List.mem_cons_of_mem _)
    · obtain rfl | h := List.mem_cons.1 h
      · exact .inr List.mem_cons_self
      · exact (ih h).imp_right (List.mem_cons_of_mem _)

/-- A write lists nothing but its own entry that was not listed. -/
theorem mem_put_cases {k : Nat} {v : α} {e : Nat × α} {m : List (Nat × α)} (h : e ∈ put d m k v) :
    e = (k, v) ∨ e ∈ m := by
  unfold put at h
  split at h
  · exact .inr (List.mem_of_mem_filter h)
  · exact mem_insert_cases m h

omit [DecidableEq α] in
/-- The later of two entries at one key stands. -/
theorem insert_insert (m : List (Nat × α)) (k : Nat) (v w : α) : insert (insert m k v) k w = insert m k w := by
  induction m with
  | nil => simp [insert]
  | cons x m ih =>
    obtain ⟨a, u⟩ := x
    by_cases hlt : k < a
    · simp [insert, hlt]
    by_cases heq : k = a
    · simp [insert, heq]
    · simp [insert, hlt, heq, ih]

end Store

section

variable {s t : State}

/-! ## Free runs of the extension store (R130) -/

/-- A fold whose every turn gives a value gives one from a list that is not empty. -/
theorem isSome_foldl_of_ne_nil {α β : Type} {f : Option β → α → Option β} (hf : ∀ o a, (f o a).isSome = true)
    {l : List α} (hl : l ≠ []) (o : Option β) : (l.foldl f o).isSome = true := by
  obtain ⟨l, a, rfl⟩ := (List.eq_nil_or_concat' l).resolve_left hl
  rw [List.foldl_append]
  exact hf _ a

/-- The last block at or before `a` where the search for a free run tries: 0, or the end of a run in use. -/
theorem exists_run_end_le (used : List (Nat × Nat)) (a : Nat) :
    ∃ c ∈ 0 :: used.map (fun u => u.1 + u.2), c ≤ a ∧ ∀ u ∈ used, u.1 + u.2 ≤ a → u.1 + u.2 ≤ c := by
  obtain ⟨c, hc⟩ : ∃ c, (0 :: (used.map (fun u => u.1 + u.2)).filter (fun x => decide (x ≤ a))).max? = some c :=
    ⟨_, List.max?_cons'⟩
  obtain ⟨hmem, hmax⟩ := List.max?_eq_some_iff.1 hc
  have hends : ∀ u ∈ used, u.1 + u.2 ≤ a → u.1 + u.2 ≤ c := fun u hu hle =>
    hmax _ (List.mem_cons_of_mem _ (List.mem_filter.2 ⟨List.mem_map_of_mem hu, decide_eq_true hle⟩))
  obtain rfl | h := List.mem_cons.1 hmem
  · exact ⟨0, List.mem_cons_self, Nat.zero_le a, hends⟩
  · exact ⟨c, List.mem_cons_of_mem _ (List.mem_of_mem_filter h), by simpa using List.of_mem_filter h, hends⟩

/-- There is room for a run exactly where one fits between those in use. -/
theorem extAlloc_isSome_iff {n : Nat} (hn : n ≠ 0) :
    (s.extAlloc n).isSome = true ↔
      ∃ a, a + n ≤ s.vault.extBlocks ∧ ∀ u ∈ s.extUsed, u.1 + u.2 ≤ a ∨ a + n ≤ u.1 := by
  unfold State.extAlloc
  dsimp only
  rw [if_neg hn]
  constructor
  · intro h
    generalize hl : List.filter _ _ = l at h
    cases l with
    | nil => cases h
    | cons a l =>
      have ha := List.of_mem_filter (hl ▸ List.mem_cons_self : a ∈ List.filter _ _)
      simp only [Bool.and_eq_true, decide_eq_true_eq, List.all_eq_true] at ha
      exact ⟨a, ha⟩
  · rintro ⟨a, hin, hfree⟩
    obtain ⟨c, hc, hle, hends⟩ := exists_run_end_le s.extUsed a
    refine isSome_foldl_of_ne_nil (fun o b => by cases o <;> rfl) (List.ne_nil_of_mem (a := c) ?_) none
    refine List.mem_filter.2 ⟨hc, ?_⟩
    simp only [Bool.and_eq_true, decide_eq_true_eq, List.all_eq_true]
    refine ⟨by omega, fun u hu => ?_⟩
    obtain h | h := hfree u hu
    · exact .inl (hends u hu h)
    · exact .inr (by omega)

/-- Fewer runs in use leave at least the room there was. -/
theorem extAlloc_isSome_mono {n : Nat} (hblocks : t.vault.extBlocks = s.vault.extBlocks)
    (hused : ∀ u ∈ t.extUsed, u ∈ s.extUsed) (h : (s.extAlloc n).isSome = true) : (t.extAlloc n).isSome = true := by
  by_cases hn : n = 0
  · subst hn
    rfl
  · obtain ⟨a, hin, hfree⟩ := (extAlloc_isSome_iff hn).1 h
    exact (extAlloc_isSome_iff hn).2 ⟨a, hblocks ▸ hin, fun u hu => hfree u (hused u hu)⟩

/-- An entry without a run puts none in use. -/
theorem extUsed_putEntry_of_noRun {i : Nat} {e : Entry} (he : e.extCount = 0) {u : Nat × Nat}
    (hu : u ∈ (s.putEntry i e).extUsed) : u ∈ s.extUsed := by
  unfold State.extUsed at hu ⊢
  obtain ⟨x, hx, rfl⟩ := List.mem_map.1 hu
  obtain ⟨hx, hrun⟩ := List.mem_filter.1 hx
  refine List.mem_map_of_mem (List.mem_filter.2 ⟨?_, hrun⟩)
  refine List.mem_append.2 ((List.mem_append.1 hx).imp_left fun hx => ?_)
  obtain ⟨y, hy, rfl⟩ := List.mem_map.1 hx
  obtain rfl | hy := Store.mem_put_cases hy
  · simp [he] at hrun
  · exact List.mem_map_of_mem hy

/-- An allocation's run fits where its material had room before its entry. -/
theorem writeRun_isSome_of_room {w : TableWrite} (h : (s.extAlloc (writeBlocks w)).isSome = true) :
    (s.writeRun w false).isSome = true := by
  unfold State.writeRun
  rw [if_neg Bool.false_ne_true]
  exact extAlloc_isSome_mono (s := s) rfl (fun u hu => extUsed_putEntry_of_noRun rfl hu) h

/-! ## Stores of entries (R132, R145) -/

@[simp] theorem entry_putEntry_same (s : State) (i : Nat) (e : Entry) : (s.putEntry i e).entry i = e := by
  unfold State.entry State.putEntry
  rw [setVault_vault, Store.get_put, if_pos rfl]

theorem entry_adopt_same (s : State) (i : Nat) (e : Entry) : (s.adopt i e).entry i = e := by
  unfold State.adopt
  split
  case isTrue h => exact h
  case isFalse => exact entry_putEntry_same s i e

theorem entry_of_entries (h : t.vault.entries = s.vault.entries) (i : Nat) : t.entry i = s.entry i := by
  unfold State.entry
  rw [h]

/-- A refused write is lost; one that goes through the cache region is noted in the image of its line. -/
theorem vaultWrite_cases (s : State) (l off : Nat) (bs : List Byte) :
    s.vaultWrite l off bs = s ∨
      ∃ image, s.vaultWrite l off bs = ((s.useLineBank l).cacheWrite repVault (l * 128 + off) bs).2.setVault
        { ((s.useLineBank l).cacheWrite repVault (l * 128 + off) bs).2.vault with image } := by
  by_cases h : (decide (s.ddrUsable < l * 128 + off + bs.length) || s.ddrRefused (l * 128 + off) bs.length) = true
  · exact .inl (if_pos h)
  · exact .inr ⟨_, if_neg h⟩

/-- The engine's writes note what the lines hold, and leave the rest of the table's state. -/
theorem vaultWrite_vault (s : State) (l off : Nat) (bs : List Byte) :
    ∃ image, (s.vaultWrite l off bs).vault = { s.vault with image } := by
  obtain h | ⟨image, h⟩ := vaultWrite_cases s l off bs
  · exact ⟨s.vault.image, congrArg State.vault h⟩
  · have kept : ((s.useLineBank l).cacheWrite repVault (l * 128 + off) bs).2.vault = s.vault :=
      (apart_vault.cacheWrite _ _ _ _).trans (apart_vault.useLineBank s l)
    exact ⟨image, by rw [h, setVault_vault, kept]⟩

/-- Of any function whose turns are writes, so that no write is unfolded under a projection. -/
theorem foldl_vaultWrite_vault {β : Type} {f : State → β → State}
    (hf : ∀ t x, ∃ l off bs, f t x = State.vaultWrite t l off bs) (s : State) (xs : List β) :
    ∃ image, (xs.foldl f s).vault = { s.vault with image } := by
  refine foldl_keeps (P := fun t => ∃ image, t.vault = { s.vault with image }) (fun t x ht => ?_) xs
    ⟨s.vault.image, rfl⟩
  obtain ⟨image, ht⟩ := ht
  obtain ⟨l, off, bs, hf⟩ := hf t x
  obtain ⟨image', hw⟩ := vaultWrite_vault t l off bs
  exact ⟨image', by rw [hf, hw, ht]⟩

theorem vaultLines_vault (s : State) (l : Nat) (bs : List Byte) :
    ∃ image, (s.vaultLines l bs).vault = { s.vault with image } :=
  foldl_vaultWrite_vault (fun _ _ => ⟨_, _, _, rfl⟩) s _

theorem vaultWrite_entries (s : State) (l off : Nat) (bs : List Byte) :
    (s.vaultWrite l off bs).vault.entries = s.vault.entries := by
  obtain ⟨image, h⟩ := vaultWrite_vault s l off bs
  rw [h]

theorem vaultLines_entries (s : State) (l : Nat) (bs : List Byte) :
    (s.vaultLines l bs).vault.entries = s.vault.entries := by
  obtain ⟨image, h⟩ := vaultLines_vault s l bs
  rw [h]

/-- An entry whose epoch's key is held is put in the table, and its lines are written. -/
theorem storeEntry_of_key {i : Nat} {e : Entry} (hkey : (s.tableKey e.epoch).isSome = true) :
    ∃ l bs l' bs', s.storeEntry i e =
      ((((s.uncache i).putEntry i e).vaultWrite l 0 bs).vaultLines l' bs').noteLive := by
  unfold State.storeEntry
  split
  case h_1 hnone => rw [hnone] at hkey; cases hkey
  case h_2 key _ => exact ⟨_, _, _, _, rfl⟩

theorem storeEntry_entries {i : Nat} {e : Entry} (hkey : (s.tableKey e.epoch).isSome = true) :
    (s.storeEntry i e).vault.entries = ((s.uncache i).putEntry i e).vault.entries := by
  obtain ⟨l, bs, l', bs', h⟩ := storeEntry_of_key (i := i) hkey
  rw [h]
  exact (vaultLines_entries _ l' bs').trans (vaultWrite_entries _ l 0 bs)

/-- Contexts that go stale leave the entries. -/
theorem staleSess_entries (s : State) (i : Nat) : (s.staleSess i).vault.entries = s.vault.entries := by
  unfold State.staleSess State.freeSessWhere
  exact foldl_keeps (P := fun t => t.vault.entries = s.vault.entries) (f := State.freeSess) (fun _ _ h => h) _ rfl

/-! ## A write of the engine's own (R134, R145, R147, R150) -/

theorem tableKey_epochNow (hkey : s.vault.keyHeld = true) : (s.tableKey s.epochNow).isSome = true := by
  simp [State.tableKey, hkey]

/-- May the engine write entry `i` of a shard on its own: is the device alone for the shard, the index in the
table, the table key held, and nothing fenced (R25, R132, R143)? -/
def State.MayWrite (s : State) (sh i : Nat) : Prop :=
  s.alone sh = true ∧ i < s.tableSize ∧ s.vault.keyHeld = true ∧ ∀ l, s.fencedUnit (l * 128) 128 = none

theorem entryFenced_of_unfenced (hfence : ∀ l, s.fencedUnit (l * 128) 128 = none) (i : Nat) (e : Entry) :
    s.entryFenced i e = none := List.findSome?_eq_none_iff.2 fun l _ => hfence l

section

variable {w : TableWrite} {sh : Nat} (hmay : s.MayWrite sh w.index) (hrun : (s.writeRun w false).isSome = true)
include hmay hrun

theorem applyWrite_entry : (s.applyWrite w sh false).entry w.index = s.entryAfter w sh false := by
  obtain ⟨_, hindex, hkey, _⟩ := hmay
  have hfits : ¬(!s.writeFits w false) = true := by
    simp [State.writeFits, hindex, hkey, hrun]
  obtain ⟨image, hzeroed⟩ : ∃ image, (s.zeroRun (s.entry w.index)).vault = { s.vault with image } :=
    vaultLines_vault s _ _
  have hheld : ((s.zeroRun (s.entry w.index)).tableKey (s.entryAfter w sh false).epoch).isSome = true := by
    have hepoch : (s.zeroRun (s.entry w.index)).epochNow = s.epochNow := by
      unfold State.epochNow
      rw [hzeroed]
    have hnow := tableKey_epochNow (s := s.zeroRun (s.entry w.index)) (by rw [hzeroed]; exact hkey)
    rwa [hepoch] at hnow
  unfold State.applyWrite
  rw [if_neg hfits]
  dsimp only
  rw [if_neg Bool.false_ne_true, entry_of_entries (staleSess_entries _ _), entry_of_entries (storeEntry_entries hheld),
    entry_putEntry_same]

/-- Such a write is applied at once, whatever the descriptor then completes with. -/
theorem tableWrite_entry (wk : Work) (result : Nat) :
    (s.tableWrite wk w sh result).entry w.index = s.entryAfter w sh false := by
  have ⟨halone, _, _, hfence⟩ := hmay
  have hgo : s.writeFenced w (!s.alone sh) = none := by
    unfold State.writeFenced
    rw [entryFenced_of_unfenced hfence, entryFenced_of_unfenced hfence]
    rfl
  unfold State.tableWrite
  rw [hgo]
  dsimp only
  rw [if_pos halone, entry_of_entries (congrArg Vault.entries (apart_vault.complete _ _ _ _)),
    applyWrite_entry hmay hrun]

/-- What such a write says of its entry. -/
theorem tableWrite_leaves {i g : Nat} {live : Bool} (hi : w.index = i) (hlive : w.live = live) (hgen : w.generation = g)
    (wk : Work) (result : Nat) :
    ((s.tableWrite wk w sh result).entry i).live = live ∧ ((s.tableWrite wk w sh result).entry i).generation = g := by
  subst hi hlive hgen
  rw [tableWrite_entry hmay hrun]
  exact ⟨rfl, rfl⟩

end

end

end Sys2Proof.Machine
end

section
/-! PROOF. Handle generations (R134): what an allocation, DESTROY and ROTATE leave in the entry. -/

namespace Sys2Proof.Machine

open Sys2Proof

/-! ## Checks that have passed (R92) -/

theorem exists_of_chk_bind_ok {α β : Type} {x : Chk α} {f : α → Chk β} {b : β} (h : (x >>= f) = .ok b) :
    ∃ a, x = .ok a ∧ f a = .ok b := by
  cases x with
  | ok a => exact ⟨a, rfl, h⟩
  | error e => cases h

theorem of_need_ok {b : Bool} {f : Fail} {u : Unit} (h : need b f = .ok u) : b = true := by
  unfold need at h
  split at h
  case isTrue hb => exact hb
  case isFalse => cases h

section

variable {s : State} {tenant h off i : Nat}

/-- An index that has passed step 2 of R92 is in the table. -/
theorem lt_tableSize_of_handleIndex (hok : s.handleIndex tenant h off = .ok i) : i < s.tableSize := by
  obtain ⟨_, _, hok⟩ := exists_of_chk_bind_ok hok
  obtain ⟨_, hin, hok⟩ := exists_of_chk_bind_ok hok
  have heq : h % 2 ^ 24 = i := by
    dsimp only at hok
    split at hok
    case h_1 =>
      obtain ⟨_, _, hok⟩ := exists_of_chk_bind_ok hok
      exact Except.ok.inj hok
    case h_2 => exact Except.ok.inj hok
  rw [← heq]
  exact of_decide_eq_true (of_need_ok hin)

theorem of_checkHandle_ok {e : Entry} {expiryToo : Bool} (hok : s.checkHandle tenant h off expiryToo = .ok (i, e)) :
    s.handleIndex tenant h off = .ok i ∧ handleCurrent e h = true := by
  obtain ⟨j, hj, hok⟩ := exists_of_chk_bind_ok hok
  obtain ⟨_, _, hok⟩ := exists_of_chk_bind_ok hok
  obtain ⟨x, _, hok⟩ := exists_of_chk_bind_ok hok
  obtain ⟨_, hcur, hok⟩ := exists_of_chk_bind_ok hok
  obtain ⟨_, _, hok⟩ := exists_of_chk_bind_ok hok
  cases hok
  exact ⟨hj, of_need_ok hcur⟩

end

theorem live_of_handleCurrent {e : Entry} {h : Nat} (hcur : handleCurrent e h = true) : e.live = true := by
  unfold handleCurrent at hcur
  rw [Bool.and_eq_true, Bool.and_eq_true] at hcur
  obtain ⟨⟨hlive, _⟩, _⟩ := hcur
  exact hlive

section

variable {s : State}

/-! ## Allocated indices (R135) -/

theorem lt_tableSize_of_scanFree {sh n i j : Nat} (h : s.scanFree sh n j = some i) : i < s.tableSize := by
  induction n generalizing j with
  | zero => cases h
  | succ n ih =>
    unfold State.scanFree at h
    split at h
    case isTrue ha =>
      cases h
      unfold State.allocatable at ha
      rw [Bool.and_eq_true, Bool.and_eq_true] at ha
      obtain ⟨⟨hin, _⟩, _⟩ := ha
      exact of_decide_eq_true hin
    case isFalse => exact ih h

theorem lt_tableSize_of_allocIndex {sh i : Nat} (h : s.allocIndex sh = some i) : i < s.tableSize := by
  unfold State.allocIndex at h
  dsimp only at h
  split at h
  case h_1 hscan => exact lt_tableSize_of_scanFree (h ▸ hscan)
  case h_2 => exact lt_tableSize_of_scanFree h

/-! ## Generations drawn (R134) -/

theorem drawGen_of_stored {i : Nat} (h : (s.entry i).generation ≠ 0) : s.drawGen i = ((s.entry i).generation, s) :=
  if_pos h

theorem drawGen_of_unused {i : Nat} (h : (s.entry i).generation = 0) :
    s.drawGen i = ((s.fresh 64).1 % 65535 + 1, (s.fresh 64).2) := if_neg (not_not.2 h)

theorem drawGen_mem_range {i : Nat} (h : (s.entry i).generation = 0) :
    1 ≤ (s.drawGen i).1 ∧ (s.drawGen i).1 ≤ 65535 := by
  rw [drawGen_of_unused h]
  have := Nat.mod_lt (s.fresh 64).1 (show 65535 > 0 by decide)
  omega

/-- The shard's pointer is no part of a draw. -/
theorem drawGen_moveAllocPtr (s : State) (sh i j : Nat) : ((s.moveAllocPtr sh j).drawGen i).1 = (s.drawGen i).1 := by
  by_cases h : (s.entry i).generation = 0
  · rw [drawGen_of_unused h, drawGen_of_unused (s := s.moveAllocPtr sh j) h]
    rfl
  · rw [drawGen_of_stored h, drawGen_of_stored (s := s.moveAllocPtr sh j) h]
    rfl

/-- The generation ROTATE issues. -/
theorem nextGen_of_le {g : Nat} (h : g ≤ 65535) : nextGen g = if g = 65535 then 1 else g + 1 := by
  unfold nextGen
  simp only [ge_iff_le, le_antisymm_iff, h, true_and]

/-- The generation DESTROY leaves. -/
theorem succ_mod_of_le {g : Nat} (h : g ≤ 65535) : (g + 1) % 65536 = if g = 65535 then 0 else g + 1 := by
  split <;> omega

/-! ## What comes before the write -/

theorem drawGen_state (s : State) (i : Nat) : ∃ freeCtr, (s.drawGen i).2 = { s with freeCtr } := by
  by_cases h : (s.entry i).generation = 0
  · exact ⟨_, congrArg Prod.snd (drawGen_of_unused h)⟩
  · exact ⟨s.freeCtr, congrArg Prod.snd (drawGen_of_stored h)⟩

theorem drawKey_state (s : State) (kt : Nat) : ∃ freeCtr, (s.drawKey kt).2 = { s with freeCtr } := by
  unfold State.drawKey
  split_ifs <;> exact ⟨_, rfl⟩

namespace State.MayWrite

variable {sh i : Nat} (h : s.MayWrite sh i)
include h

theorem withFree (freeCtr : Nat) : ({ s with freeCtr } : State).MayWrite sh i := h

theorem moveAllocPtr (sh' j : Nat) : (s.moveAllocPtr sh' j).MayWrite sh i := h

theorem putEntry (j : Nat) (e : Entry) : (s.putEntry j e).MayWrite sh i := h

theorem fresh (n : Nat) : (s.fresh n).2.MayWrite sh i := h.withFree _

theorem drawGen (j : Nat) : (s.drawGen j).2.MayWrite sh i := by
  obtain ⟨c, hc⟩ := drawGen_state s j
  rw [hc]
  exact h.withFree c

theorem drawKey (kt : Nat) : (s.drawKey kt).2.MayWrite sh i := by
  obtain ⟨c, hc⟩ := drawKey_state s kt
  rw [hc]
  exact h.withFree c

theorem adopt (j : Nat) (e : Entry) : (s.adopt j e).MayWrite sh i := by
  unfold State.adopt
  split
  · exact h
  · exact h.putEntry j e

end State.MayWrite

/-- The later of two live entries put at one index stands. -/
theorem putEntry_putEntry_of_live {i : Nat} {e e' : Entry} (he : e.live = true) (he' : e'.live = true) :
    (s.putEntry i e).putEntry i e' = s.putEntry i e' := by
  have hne : ∀ x : Entry, x.live = true → x ≠ entryDefault i := by
    rintro x hx rfl
    cases hx
  have hput : Store.put entryDefault (Store.put entryDefault s.vault.entries i e) i e'
      = Store.put entryDefault s.vault.entries i e' := by
    unfold Store.put
    rw [if_neg (hne e he), if_neg (hne e' he'), if_neg (hne e' he'), Store.insert_insert]
  unfold State.putEntry
  rw [setVault_vault, hput]
  rfl

theorem adopt_putEntry_of_live {i : Nat} {e e' : Entry} (he : e.live = true) (he' : e'.live = true) :
    (s.adopt i e).putEntry i e' = s.putEntry i e' := by
  unfold State.adopt
  split
  · rfl
  · exact putEntry_putEntry_of_live he he'

/-! ## The room a write finds (R130) -/

theorem writeBlocks_of_live {w : TableWrite} {material : Bs} (hlive : w.live = true)
    (hmaterial : w.material = bytesOf material) : writeBlocks w = extBlocksFor w.keyType material.length := by
  unfold writeBlocks
  rw [if_pos hlive, hmaterial]
  exact congrArg (extBlocksFor w.keyType) (List.length_map _)

/-- A freed entry needs none. -/
theorem writeRun_isSome_of_freed {w : TableWrite} (hfree : w.live = false) : (s.writeRun w false).isSome = true := by
  have hblocks : writeBlocks w = 0 := if_neg (Bool.eq_false_iff.1 hfree)
  exact writeRun_isSome_of_room (by rw [hblocks]; rfl)

/-- An entry written anew finds what there is once its old run is left, whatever is drawn for it first. -/
theorem writeRun_isSome_of_renewed {w : TableWrite} {i n : Nat} {e : Entry} (hi : w.index = i) (hn : writeBlocks w = n)
    (he : e.live = true) (hroom : ((s.putEntry i { e with extCount := 0 }).extAlloc n).isSome = true) (m : Nat) :
    (((s.fresh m).2.adopt i e).writeRun w false).isSome = true := by
  subst hi hn
  unfold State.writeRun
  rw [if_neg Bool.false_ne_true, entry_adopt_same, adopt_putEntry_of_live he (e' := { e with extCount := 0 }) he]
  exact hroom

/-! ## Allocations -/

/-- An allocation past its draws: a live entry under the generation drawn, at an index past which the shard's pointer
moves (R135). -/
theorem newEntry_of_index {w : Work} {n : NewEntry} {i : Nat}
    (hroom : (s.extAlloc (extBlocksFor n.keyType n.material.length)).isSome = true)
    (hindex : s.allocIndex n.shard = some i) :
    ∃ t result, t.index = i ∧ t.live = true ∧ t.generation = (s.drawGen i).1 ∧
      writeBlocks t = extBlocksFor n.keyType n.material.length ∧
      s.newEntry w n = (((s.moveAllocPtr n.shard i).drawGen i).2.fresh 32).2.tableWrite w t n.shard result := by
  unfold State.newEntry
  simp only [hroom, if_true, hindex]
  refine ⟨_, _, ?index, ?live, ?generation, ?blocks, rfl⟩
  case index | live => rfl
  case generation => exact drawGen_moveAllocPtr s n.shard i i
  case blocks => exact writeBlocks_of_live rfl rfl

theorem newEntry_entry {w : Work} {n : NewEntry} {i : Nat} (h : s.MayWrite n.shard i)
    (hroom : (s.extAlloc (extBlocksFor n.keyType n.material.length)).isSome = true)
    (hindex : s.allocIndex n.shard = some i) :
    ((s.newEntry w n).entry i).live = true ∧ ((s.newEntry w n).entry i).generation = (s.drawGen i).1 := by
  obtain ⟨t, result, rfl, hlive, hgen, hblocks, hnew⟩ := newEntry_of_index (w := w) hroom hindex
  have hroom' : ((((s.moveAllocPtr n.shard t.index).drawGen t.index).2.fresh 32).2.extAlloc (writeBlocks t)).isSome
      = true := by
    obtain ⟨c, hc⟩ := drawGen_state (s.moveAllocPtr n.shard t.index) t.index
    rw [hblocks, hc]
    exact hroom
  rw [hnew]
  exact tableWrite_leaves (((h.moveAllocPtr _ _).drawGen _).fresh 32) (writeRun_isSome_of_room hroom') rfl hlive hgen w
    result

end

/-- Settles O29: the draw's range, and the entry that each operation's one write leaves. -/
theorem generations : Obligations.Generations := by
  refine ⟨fun s i => ⟨drawGen_of_stored, drawGen_mem_range⟩,
    fun s w n i halone hkey hfence hroom hindex => ?allocates, fun s sq d h i => ?destroy, fun s sq d h i e => ?rotate⟩
  case allocates =>
    exact newEntry_entry ⟨halone, lt_tableSize_of_allocIndex hindex, hkey, hfence⟩ hroom hindex
  case destroy =>
    intro w u e hd hchk hi hcur halone hkey hfence hgen
    obtain ⟨_, destroys, _⟩ := entriesRead
    have hmay : u.MayWrite e.shard i := ⟨halone, lt_tableSize_of_handleIndex hi, hkey, hfence⟩
    refine ⟨_, destroys s sq d h i hd hchk hi (entryFenced_of_unfenced hfence i _) hcur, ?_⟩
    exact tableWrite_leaves (hmay.adopt i e) (writeRun_isSome_of_freed rfl) rfl rfl (succ_mod_of_le hgen) w 0
  case rotate =>
    intro w u r hd hchk hi hpriv halone hkey hfence hroom hgen
    obtain ⟨hindex, hcur⟩ := of_checkHandle_ok hi
    have hmay : u.MayWrite e.shard i := ⟨halone, lt_tableSize_of_handleIndex hindex, hkey, hfence⟩
    obtain ⟨_, _, _, rotates⟩ := newEntries
    refine ⟨_, rotates s sq d h i e hd hchk hi hpriv, ?_⟩
    refine tableWrite_leaves ?may ?run rfl rfl (nextGen_of_le hgen) w _
    case may => exact ((hmay.drawKey e.keyType).fresh 32).adopt i e
    case run =>
      exact writeRun_isSome_of_renewed rfl (writeBlocks_of_live rfl rfl) (live_of_handleCurrent hcur) hroom 32

end Sys2Proof.Machine
end

section
/-! PROOF. The life of a stream (R48, R102, R172, R176, R179, R180, R183, R184, R377): chunks land and run on pipelines,
outputs drain, the stream retires, and a hot reset that waited for the last work inside the device begins. -/

namespace Sys2Proof.Machine

open Sys2Proof

/-! ## Chunks land (R172) -/

/-- The bytes that a job reads from host memory: its source's, then its side records'. -/
def Strm.hostLen (x : Strm) (j : Job) : Nat :=
  (if x.src.space = 0 then j.len else 0) + (if x.dst1.space = 0 then x.recsOf j else 0)

/-- The read of job `j` of stream `x` is the stream's oldest, and nothing keeps its data from landing. -/
structure State.Landing (s : State) (id : Nat) (x : Strm) (j : Job) : Prop where
  flight : s.strm id = some x
  noWriteBack : s.bolt.writeBack = false
  oldest : x.jobs.find? (fun j => j.at_ == .reading) = some j
  srcUnfenced : s.vecFenced x.src j.off j.len = none
  recsUnfenced : s.vecFenced x.dst1 (j.unit * recLen x.chain) (x.recsOf j) = none
  banksServe : s.banksWait (s.vecBanks x.src j.off j.len ++
    s.vecBanks x.dst1 (j.unit * recLen x.chain) (x.recsOf j) ++ s.areaBanks j.inBuf j.len (x.recsOf j)) = false
  bufUnfenced : s.areaFenced j.inBuf j.len (x.recsOf j) = false

/-- A job's data in its input buffer and that buffer's side area, the job ready for a pipeline. -/
def State.landed (s : State) (id : Nat) (j : Job) (data recs : List Byte) : State :=
  ((s.areaPut (s.bufAt j.inBuf) data).areaPut (s.sideAt j.inBuf) recs).mapJob id j.no
    (fun j => { j with at_ := .ready })

theorem eccAt_none (s : State) (a reporter : Nat) : s.eccAt .none a reporter = (true, s) := rfl

section

variable {s : State} {id : Nat} {x : Strm} {j : Job} (h : s.Landing id x j)
include h

theorem actChunkSourceLand_of_data {bs : List Byte} (hlen : bs.length = x.hostLen j)
    {r : Resp × (List Byte × List Byte) × State} (hr : r = s.landBytes x j bs) :
    actChunkSourceLand id (some bs) .none s = .next (if r.1 = .ok then (r.2.2.landed id j r.2.1.1 r.2.1.2).shuttleRun
      else (r.2.2.endStrm id stDmaFault (resultOf 0xFF 1 0)).shuttleRun) := by
  obtain ⟨hx, hwb, hj, hsrc, hrecs, hbanks, hbuf⟩ := h
  have hhost : (x.hostLen j != bs.length) = false := by simp [hlen]
  unfold Strm.hostLen at hhost
  cases hecc : x.eccPlace j <;>
    simp only [actChunkSourceLand, hx, hwb, hj, hsrc, hrecs, hbanks, hbuf, hecc, hhost, eccAt_none, ← hr,
      Option.or_none, Bool.false_and, Bool.not_true, Bool.false_eq_true, if_false, bne_iff_ne, ite_not,
      apply_ite Host.Outcome.next] <;> rfl

theorem actChunkSourceLand_of_lost (hhost : x.hostLen j ≠ 0) :
    actChunkSourceLand id none .none s =
      .next (s.readLost.endStrm id stDmaFault (resultOf 0xFF 1 0)).shuttleRun := by
  obtain ⟨hx, hwb, hj, hsrc, hrecs, hbanks, hbuf⟩ := h
  unfold Strm.hostLen at hhost
  cases hecc : x.eccPlace j <;>
    simp only [actChunkSourceLand, hx, hwb, hj, hsrc, hrecs, hbanks, hbuf, hecc, hhost, eccAt_none, Option.or_none,
      Bool.false_and, Bool.not_true, Bool.false_eq_true, if_false]

end

/-- A stream that reads host memory alone, with no earlier stream to write what it reads, gets its bytes as they come. -/
theorem landBytes_of_host {s : State} {x : Strm} {j : Job} {bs : List Byte} (hlen : bs.length = x.hostLen j)
    (hsrc : x.src.space = 0) (hrecs : x.recsOf j = 0) (hearly : x.early = []) :
    s.landBytes x j bs = (.ok, (bs, []), s) := by
  have hbs : sub bs 0 j.len = bs := by
    have hj : bs.length = j.len := by simpa [Strm.hostLen, hsrc, hrecs] using hlen
    simp [sub, ← hj]
  simp [State.landBytes, State.readBytes, hsrc, hrecs, hearly, hbs]

/-! ## Key schedules and jobs (R176, R183, R184) -/

theorem actKeyScheduleBuilt_of_new {s : State} {p : Nat} {x : Strm} {j : Job} {k : KsTag}
    (hj : (s.pipeJobs p).find? (fun e => e.2.at_ == .onPipe p true) = some (x, j)) (hk : x.ks = some k)
    (hnew : (s.pipe p).slots.contains k = false) (hroom : (s.pipe p).slots.length < 16) {t : State}
    (ht : t = s.setPipe p { s.pipe p with slots := (s.pipe p).slots ++ [k] }) :
    actKeyScheduleBuilt p s = .next ((t.pipeJobs p).foldl (fun s e =>
      if e.2.at_ = .onPipe p true ∧ e.1.ks = some k then
        s.mapJob e.1.id e.2.no (fun j => { j with at_ := .onPipe p false })
      else s) t) := by
  have hkept : (s.pipe p).slots.filter (fun t => t != k) = (s.pipe p).slots := by
    rw [List.filter_eq_self]
    intro a ha
    have hne : a ≠ k := fun hak => by simp [← hak, ha] at hnew
    simp [hne]
  simp only [actKeyScheduleBuilt, hj, hk, hkept, ht, ge_iff_le, Nat.not_le.2 hroom, if_false]

/-- Job `j` of stream `x` is the oldest that runs on pipeline `p`, and its buffers serve with no uncorrectable word. -/
structure State.Running (s : State) (p : Nat) (x : Strm) (j : Job) : Prop where
  oldest : (s.pipeJobs p).find? (fun e => e.2.at_ == .onPipe p false) = some (x, j)
  banksServe : s.banksWait (s.jobBanks x j) = false
  inUnfenced : s.areaFenced j.inBuf j.len (x.recsOf j) = false
  outUnfenced : s.areaFenced j.outBuf j.len (j.units * recLen x.chain) = false
  dataGood : s.areaBad (s.bufAt j.inBuf) j.len = []
  recsGood : s.areaBad (s.sideAt j.inBuf) (x.recsOf j) = []

/-- A job fault of the pipeline, counted and weighed (R184). -/
def State.jobFault (s : State) (p : Nat) : State := (s.countSat .stcPipeState_jobFaults p).bucketEvent (0x100 + p) 1

section

variable {s : State} {p : Nat} {x : Strm} {j : Job} (h : s.Running p x j)
include h

theorem actJobFinish_of_good {t : State}
    (ht : t = s.setPipe p { s.pipe p with jobs := (s.pipe p).jobs.filter (fun e => e != (x.id, j.no)) }) :
    actJobFinish p false s = .next ((t.count .stcPipeState_jobs p).jobDone x j).shuttleRun := by
  obtain ⟨hj, hbanks, hin, hout, hdata, hrecs⟩ := h
  simp [actJobFinish, hj, hbanks, hin, hout, hdata, hrecs, State.meetBad, ht]

/-- A job's first fault sends it to another pipeline. -/
theorem actJobFinish_of_first_fault (hfirst : j.reran = false) :
    actJobFinish p true s = .next (((s.jobFault p).requeue x j p true).count .shtStat_rerun).shuttleRun := by
  obtain ⟨hj, hbanks, hin, hout, hdata, hrecs⟩ := h
  simp [actJobFinish, hj, hbanks, hin, hout, hdata, hrecs, State.meetBad, hfirst, State.jobFault]

/-- A job's second fault ends its stream. -/
theorem actJobFinish_of_second_fault (hsecond : j.reran = true) :
    actJobFinish p true s = .next ((((s.jobFault p).latch (0x100 + p) 1).report (0x100 + p) 0x03 3 1
      (repStitch p)).endStrm x.id stRetryExhausted (resultOf 0xFF 1 (0x100 + p))).shuttleRun := by
  obtain ⟨hj, hbanks, hin, hout, hdata, hrecs⟩ := h
  simp [actJobFinish, hj, hbanks, hin, hout, hdata, hrecs, State.meetBad, hsecond, State.jobFault]

end

/-! ## Outputs drain to host memory (R102, R172) -/

/-- The outputs of job `j` of stream `x` wait for their drain to host memory, without side records, and its output
buffer serves with no uncorrectable word. -/
structure State.Draining (s : State) (id : Nat) (x : Strm) (j : Job) : Prop where
  flight : s.strm id = some x
  noWriteBack : s.bolt.writeBack = false
  oldest : x.jobs.find? (fun j => j.at_ == .draining) = some j
  toHost : x.dst0.space = 0
  noRecs : recLen x.chain = 0
  noSide : j.side = []
  banksServe : s.banksWait (s.areaBanks j.outBuf j.outLen 0) = false
  bufUnfenced : s.areaFenced j.outBuf j.outLen 0 = false
  dataGood : s.areaBad (s.bufAt j.outBuf) j.outLen = []
  sideGood : s.areaBad (s.sideAt j.outBuf) 0 = []

theorem vecFenced_of_host {s : State} {v : Vec} (h : v.space = 0) (k n : Nat) : s.vecFenced v k n = none := by
  simp [State.vecFenced, h]

theorem vecBanks_of_host {s : State} {v : Vec} (h : v.space = 0) (k n : Nat) : s.vecBanks v k n = [] := by
  simp [State.vecBanks, h]

theorem actOutputDrainDone_of_host {s : State} {id : Nat} {x : Strm} {j : Job} (h : s.Draining id x j)
    {m : Resp × State} (hm : m = s.drainTo x x.dst0 x.length j.outOff (s.drainBytes j).1) (hok : m.1 = .ok) :
    actOutputDrainDone id .ok s = .next ((((m.2.setSht { m.2.sht with free := m.2.sht.free + 1 }).mapStrm id
      (fun x => { x with jobs := x.jobs.filter (fun i => i.no != j.no) })).noteDone id).shuttleRun) := by
  obtain ⟨hx, hwb, hj, hhost, hrec, hside, hbanks, hbuf, hdata, hrecs⟩ := h
  have hlen : j.sideLen = 0 := by simp [Job.sideLen, hside]
  have hcut : (s.drainBytes j).2 = [] := by simp [State.drainBytes, hside, cutRecs]
  simp only [actOutputDrainDone, hx, hwb, hj, hrec, hside, hlen, hcut, hbanks, hbuf, hdata, hrecs, ← hm, hok, hhost,
    vecFenced_of_host hhost, vecBanks_of_host hhost, List.findSome?_nil, Option.none_or, List.map_nil, List.flatten_nil,
    List.nil_append, List.append_nil, List.isEmpty_nil, List.foldl_nil, Bool.false_and, Bool.false_eq_true, if_false,
    bne_self_eq_false, Bool.and_false, Bool.or_self, Bool.not_true]

/-- Every write of host bytes noted is of the descriptor `key`. -/
def State.WroteAlone (s : State) (key : Nat × Nat) : Prop := ∀ p ∈ s.rings.wrote, p.owner = key

theorem isShared_of_wroteAlone {s : State} {key : Nat × Nat} (h : s.WroteAlone key) (fn a : Nat) :
    s.isShared fn key a = false := by
  rw [State.isShared, List.any_eq_false]
  intro p hp
  simp [h p hp]

theorem mem_or_eq_of_mem_replace {α : Type} [BEq α] {a b c : α} {l : List α} (h : a ∈ l.replace b c) :
    a ∈ l ∨ a = c := by
  induction l with
  | nil => exact .inl h
  | cons d l ih =>
    rw [List.replace_cons] at h
    split at h
    · exact (List.mem_cons.1 h).symm.imp_left (List.mem_cons_of_mem d)
    · rcases List.mem_cons.1 h with rfl | h
      · exact .inl List.mem_cons_self
      · exact (ih h).imp_left (List.mem_cons_of_mem d)

/-- What a note adds is the descriptor's own: its last write extended, or a new one. -/
theorem noteWrote_wroteAlone {s : State} {key : Nat × Nat} (h : s.WroteAlone key) (fn a n : Nat) :
    (s.noteWrote fn key a n).WroteAlone key := by
  unfold State.noteWrote
  split
  · exact h
  dsimp only
  split
  case h_1 last hlast =>
    intro p hp
    rcases mem_or_eq_of_mem_replace hp with hp | rfl
    · exact h p hp
    · exact h last (List.mem_of_find?_eq_some hlast)
  case h_2 =>
    intro p hp
    rcases List.mem_append.1 hp with hp | hp
    · exact h p hp
    · rw [List.mem_singleton.1 hp]

theorem post_host (s : State) (fn a : Nat) (bs : List Byte) (r : Bool) : (s.post fn a bs r).host =
    if s.canIssue fn then Store.putAll hostDefault s.host (hostKey fn a) (bs.map some) else s.host := by
  unfold State.post
  split <;> rfl

@[simp] theorem post_rings (s : State) (fn a : Nat) (bs : List Byte) (r : Bool) :
    (s.post fn a bs r).rings = s.rings := by
  unfold State.post
  split <;> rfl

@[simp] theorem post_canIssue (s : State) (fn a : Nat) (bs : List Byte) (r : Bool) (g : Nat) :
    (s.post fn a bs r).canIssue g = s.canIssue g := by
  unfold State.post
  split <;> rfl

@[simp] theorem noteWrote_host (s : State) (fn : Nat) (key : Nat × Nat) (a n : Nat) :
    (s.noteWrote fn key a n).host = s.host := by
  unfold State.noteWrote
  split <;> rfl

@[simp] theorem noteWrote_canIssue (s : State) (fn : Nat) (key : Nat × Nat) (a n g : Nat) :
    (s.noteWrote fn key a n).canIssue g = s.canIssue g := by
  unfold State.noteWrote
  split <;> rfl

/-- Where no byte is another descriptor's, the write is the bytes'. -/
theorem sharedWrite_of_unshared {s : State} {fn a : Nat} {key : Nat × Nat} {bs : List Byte}
    (h : ∀ i < bs.length, s.isShared fn key (a + i) = false) :
    s.sharedWrite fn key a bs = (s.dataWrite fn a bs).noteWrote fn key a bs.length := by
  have hnone : ((List.range bs.length).map (fun i => s.isShared fn key (a + i))).any id = false := by
    simpa using h
  simp [State.sharedWrite, hnone]

theorem sharedWrite_host_of_unshared {s : State} {fn a : Nat} {key : Nat × Nat} (h : s.isShared fn key a = false)
    (b : Byte) : (s.sharedWrite fn key a [b]).host = (s.hostWrite fn a [b]).host := by
  rw [sharedWrite_of_unshared (by simpa using h), noteWrote_host]
  exact (post_host ..).trans (post_host ..).symm

theorem sharedWrite_host_of_shared {s : State} {fn a : Nat} {key : Nat × Nat} (h : s.isShared fn key a = true)
    (b : Byte) : (s.sharedWrite fn key a [b]).host = (s.hostWrite fn a (s.freshBytes 1).1).host := by
  have hfree : s.sharedWrite fn key a [b] =
      ((s.freshBytes 1).2.dataWrite fn a (s.freshBytes 1).1).noteWrote fn key a 1 := by
    simp [State.sharedWrite, h, State.freshBytes, freeBytes]
  rw [hfree, noteWrote_host]
  exact (post_host ..).trans (post_host s ..).symm

/-- Runs that one descriptor writes alone leave in host memory what plain writes of them leave. -/
theorem foldl_sharedWrite_host (fn : Nat) {key : Nat × Nat} (runs : List (Nat × List Byte)) {s t : State}
    (halone : s.WroteAlone key) (hhost : s.host = t.host) (hissue : s.canIssue fn = t.canIssue fn) :
    (runs.foldl (fun s e => s.sharedWrite fn key e.1 e.2) s).host =
      (runs.foldl (fun s e => s.dataWrite fn e.1 e.2) t).host := by
  induction runs generalizing s t with
  | nil => exact hhost
  | cons e runs ih =>
    rw [List.foldl_cons, List.foldl_cons, sharedWrite_of_unshared (fun i _ => isShared_of_wroteAlone halone fn _)]
    apply ih
    case halone =>
      apply noteWrote_wroteAlone
      simpa [State.WroteAlone, State.dataWrite] using halone
    case hhost => simp only [noteWrote_host, State.dataWrite, post_host, hhost, hissue]
    case hissue => simp [State.dataWrite, hissue]

/-- A write to a host vector is the posted writes of its runs. -/
theorem vecWrite_of_host {v : Vec} (h : v.space = 0) (s : State) (fn k : Nat) (bs : List Byte) :
    s.vecWrite fn v k bs = (.ok, (v.runs k bs).foldl (fun s e => s.dataWrite fn e.1 e.2) s) := by
  unfold State.vecWrite
  induction v.runs k bs generalizing s with
  | nil => rfl
  | cons e l ih =>
    rw [List.foldl_cons, List.foldl_cons, ← ih]
    simp [State.runWrite, h]

theorem drainTo_host_of_clear {s : State} {x : Strm} {v : Vec} {n : Nat} (hv : v.space = 0)
    (hclear : x.muddled v n = false) (hwrote : s.rings.wrote = []) (k : Nat) (bs : List Byte) :
    (s.drainTo x v n k bs).2.host = (s.vecWrite x.fn v k bs).2.host := by
  rw [vecWrite_of_host hv]
  cases hposter : x.poster with
  | desc sq cid =>
    simp only [State.drainTo, hclear, hv, hposter, Bool.false_eq_true, if_false]
    exact foldl_sharedWrite_host x.fn _ (fun p hp => by simp [hwrote] at hp) rfl rfl
  | needle m tag gen =>
    simp only [State.drainTo, hclear, hv, hposter, Bool.false_eq_true, if_false, vecWrite_of_host hv]

/-! ## Retirement and the hot reset that waits (R48, R180, R377) -/

theorem actStreamRetire_of_ended {s : State} {r st res : Nat} {x : Strm}
    (hx : s.sht.flight.find? (fun x => x.ring == r) = some x) (hend : x.ended = some (st, res)) :
    actStreamRetire r s = .next (s.retireStrm x st res) := by
  simp only [actStreamRetire, hx, hend]

theorem apart_power : Apart State.power := fun _ _ _ _ _ _ _ _ _ => rfl

theorem countReset_hotDue (s : State) (kind : Nat) : (s.countReset kind).power.hotDue = false := by
  unfold State.countReset
  dsimp only
  split
  · rfl
  · split <;> rfl

/-- Steps that leave the power state alone leave it alone in a row. -/
theorem each_power {f : Nat → State → State} (hf : ∀ i t, (f i t).power = t.power) (s : State) (n : Nat) :
    (s.each n f).power = s.power :=
  foldl_keeps (P := fun t => t.power = s.power) (fun t i h => (hf i t).trans h) _ rfl

theorem weightsBack_power (s : State) : s.weightsBack.power = s.power := by
  refine each_power (fun f t => ?_) s 256
  split <;> rfl

theorem nameResets_hotDue (s : State) : s.nameResets.power.hotDue = s.power.hotDue :=
  foldl_keeps (P := fun t => t.power.hotDue = s.power.hotDue)
    (fun t _ h => (congrArg Power.hotDue (apart_power.errEmit t _)).trans h) _ rfl

theorem oweReset_hotDue (s : State) (kind : Nat) : (s.oweReset kind).power.hotDue = s.power.hotDue := by
  unfold State.oweReset
  dsimp only
  split
  · exact nameResets_hotDue _
  · rfl

theorem resetBy_hotDue (s : State) (kind : Nat) : (s.resetBy kind).power.hotDue = false := by
  simp only [State.resetBy, oweReset_hotDue, weightsBack_power, countReset_hotDue, apply_ite State.power,
    apply_ite Power.hotDue, ite_self]

theorem islandsReset_power (s : State) : s.islandsReset.power = s.power := by
  refine each_power (fun k t => ?_) s 79
  simp only [apply_ite State.power, wr_power, ite_self]

theorem islandUp_power (s : State) (i : Nat) : (s.islandUp i).power = s.power := by
  unfold State.islandUp
  split <;> rfl

theorem ungateQuad_power (s : State) (q : Nat) : (s.ungateQuad q).power = s.power := by
  refine each_power (fun i t => ?_) s 4
  dsimp only
  split <;> rfl

theorem startIsland_power (s : State) (i : Nat) : (s.startIsland i).power = s.power := by
  unfold State.startIsland
  split
  · rfl
  split
  · exact (ungateQuad_power _ _).trans (islandUp_power s _)
  · exact islandUp_power s i

theorem startIslands_power (s : State) : s.startIslands.power = s.power := by
  unfold State.startIslands
  split
  · rfl
  refine each_power (fun i t => ?_) s 85
  split
  · rfl
  · exact startIsland_power t i

/-- A hot reset that has begun waits no more. -/
theorem hotResetNow_hotDue (s : State) : s.hotResetNow.power.hotDue = false := by
  have hreset : (s.resetBy 3).islandsReset.power.hotDue = false := by rw [islandsReset_power, resetBy_hotDue]
  simp only [State.hotResetNow, startIslands_power, hreset]

theorem settle_of_due {s : State} (hdue : s.power.hotDue = true) (hin : s.insideWork = false) :
    s.settle = s.hotResetNow.settle := by
  have hnow : s.hotWhenDone = s.hotResetNow := if_pos (by rw [hdue, hin]; rfl)
  unfold State.settle
  rw [hnow, hotWhenDone_of_none (hotResetNow_hotDue s)]

/-- Settles O38: each command where its stream stands ready for it, the host bytes of a drain, the reset that waited. -/
theorem streamLife : Obligations.StreamLife := by
  refine ⟨fun s r n h => ⟨rfl, rfl⟩, fun s id x j hx hwb hj => ?lands, fun s p x j k hj hk hnew hroom => ?built,
    fun s p x j hj => ?finishes, fun s id x j hx hwb hj hhost hrec hside hbanks hbuf hdata hrecs => ?drains,
    fun s fn a key b => ⟨fun h => sharedWrite_host_of_unshared h b, fun h => sharedWrite_host_of_shared h b⟩,
    fun s r st res x hx hend => ⟨?retires, settle_of_due⟩⟩
  case lands =>
    intro nRec recAt nHost hsrc hrecs hbanks hbuf
    have h : s.Landing id x j := ⟨hx, hwb, hj, hsrc, hrecs, hbanks, hbuf⟩
    refine ⟨fun bs hlen => ⟨fun hok => ?_, fun hbad => ?_, landBytes_of_host hlen⟩, fun hlost => ?_⟩
    · exact congrArg settled ((actChunkSourceLand_of_data h hlen rfl).trans (congrArg _ (if_pos hok)))
    · exact congrArg settled ((actChunkSourceLand_of_data h hlen rfl).trans (congrArg _ (if_neg hbad)))
    · exact congrArg settled (actChunkSourceLand_of_lost h hlost)
  case built => exact congrArg settled (actKeyScheduleBuilt_of_new hj hk hnew hroom rfl)
  case finishes =>
    intro q t v hbanks hin hout hdata hrecs
    have h : s.Running p x j := ⟨hj, hbanks, hin, hout, hdata, hrecs⟩
    exact ⟨congrArg settled (actJobFinish_of_good h rfl),
      fun hfirst => congrArg settled (actJobFinish_of_first_fault h hfirst),
      fun hsecond => congrArg settled (actJobFinish_of_second_fault h hsecond)⟩
  case drains =>
    intro out m hok
    have h : s.Draining id x j := ⟨hx, hwb, hj, hhost, hrec, hside, hbanks, hbuf, hdata, hrecs⟩
    exact ⟨congrArg settled (actOutputDrainDone_of_host h rfl hok),
      fun hclear hwrote => drainTo_host_of_clear hhost hclear hwrote _ _⟩
  case retires => exact congrArg settled (actStreamRetire_of_ended hx hend)

end Sys2Proof.Machine
end

section
/-! PROOF. What a Needle does at a bundle boundary and between bundles: issue, faults and interrupts that are due, results,
the end of a division (R200, R222, R256, R266, R297). -/

namespace Sys2Proof.Machine

open Sys2Proof

section

variable {s : State} {n : Nat}

/-! ## The boundary -/

/-- An engine's own state written back leaves a canonical store as it is. -/
theorem setNd_nd (h : Store.wf ndlDefault s.ndl = true) (n : Nat) : s.setNd n (s.nd n) = s := by
  unfold State.setNd State.nd
  rw [Store.put_get h]

/-- The engine runs, enters no handler and holds no bundle, and no change of its mode bits is asked for. -/
structure State.AtBoundary (s : State) (n : Nat) : Prop where
  runs : s.ndRuns n = true
  entersNone : (s.nd n).x.entering = none
  unheld : (s.nd n).held = false
  modeKept : (s.nd n).modeReq = false
  canonical : Store.wf ndlDefault s.ndl = true

/-- No fault waits for the boundary: none found at a trigger, none of a store. -/
structure Needle.FaultFree (x : Needle) : Prop where
  deferred : x.x.deferred = none
  storeFlt : x.x.storeFlt = none

/-- Of what comes before a bundle at a boundary, nothing is due: no fault, no interrupt, no resumption. -/
structure Needle.NothingDue (x : Needle) : Prop extends x.FaultFree where
  irq : x.irqDue = none
  resuming : x.x.resuming = false

theorem actBundleIssue_of_held (hruns : s.ndRuns n = true) (henter : (s.nd n).x.entering = none)
    (hheld : (s.nd n).held = true) (ecc : Bool) : actBundleIssue n ecc s = .next (s.issueAt n) := by
  simp [actBundleIssue, hruns, henter, hheld]

section

variable (h : s.AtBoundary n)
include h

theorem actBundleIssue_of_deferred {e : ElemFlt} (he : (s.nd n).x.deferred = some e) (ecc : Bool) :
    actBundleIssue n ecc s = .next (s.ndFault n (elemFault e.rec_ (e.element, e.cause, e.addr)).1 (some e)) := by
  simp [actBundleIssue, h.runs, h.entersNone, h.unheld, h.modeKept, setNd_nd h.canonical, he]

theorem actBundleIssue_of_irqDue (hf : (s.nd n).FaultFree) {c : Nat} (hc : (s.nd n).irqDue = some c) (ecc : Bool) :
    actBundleIssue n ecc s = .next (s.takeIrq n c) := by
  simp [actBundleIssue, h.runs, h.entersNone, h.unheld, h.modeKept, setNd_nd h.canonical, hf.deferred, hf.storeFlt, hc]

/-- With nothing due, the bundle at pc is fetched unless a long operation lasts. -/
theorem actBundleIssue_of_nothingDue (hd : (s.nd n).NothingDue) (ecc : Bool) :
    actBundleIssue n ecc s =
      .next (if (s.nd n).u.longOp = [] then s.fetchIssue n ecc else s.heldAt n false) := by
  by_cases hlong : (s.nd n).u.longOp = [] <;>
    simp [actBundleIssue, h.runs, h.entersNone, h.unheld, h.modeKept, setNd_nd h.canonical, hd.deferred, hd.storeFlt,
      hd.irq, hd.resuming, hlong]

end

/-- A fetch whose bytes meet no error is an issue at pc. -/
theorem fetchIssue_of_noEcc : s.fetchIssue n false = s.issueAt n := rfl

/-! ## Results and the end of a division -/

/-- A unit whose results are pushed by nothing but UNIT_RESULT_PUSH, and with no more to it than the push. -/
structure NUnit.PushesOnly (u : NUnit) : Prop where
  lsu : u ≠ .lsu
  strm : u ≠ .strm
  evt : u ≠ .evt
  div : u ≠ .div
  bigm : u ≠ .bigm
  fpu : u ≠ .fpu
  queued : u.depth ≠ 0

theorem actUnitResultPush_of_oldest {unit : Nat} {u : NUnit} {e : QEnt} {l : List QEnt} (hunit : unitOf unit = some u)
    (hu : u.PushesOnly) (hl : pushOldest ((s.nd n).q 0 u) = some (e, l)) :
    actUnitResultPush n unit s = .next (s.setNd n ((s.nd n).setQ 0 u l)) := by
  simp [actUnitResultPush, hunit, hu.lsu, hu.strm, hu.evt, hu.div, hu.bigm, hu.fpu, hu.queued, hl]

/-- The engine with its first long operation, a division, ended: `more` are left, DIV's pair is in the queue. -/
def Needle.divEnded (x : Needle) (more : List NUnit) : Needle :=
  let y := { x with u := { x.u with longOp := more } }
  (y.setQ 0 .div (pushAll (y.q 0 .div))).setQ 1 .div (pushAll (y.q 1 .div))

/-- Counting held cycles leaves every engine as it is. -/
@[simp] theorem heldCycles_nd (s : State) (n least m : Nat) : (s.heldCycles n least).nd m = s.nd m := by
  unfold State.heldCycles
  split <;> rfl

theorem actLongOpComplete_of_div {more : List NUnit} (h : (s.nd n).u.longOp = .div :: more) :
    actLongOpComplete n s = .next ((s.heldCycles n 0).setNd n ((s.nd n).divEnded more)) := by
  simp [actLongOpComplete, h, Needle.divEnded]

end

/-- Settles O42: each of the three commands' actions; at a boundary by what is due, in the order in which it comes. -/
theorem needleIssue : Obligations.NeedleIssue := by
  refine ⟨fun s n ecc hruns henter hheld hmode hwf => ?boundary,
    fun s n ecc hruns henter hheld => congrArg settled (actBundleIssue_of_held hruns henter hheld ecc),
    fun s n unit u e l hs hunit hlsu hstrm hevt hdiv hbigm hfpu hdepth hl => ?pushes, fun s n more hlong => ?ends⟩
  case boundary =>
    have h : s.AtBoundary n := ⟨hruns, henter, hheld, hmode, hwf⟩
    refine ⟨fun e he => congrArg settled (actBundleIssue_of_deferred h he ecc),
      fun c hdef hst hc => congrArg settled (actBundleIssue_of_irqDue h ⟨hdef, hst⟩ hc ecc),
      fun hdef hst hirq hres => ?_⟩
    have hact := congrArg settled (actBundleIssue_of_nothingDue h ⟨⟨hdef, hst⟩, hirq, hres⟩ ecc)
    refine ⟨fun hnone => ?fetches, fun hnone hecc => ?issues, fun hlong => ?waits⟩
    case fetches => rwa [if_pos hnone] at hact
    case issues =>
      subst hecc
      rwa [if_pos hnone, fetchIssue_of_noEcc] at hact
    case waits => rwa [if_neg hlong] at hact
  case pushes =>
    exact settled_of_quiet (actUnitResultPush_of_oldest hunit ⟨hlsu, hstrm, hevt, hdiv, hbigm, hfpu, hdepth⟩ hl)
      (quiet_setNd hs n _)
  case ends =>
    intro t x y _
    have hx : x = s.nd n := heldCycles_nd s n 0 n
    have hact := congrArg settled (actLongOpComplete_of_div hlong)
    rwa [← hx] at hact

end Sys2Proof.Machine
end

section
/-! PROOF. The Needle's shifts and rotates, and its division (R232, R233, R235, R236). -/

namespace Sys2Proof.Machine

open Sys2Proof

/-- An operation on operands whose tags its class accepts gives its result. -/
theorem needAll_then {α : Type} {k : TagClass} {xs : List Val} (h : needAll k xs = .ok ()) (r : Except Nat α) :
    (needAll k xs >>= fun _ => r) = r := by
  rw [h]
  rfl

/-! ## Shifts right with sign fill -/

section

variable {a b : Val} (h : needAll .other [a, b] = .ok ())
include h

theorem shfOp_sar (c : Val) : shfOp 0x0A a b c = .ok (int64 (shiftBy 2 64 a.lo b.lo.toNat)) :=
  needAll_then h _

theorem shfOp_sar_word (c : Val) :
    shfOp 0x0F a b c = .ok (int64 (sext32 (shiftBy 2 32 (a.lo.setWidth 32) b.lo.toNat))) :=
  needAll_then h _

end

theorem shiftBy_sar_of_lt {n amt : Nat} (h : amt < n) (x : BitVec n) : shiftBy 2 n x amt = x.sshiftRight amt :=
  congrArg x.sshiftRight (min_eq_left h.le)

/-- A shift by the whole width or more leaves copies of the sign bit (R233). -/
theorem shiftBy_sar_of_ge {n amt : Nat} (h : n ≤ amt) (x : BitVec n) :
    shiftBy 2 n x amt = if x.msb then BitVec.allOnes n else 0 := by
  have hwidth : shiftBy 2 n x amt = x.sshiftRight n := congrArg x.sshiftRight (min_eq_right h)
  rw [hwidth]
  cases hsign : x.msb <;> ext i hi <;> simp [BitVec.getElem_sshiftRight, hsign]

/-! ## Quotient and remainder -/

theorem divide_zero (signed : Bool) {n : Nat} (x : BitVec n) : divide signed n x 0 = (BitVec.allOnes n, x) := if_pos rfl

theorem divide_signed {n : Nat} {y : BitVec n} (hy : y ≠ 0) (x : BitVec n) :
    divide true n x y = (BitVec.ofInt n (x.toInt.tdiv y.toInt), BitVec.ofInt n (x.toInt.tmod y.toInt)) := if_neg hy

theorem divide_unsigned {n : Nat} {y : BitVec n} (hy : y ≠ 0) (x : BitVec n) :
    divide false n x y = (x / y, x % y) := if_neg hy

/-- The most negative number by minus one: the true quotient does not fit, and wraps to the dividend (R236). -/
theorem divide_intMin_allOnes {n : Nat} (hn : 0 < n) :
    divide true n (BitVec.intMin n) (BitVec.allOnes n) = (BitVec.intMin n, 0) := by
  have hminus : (BitVec.allOnes n).toInt = -1 := BitVec.toInt_allOnes.trans (if_pos hn)
  have hne : BitVec.allOnes n ≠ 0 := fun h => hn.ne' (BitVec.allOnes_eq_zero_iff.mp h)
  rw [divide_signed hne, hminus]
  congr 1
  · rw [Int.tdiv_neg, Int.tdiv_one, BitVec.ofInt_neg, BitVec.ofInt_toInt, BitVec.neg_intMin]
  · rw [Int.tmod_neg, Int.tmod_one]
    rfl

/-- Dividend = quotient × divisor + remainder, in words, whether the quotient fits or wraps. -/
theorem divide_mul_add (signed : Bool) {n : Nat} {y : BitVec n} (hy : y ≠ 0) (x : BitVec n) :
    (divide signed n x y).1 * y + (divide signed n x y).2 = x := by
  cases signed with
  | true =>
    rw [divide_signed hy]
    calc BitVec.ofInt n (x.toInt.tdiv y.toInt) * y + BitVec.ofInt n (x.toInt.tmod y.toInt)
        = BitVec.ofInt n (x.toInt.tdiv y.toInt * y.toInt + x.toInt.tmod y.toInt) := by
          rw [BitVec.ofInt_add, BitVec.ofInt_mul, BitVec.ofInt_toInt]
      _ = x := by rw [Int.tdiv_mul_add_tmod, BitVec.ofInt_toInt]
  | false =>
    rw [divide_unsigned hy]
    apply BitVec.eq_of_toNat_eq
    simp [Nat.div_add_mod', Nat.mod_eq_of_lt x.isLt]

/-! ## The division forms -/

theorem sext32_allOnes : sext32 (BitVec.allOnes 32) = BitVec.allOnes 64 := by decide

section

variable {a b : Val} (h : needAll .other [a, b] = .ok ())
include h

theorem divOp_trapping_of_zero (hb : b.lo = 0) : divOp 0x0A a b = .error cDivZero :=
  (needAll_then h _).trans (if_pos hb)

theorem divOp_unsigned_trapping_of_zero (hb : b.lo = 0) : divOp 0x0B a b = .error cDivZero :=
  (needAll_then h _).trans (if_pos hb)

theorem divOp_trapping_of_overflow (ha : a.lo = BitVec.intMin 64) (hb : b.lo = BitVec.allOnes 64) :
    divOp 0x0A a b = .error cOverflow := by
  refine (needAll_then h _).trans ?_
  rw [ha, hb]
  rfl

/-- The 32-bit forms are the division of the low halves, both results sign-extended (R235). -/
theorem divOp_word : divOp 0x0C a b =
    let d := divide true 32 (a.lo.setWidth 32) (b.lo.setWidth 32)
    .ok (int64 (sext32 d.1), int64 (sext32 d.2)) :=
  needAll_then h _

theorem divOp_unsigned_word : divOp 0x0D a b =
    let d := divide false 32 (a.lo.setWidth 32) (b.lo.setWidth 32)
    .ok (int64 (sext32 d.1), int64 (sext32 d.2)) :=
  needAll_then h _

end

/-- Settles O45: each operation is its shift once the tags are accepted; sar by whether the amount reaches the width. -/
theorem shiftAmounts : Obligations.ShiftAmounts := by
  refine ⟨fun a b c h => ?amounts, fun c => ?worked⟩
  case worked => exact ⟨rfl, rfl⟩
  exact ⟨needAll_then h _, needAll_then h _,
    fun hlt => by rw [shfOp_sar h, shiftBy_sar_of_lt hlt], fun hge => by rw [shfOp_sar h, shiftBy_sar_of_ge hge],
    needAll_then h _, needAll_then h _, needAll_then h _, needAll_then h _,
    fun hlt => by rw [shfOp_sar_word h, shiftBy_sar_of_lt hlt],
    fun hge => by rw [shfOp_sar_word h, shiftBy_sar_of_ge hge], needAll_then h _, needAll_then h _⟩

/-- Settles O46: the rows of the division itself, then those of its trapping and 32-bit forms. -/
theorem divisionEdges : Obligations.DivisionEdges := by
  refine ⟨fun signed x => divide_zero signed x, divide_intMin_allOnes (by decide),
    fun _ _ h hb => ⟨divOp_trapping_of_zero h hb, divOp_unsigned_trapping_of_zero h hb⟩,
    fun _ _ => divOp_trapping_of_overflow, fun a b h hb => ?wordZero, fun a b h ha hb => ?wordWraps,
    fun x y hy => ⟨divide_mul_add false hy x, divide_mul_add true hy x⟩⟩
  case wordZero =>
    rw [divOp_word h, divOp_unsigned_word h, hb, divide_zero, divide_zero, ← sext32_allOnes]
    exact ⟨rfl, rfl⟩
  case wordWraps =>
    rw [divOp_word h, ha, hb, divide_intMin_allOnes (by decide)]
    rfl

end Sys2Proof.Machine
end

section
/-! PROOF. Requests to a Needle from outside its instruction stream: interrupt sources, the watchdog, the end of a
critical window (R295, R296, R299). -/

namespace Sys2Proof.Machine

open Sys2Proof

section

variable {s : State} {n : Nat}

/-! ## Interrupt sources (R296) -/

theorem actBudgetExpiry_of_invoked (hinv : (s.nd n).inv ≠ none) : actBudgetExpiry n s = .next (s.raiseIrq n 2) :=
  if_pos (Option.isSome_iff_ne_none.2 hinv)

theorem actFitterInterrupt_of_alive (halive : s.fitterAlive = true) (hn : n ≤ 64) :
    actFitterInterrupt n s = .next (s.raiseIrq n 3) :=
  if_pos (by simp [halive, hn])

theorem actDebugHalt_of_open (hopen : s.debugOpen = true) (hn : n ≤ 64) :
    actDebugHalt n s = .next (s.raiseIrq n 4) :=
  if_pos (by simp [hopen, hn])

/-! ## The watchdog (R295) -/

/-- A Needle whose bundle is held, or lasts with a long operation, faults and is counted; at Keeper or Warden its bucket
takes an event (R433). -/
theorem actWatchdogExpiry_of_busy (hn : n < 64) (hruns : s.ndRuns n = true) (henter : (s.nd n).x.entering = none)
    (hbusy : (s.nd n).held = true ∨ (s.nd n).u.longOp ≠ []) :
    actWatchdogExpiry n s =
      .next ((if 1 ≤ (s.nd n).priv then (s.countSat .ndlCount_watchdog n).bucketEvent n 1
        else s.countSat .ndlCount_watchdog n).ndFault n (mkFlt cWatchdog) none) := by
  have hat : ((s.nd n).held || !(s.nd n).u.longOp.isEmpty) = true := by simpa using hbusy
  simp [actWatchdogExpiry, hruns, henter, hat, hn]

/-! ## The end of a critical window (R299) -/

/-- The window closes; one that lasted to the cap or past it is counted. -/
theorem actCritWindowExpiry_of_open {c : Crit} {t : State} (ht : t = s.setNd n (s.nd n).closeCrit) (hn : n < 64)
    (hc : (s.nd n).x.crit = some c) :
    actCritWindowExpiry n s =
      .next (if t.critCap n ≤ t.cyclesIn n (c.since - c.opened) + c.asked then t.countSat .ndlCount_critOverrun n
        else t) := by
  subst ht
  simp only [actCritWindowExpiry, hc, hn, decide_true, Bool.true_and, decide_eq_true_eq]
  split <;> rfl

end

/-- Settles O44: each command's action; a window's close and its count leave a quiet block quiet. -/
theorem needleInterrupts : Obligations.NeedleInterrupts := by
  refine ⟨fun s n hinv => congrArg settled (actBudgetExpiry_of_invoked hinv),
    fun s n halive hn => congrArg settled (actFitterInterrupt_of_alive halive hn),
    fun s n hopen hn => congrArg settled (actDebugHalt_of_open hopen hn),
    fun s n hn hruns henter hbusy => congrArg settled (actWatchdogExpiry_of_busy hn hruns henter hbusy),
    fun s n c hs hn hc => ?window⟩
  case window =>
    have hclosed : (s.setNd n (s.nd n).closeCrit).Quiet := quiet_setNd hs n _
    refine settled_of_quiet (actCritWindowExpiry_of_open rfl hn hc) ?_
    split
    · exact quiet_countSat hclosed _ _ _ rfl
    · exact hclosed

end Sys2Proof.Machine
end

section
/-! PROOF. What memory gives and takes of a Needle (R241, R242, R265-R267, R294, R306, R337): answers to loads, stores
at the front of the buffer, the elements and the count of a gather. -/

namespace Sys2Proof.Machine

open Sys2Proof

section

variable {s : State} {n : Nat}

/-! ## Loads (R239, R242, R306) -/

/-- An access that memory answers meets no failure, and its answer draws no free value. -/
theorem memFails_ok (s : State) (n : Nat) (halves : List Nat) : s.memFails n .ok halves = (none, s) := rfl

/-- A fault of memory is a load fault at the half that failed (R294). -/
theorem memFails_fault (s : State) (n : Nat) (halves : List Nat) :
    s.memFails n .fault halves = (some (cLoad, (s.failedHalf halves).1), (s.failedHalf halves).2) := rfl

theorem actLoadReturn_of_oldest {ans : MemAnswer} {e : QEnt} {l : List QEnt} {m : Option (Nat × Nat) × State}
    (hm : m = s.memFails n ans e.addrs) (he : oldestLoad ((s.nd n).q 0 .lsu) = some e)
    (hl : returnOldest m.1 ((s.nd n).q 0 .lsu) = some l) :
    actLoadReturn n ans s = .next (m.2.setNd n ((s.nd n).setQ 0 .lsu l)) := by
  subst hm
  simp [actLoadReturn, he, hl]

/-- The engine with these direct loads pending. -/
def Needle.withDirects (x : Needle) (ds : List Direct) : Needle := { x with m := { x.m with directs := ds } }

section

variable {d : Direct} {ds : List Direct} (hd : (s.nd n).m.directs = d :: ds) (hgather : d.gather = none)
  (hbad : d.bad = none)
include hd hgather hbad

/-- A direct load that memory answers writes its registers. -/
theorem actDirectLoadWrite_of_ok :
    actDirectLoadWrite n .ok s = .next ((s.setNd n (((s.nd n).withDirects ds).writeDirect d none)).tryEnter n) := by
  simp [actDirectLoadWrite, hd, hgather, hbad, memFails_ok, Needle.withDirects]

/-- One that memory fails leaves its fault at its registers, for the first bundle that reads one (R306). -/
theorem actDirectLoadWrite_of_fault {h : Nat × State} (hh : h = s.failedHalf d.addrs) :
    actDirectLoadWrite n .fault s =
      .next ((h.2.setNd n (((s.nd n).withDirects ds).noteRegs d (mkFlt cLoad none (some h.1)) none)).tryEnter n) := by
  subst hh
  simp [actDirectLoadWrite, hd, hgather, hbad, memFails_fault, Needle.withDirects]

end

/-! ## Stores (R241, R242) -/

section

variable {e : SbEnt} {es : List SbEnt} (he : (s.nd n).m.sbuf = e :: es)
include he

theorem actStoreFaultReport_of_fault : actStoreFaultReport n false s = .next (s.storeFails n e cStore) := by
  simp [actStoreFaultReport, he]

theorem actStoreFaultReport_of_ecc (hecc : (s.ndEcc n e.addr).1 = false) :
    actStoreFaultReport n true s = .next ((s.ndEcc n e.addr).2.storeFails n e cEcc) := by
  simp [actStoreFaultReport, he, hecc]

/-- A store whose cache line could be read again is performed (R337). -/
theorem actStoreFaultReport_of_readAgain (hecc : (s.ndEcc n e.addr).1 = true) :
    actStoreFaultReport n true s = .next ((s.ndEcc n e.addr).2.storeOne n) := by
  simp [actStoreFaultReport, he, hecc]

end

/-! ## Gathers (R265-R267) -/

/-- The state with element `i` of a gather of engine `n` failed for `cause` at `addr`. -/
def State.elementFailed (s : State) (n i cause addr : Nat) : State :=
  s.setNd n ((s.nd n).withDirects (failGather i cause addr (s.nd n).m.directs))

section

variable {i : Nat} {l : List Nat} {h : Nat × State} (hl : elemAt i (s.nd n).m.directs = some l)
  (hh : h = s.failedHalf l)
include hl hh

theorem actGatherElementFault_of_fault :
    actGatherElementFault n i false s = .next (h.2.elementFailed n i cLoad h.1) := by
  subst hh
  simp [actGatherElementFault, hl, State.elementFailed, Needle.withDirects]

theorem actGatherElementFault_of_ecc (hecc : (h.2.ndEcc n h.1).1 = false) :
    actGatherElementFault n i true s = .next ((h.2.ndEcc n h.1).2.elementFailed n i cEcc h.1) := by
  subst hh
  simp [actGatherElementFault, hl, hecc, State.elementFailed, Needle.withDirects]

/-- An element whose cache line could be read again does not fault (R337). -/
theorem actGatherElementFault_of_readAgain (hecc : (h.2.ndEcc n h.1).1 = true) :
    actGatherElementFault n i true s = .next (h.2.ndEcc n h.1).2 := by
  subst hh
  simp [actGatherElementFault, hl, hecc]

end

/-- The engine with VL set. -/
def Needle.withVl (x : Needle) (vl : Nat) : Needle := { x with u := { x.u with vl } }

theorem actVgatherFfCount_of_decided {m : Nat} {l : List QEnt} (hl : pushFf ((s.nd n).q 0 .vec) = some (m, l)) :
    actVgatherFfCount n s = .next (s.setNd n (((s.nd n).setQ 0 .vec l).withVl m)) := by
  simp [actVgatherFfCount, hl, Needle.withVl]

end

/-- Settles O43: each command's action on what it finds; the answer, the failed half and the ECC outcome choose the
case. -/
theorem needleMemory : Obligations.NeedleMemory := by
  refine ⟨fun s n ans e l he => ?load, fun s n d ds hd hgather hbad => ?direct, fun _ _ => rfl,
    fun s n ecc e es he => ⟨?storeFault, ?storeEcc, ?storeAgain⟩,
    fun s n i l hl => ⟨?element, ?elementEcc, ?elementAgain⟩, fun s n m l hs hl => ?count⟩
  case load =>
    intro m hl
    refine ⟨congrArg settled (actLoadReturn_of_oldest rfl he hl), ?_⟩
    rintro rfl
    exact memFails_ok s n e.addrs
  case direct =>
    exact ⟨congrArg settled (actDirectLoadWrite_of_ok hd hgather hbad),
      congrArg settled (actDirectLoadWrite_of_fault hd hgather hbad rfl)⟩
  case storeFault =>
    rintro rfl
    exact congrArg settled (actStoreFaultReport_of_fault he)
  case storeEcc =>
    rintro rfl hecc
    exact congrArg settled (actStoreFaultReport_of_ecc he hecc)
  case storeAgain =>
    rintro rfl hecc
    exact congrArg settled (actStoreFaultReport_of_readAgain he hecc)
  case element => exact congrArg settled (actGatherElementFault_of_fault hl rfl)
  case elementEcc => exact fun hecc => congrArg settled (actGatherElementFault_of_ecc hl rfl hecc)
  case elementAgain => exact fun hecc => congrArg settled (actGatherElementFault_of_readAgain hl rfl hecc)
  case count => exact settled_of_quiet (actVgatherFfCount_of_decided hl) (quiet_setNd hs n _)

end Sys2Proof.Machine
end

section
/-! PROOF. The Bolt's banks (R329, R339, R341, R342, R345, R346): power states and wake, donors, the cache's write-back,
the scrubber, one cycle of arbitration. -/

namespace Sys2Proof.Machine

open Sys2Proof

section

variable {s : State}

/-! ## Power states (R341, R342) -/

/-- The idle time of a bank may end its service: the bank exists and is on, the timeout is set, and the bank holds
neither the vault nor sessions, which stay on. -/
structure State.BankMayIdle (s : State) (b : Nat) : Prop where
  inRange : b < 48
  timed : s.rd .boltPwrIdle_idleUs ≠ 0
  on : s.rd .boltBankState_power b = 0
  part : 1 < s.partOfBank b

section

variable {b : Nat} (h : s.BankMayIdle b)
include h

/-- A policy that does not keep the bank on retains it, or lets it go off: its contents are lost, a cache bank's lines
written back first. -/
theorem actBankIdleTimeout_of_policy (hpol : s.rd .boltBankCfg_pwr b ≠ 0) :
    actBankIdleTimeout b s =
      if s.rd .boltBankCfg_pwr b = 1 then .next (s.wr .boltBankState_power b 1)
      else .next (((if s.partOfBank b = 3 then s.cacheEmptyBank b else s).loseBank b).wr .boltBankState_power b 2) :=
  if_neg (by simp [h.inRange, h.timed, h.on, h.part, hpol])

theorem actBankIdleTimeout_of_retain (hpol : s.rd .boltBankCfg_pwr b = 1) :
    actBankIdleTimeout b s = .next (s.wr .boltBankState_power b 1) :=
  (actBankIdleTimeout_of_policy h (by omega)).trans (if_pos hpol)

theorem actBankIdleTimeout_of_off (hpol : 2 ≤ s.rd .boltBankCfg_pwr b) :
    actBankIdleTimeout b s =
      .next (((if s.partOfBank b = 3 then s.cacheEmptyBank b else s).loseBank b).wr .boltBankState_power b 2) :=
  (actBankIdleTimeout_of_policy h (by omega)).trans (if_neg (by omega))

end

theorem actBankWakeDone_of_waking {b : Nat} (hb : b < 48) (hwaking : s.rd .boltBankState_power b = 3) :
    actBankWakeDone b s = .next (s.wr .boltBankState_power b 0) :=
  if_pos ⟨hb, hwaking⟩

/-! ## Donors and the cache's write-back (R345, R346) -/

/-- The copy `c`, a place and its donor, is done: the donor serves the place in the stead of the one before it. -/
def State.donorServes (s : State) (c : Nat × Nat) : State :=
  (s.dropDonor c.1).setBolt { (s.dropDonor c.1).bolt with
    copying := (s.dropDonor c.1).bolt.copying.erase c, donors := (s.dropDonor c.1).bolt.donors ++ [c] }

theorem actDonorCopyDone_of_copying {b donor : Nat}
    (hcopy : s.bolt.copying.find? (fun c => c.1 == b) = some (b, donor)) :
    actDonorCopyDone b s =
      .next
        (((s.donorServes (b, donor)).wr .boltBankState_donor donor 1).wr .boltBankState_replaces donor b).showLayout := by
  simp [actDonorCopyDone, hcopy, State.donorServes]

/-- Dirty lines are written back once set-up is locked and every channel serves or is retired. -/
theorem actCacheWritebackDone_of_ready (hwrite : s.bolt.writeBack = true) (hlock : s.locked = true)
    (hddr : ∀ c < 8, s.flag .ddrcState_retired c = true ∨ s.isReady (readyDdr c) = true) :
    actCacheWritebackDone s = .next (s.cacheEmpty.setBolt { s.cacheEmpty.bolt with writeBack := false }) := by
  have hall : (List.range 8).all (fun c => s.flag .ddrcState_retired c || s.isReady (readyDdr c)) = true := by
    rw [List.all_eq_true]
    intro c hc
    rw [Bool.or_eq_true]
    exact hddr c (List.mem_range.1 hc)
  simp [actCacheWritebackDone, hwrite, hlock, hall]

/-! ## Scrub (R339) -/

section

variable {ecc : EccEvent} {wrote : Bool} (hrate : s.rd .boltScrub_rateMbs ≠ 0)
include hrate

/-- The word is read, and the scrub stands at the next word of a bank it reads; a pass that ends on either way is
counted. -/
theorem actBoltScrubRead_of_next {w : Nat} {before : Bool} {t : State} {v : Nat} {next : Nat × Bool}
    (ht : t = (s.scrubPass before).scrubFound (w / 65536) (w % 65536) ecc wrote) (hv : v = (w + 1) % (48 * 65536))
    (hnext : next = (t.scrubNext 49 v (v == 0)).getD (v, v == 0))
    (hw : s.scrubNext 48 s.bolt.scrubAt false = some (w, before)) :
    actBoltScrubRead ecc wrote s = .next ((t.setBolt { t.bolt with scrubAt := next.1 }).scrubPass next.2) := by
  subst hnext hv ht
  simp only [actBoltScrubRead, if_neg hrate, hw]

/-- While no bank is on there is nothing to read. -/
theorem actBoltScrubRead_of_none (hnone : s.scrubNext 48 s.bolt.scrubAt false = none) :
    actBoltScrubRead ecc wrote s = .next s := by
  simp only [actBoltScrubRead, if_neg hrate, hnone]

end

/-! ## One cycle of the banks (R329) -/

/-- Of steps that each leave the state as it is but for one, that one is all that is done. -/
theorem each_of_single {n b : Nat} {f : Nat → State → State} (hb : b < n) (hfix : ∀ i ≠ b, ∀ t, f i t = t)
    (s : State) : s.each n f = f b s := by
  induction n with
  | zero => exact absurd hb (Nat.not_lt_zero b)
  | succ n ih =>
    rw [each_succ]
    by_cases hlast : b = n
    · subst hlast
      rw [each_of_fixed fun i hi => hfix i hi.ne s]
    · rw [ih (by omega), hfix n (Ne.symm hlast)]

/-- What the ports and the commit cycle hold of the cycle before is gone. -/
def State.cycleBegun (s : State) : State := s.setBolt { s.bolt with commits := [], resp := [] }

theorem actBoltCycle_nil (s : State) : actBoltCycle [] s = .next s.cycleBegun :=
  congrArg Host.Outcome.next (each_of_fixed fun _ _ => rfl)

theorem bank_lt_of_wf {r : BoltReq} (h : r.wf = true) : r.bank < 48 := by
  simp only [BoltReq.wf, bankOk, Bool.and_eq_true, decide_eq_true_eq] at h
  omega

/-- One request in normal service is its bank's cycle: every other bank is asked nothing. -/
theorem actBoltCycle_singleton {r : BoltReq} (hr : r.wf = true) (hnormal : s.flag .boltMode_maint = false) :
    actBoltCycle [r] s = .next (s.cycleBegun.bankCycle s.bolt.commits r.bank [r]) := by
  unfold actBoltCycle
  refine congrArg Host.Outcome.next ((each_of_single (bank_lt_of_wf hr) (fun i hi t => ?others) _).trans ?asked)
  case others => simp [hr, hi.symm]
  case asked => simp [hr, hnormal, State.cycleBegun]

end

/-- Settles O47: each command's action in the states named; from a quiet state nothing more follows. -/
theorem boltBanks : Obligations.BoltBanks := by
  refine ⟨fun s b hs hb htimed hon hpart hpol => ?retains, fun s b hb htimed hon hpart hpol => ?off,
    fun s b hs hb hwaking => ?wakes, fun s b donor hcopy => congrArg settled (actDonorCopyDone_of_copying hcopy),
    fun s hwrite hlock hddr => congrArg settled (actCacheWritebackDone_of_ready hwrite hlock hddr),
    fun s ecc wrote hrate => ⟨fun w before hw => ?scrubs, fun hs hnone => ?unscrubbed⟩, fun s hs => ?unasked,
    fun s r hr hnormal => congrArg settled (actBoltCycle_singleton hr hnormal)⟩
  case retains =>
    exact settled_of_quiet (actBankIdleTimeout_of_retain ⟨hb, htimed, hon, hpart⟩ hpol) (quiet_wr hs _ _ _ rfl)
  case off => exact congrArg settled (actBankIdleTimeout_of_off ⟨hb, htimed, hon, hpart⟩ hpol)
  case wakes => exact settled_of_quiet (actBankWakeDone_of_waking hb hwaking) (quiet_wr hs _ _ _ rfl)
  case scrubs => exact congrArg settled (actBoltScrubRead_of_next hrate rfl rfl rfl hw)
  case unscrubbed => exact settled_of_quiet (actBoltScrubRead_of_none hrate hnone) hs
  case unasked => exact settled_of_quiet (actBoltCycle_nil s) (quiet_setBolt hs _)

end Sys2Proof.Machine
end

section
/-! PROOF. Supplies and reset pins (R43, R377, R380, R476, R477): what an assertion starts and a release ends. -/

namespace Sys2Proof.Machine

open Sys2Proof

section

variable {s : State}

/-! ## Assertions: a cold reset in progress absorbs another -/

theorem actPowerOnReset_of_free (h : s.power.inReset ≠ some 1) :
    actPowerOnReset s = .next { s.coldReset with power := { s.coldReset.power with porActive := true } } := by
  simp only [actPowerOnReset, if_neg h]

theorem actPowerOnReset_of_cold (h : s.power.inReset = some 1) :
    actPowerOnReset s = .next { s with power := { s.power with porActive := true } } := by
  simp only [actPowerOnReset, if_pos h]

theorem actSysRstNAssert_of_free (below100 : Bool) (h : s.power.inReset ≠ some 1) :
    actSysRstNAssert below100 s = .next { s.coldReset with power :=
      { s.coldReset.power with sysRst := true, trip := s.coldReset.power.trip && !below100 } } := by
  simp only [actSysRstNAssert, if_neg h]

section

variable (hperst : s.power.perst = false) (hpor : s.power.porActive = false) (hsys : s.power.sysRst = false)
include hperst hpor hsys

theorem actPerstNAssert_of_cold (hwarm : s.flag .rstCtrl_perstWarm = false) :
    actPerstNAssert s = .next ({ s with power := { s.power with perst := true } } : State).coldReset := by
  simp [actPerstNAssert, hperst, hpor, hsys, hwarm]

theorem actPerstNAssert_of_warm (hwarm : s.flag .rstCtrl_perstWarm = true) :
    actPerstNAssert s = .next ({ s with power := { s.power with perst := true } } : State).warmReset := by
  simp [actPerstNAssert, hperst, hpor, hsys, hwarm]

end

/-! ## Releases -/

theorem actPowerOnResetRelease_of_active (h : s.power.porActive = true) :
    actPowerOnResetRelease s = .next ({ s with power := { s.power with porActive := false } } : State).resetEnds :=
  if_neg (by simp [h])

theorem actSysRstNRelease_of_active (h : s.power.sysRst = true) :
    actSysRstNRelease s = .next ({ s with power := { s.power with sysRst := false } } : State).resetEnds :=
  if_neg (by simp [h])

theorem actPerstNRelease_of_active (h : s.power.perst = true) :
    actPerstNRelease s = .next ({ s with power := { s.power with perst := false } } : State).resetEnds :=
  if_neg (by simp [h])

/-- SYS_RST_N holds the reset that the supplies no longer hold. -/
theorem resetEnds_of_sysRst (h : s.power.sysRst = true) : s.resetEnds = s := if_pos (by simp [h])

end

/-- Settles O7: each assertion and each release is its action; the reset that SYS_RST_N still holds does not end. -/
theorem resetPins : Obligations.ResetPins := by
  refine ⟨fun s h => congrArg settled (actPowerOnReset_of_free h), fun s h => congrArg settled (actPowerOnReset_of_cold h),
    fun s hpor _ => congrArg settled (actPowerOnResetRelease_of_active hpor), fun s hpor hsys => ?held,
    fun s below100 h => congrArg settled (actSysRstNAssert_of_free below100 h),
    fun s hsys _ => congrArg settled (actSysRstNRelease_of_active hsys),
    fun s hperst hpor hsys hwarm => congrArg settled (actPerstNAssert_of_cold hperst hpor hsys hwarm),
    fun s hperst hpor hsys hwarm => congrArg settled (actPerstNAssert_of_warm hperst hpor hsys hwarm),
    fun s hperst _ _ => congrArg settled (actPerstNRelease_of_active hperst)⟩
  case held =>
    have hact := actPowerOnResetRelease_of_active hpor
    rw [resetEnds_of_sysRst (s := { s with power := { s.power with porActive := false } }) hsys] at hact
    exact congrArg settled hact

end Sys2Proof.Machine
end

section
/-! PROOF. Hub transactions (R348, R349, R351, R352, R354): what is joined, what is served and what goes back. -/

namespace Sys2Proof.Machine

open Sys2Proof

/-! ## A request served -/

section

variable {s : State} {w : HubWait} (hlive : w.orphan = false)
include hlive

theorem hubServe_of_nothing (h : s.hubDecode w.req.addr = .none) : s.hubServe w = s.hubAnswer w.req 16 .decerr [] := by
  simp [State.hubServe, HubPlace.target, h, hlive]

variable {p : HubPlace} (hp : s.hubDecode w.req.addr = p) (hsome : p ≠ .none)
include hp hsome

theorem hubServe_of_refused (h : s.hubPermits w.req.master w.req.priv p.gate = false) :
    s.hubServe w = (s.hubLog w.req 3).hubAnswer w.req p.target .refused [] := by
  simp [State.hubServe, hp, hsome, h, hlive]

theorem hubServe_of_permitted {x : Resp × List Byte × State} (hx : x = (s.hubGrant w.req p.target).hubTarget w.req repHub p)
    (h : s.hubPermits w.req.master w.req.priv p.gate = true) :
    s.hubServe w = x.2.2.hubAnswer w.req p.target x.1 x.2.1 := by
  simp [State.hubServe, hp, hsome, h, hlive, hx]

end

/-! ## The arbitration, where one transaction waits -/

/-- Every transaction that still waits for its target wakes the bank it waits for. -/
def State.hubWakes (s : State) : State :=
  s.hub.waiting.foldl (fun s w => if s.hubTargetWaits w.req then s.hubWake w.req else s) s

theorem hubDrain_of_clocked {s : State} (h : s.clocked = true) :
    s.hubDrain = (State.hubArb s.hub.waiting.length s).hubWakes := if_pos h

/-- The one transaction that stands before a target is granted, whether its master goes on or is the next in turn. -/
theorem hubChoose_singleton (s : State) (t : Nat) (w : HubWait) : s.hubChoose t [w] = some w := by
  unfold State.hubChoose
  dsimp only [List.foldl_cons, List.foldl_nil]
  split
  next x hx =>
    split at hx
    · exact congrArg some (List.mem_singleton.1 (List.mem_of_find?_eq_some hx))
    · cases hx
  next => rfl

section

variable {s : State} {w : HubWait}

theorem hubFront_of_alone (hwait : s.hub.waiting = [w]) (hroom : s.hubOut w.req.master < s.hubMax w.req.master) :
    s.hubFront = [w] := by
  simp [State.hubFront, hwait, hroom]

theorem hubNext_of_alone (hwait : s.hub.waiting = [w]) (hroom : s.hubOut w.req.master < s.hubMax w.req.master)
    (hready : s.hubTargetWaits w.req = false) : s.hubNext = some w := by
  simp [State.hubNext, hubFront_of_alone hwait hroom, hready, hubChoose_singleton]

/-- What joins an empty queue is taken out of it to be served. -/
theorem hubArb_joined (hempty : s.hub.waiting = []) (hroom : s.hubOut w.req.master < s.hubMax w.req.master)
    (hready : s.hubTargetWaits w.req = false) :
    State.hubArb 1 (s.setHub { s.hub with waiting := [w] }) = s.hubServe w := by
  have hnext : (s.setHub { s.hub with waiting := [w] }).hubNext = some w := hubNext_of_alone rfl hroom hready
  have htaken : s.setHub { s.hub with waiting := [] } = s := by rw [← hempty]; rfl
  simp only [State.hubArb, hnext, setHub_hub, List.erase_cons_head]
  exact congrArg (fun t => State.hubServe t w) htaken

theorem hubDrain_joined (hempty : s.hub.waiting = []) (hclk : s.clocked = true)
    (hroom : s.hubOut w.req.master < s.hubMax w.req.master) (hready : s.hubTargetWaits w.req = false) :
    (s.setHub { s.hub with waiting := s.hub.waiting ++ [w] }).hubDrain = (s.hubServe w).hubWakes := by
  rw [hempty, List.nil_append]
  exact (hubDrain_of_clocked (s := s.setHub { s.hub with waiting := [w] }) hclk).trans
    (congrArg State.hubWakes (hubArb_joined hempty hroom hready))

end

/-! ## The commands -/

theorem actHubRequest_of_wellFormed {r : HubReq} (s : State) (h : hubWellFormed r = true) :
    actHubRequest r s =
      .next (s.setHub { s.hub with waiting := s.hub.waiting ++ [{ req := r, orphan := false }] }).hubDrain :=
  if_neg (by simp [h])

theorem actHubRequest_of_malformed {r : HubReq} (s : State) (h : hubWellFormed r = false) : actHubRequest r s = .next s :=
  if_pos (by simp [h])

theorem actHubResponse_of_answered {s : State} {m id : Nat} {t : HubTx}
    (h : s.hub.flight.find? (fun t => t.req.master == m && t.req.id == id) = some t) :
    actHubResponse m id s = .next (s.setHub { s.hub with flight := s.hub.flight.erase t, back := [t] }).hubDrain := by
  simp only [actHubResponse, h]

theorem actHubResponse_of_none {s : State} {m id : Nat}
    (h : s.hub.flight.find? (fun t => t.req.master == m && t.req.id == id) = none) :
    actHubResponse m id s = .next s := by
  simp only [actHubResponse, h]

end Sys2Proof.Machine
end

section
/-! PROOF. Events and their sources (R17, R358, R361-R365): a cycle of the Tack router, deliveries, GPIO edges, timers. -/

namespace Sys2Proof.Machine

open Sys2Proof

/-! ## A cycle of the router (R361-R365) -/

/-- The pending events are taken and counted, and those of generation 7 are dropped. -/
def State.tackTaken (s : State) : State :=
  (s.tack.pend.filter (fun e => e.2 == 7)).foldl (fun s e => s.loopDrop e.1)
    (s.tack.pend.foldl (fun s e => s.count .tckSrc_raised e.1) (s.setTack { s.tack with pend := [] }))

/-- What reaches the inputs: each live event once for each input its routes name. -/
def State.tackHits (s : State) (evs : List (Nat × Nat)) : List (Nat × Nat × Nat) :=
  ((evs.filter (fun e => e.2 != 7)).map (fun e => (s.routes e.1).map (fun i => (i, e.1, e.2)))).flatten

/-- Each input reached is sent one merged trigger. -/
def State.tackSends (s : State) (hits : List (Nat × Nat × Nat)) : State :=
  ((List.range 285).filter (fun i => hits.any (fun h => h.1 == i))).foldl (fun s i =>
    (s.countSat .tckMerge_count i ((hits.filter (fun h => h.1 == i)).length - 1)).tackSend (mergeAt i hits)) s

section

variable {s : State}

theorem actTackCycle_of_ready (h : s.isReady readyTack = true) :
    actTackCycle s = .next (s.tackTaken.tackSends (s.tackTaken.tackHits s.tack.pend)) := if_neg (by simp [h])

theorem actTackCycle_of_unready (h : s.isReady readyTack = false) : actTackCycle s = .next s := if_pos (by simp [h])

theorem tackTaken_singleton {src gen : Nat} (h : s.tack.pend = [(src, gen)]) (hgen : gen ≠ 7) :
    s.tackTaken = (s.setTack { s.tack with pend := [] }).count .tckSrc_raised src := by
  simp [State.tackTaken, h, hgen]

end

theorem tackHits_singleton (s : State) {src gen : Nat} (hgen : gen ≠ 7) :
    s.tackHits [(src, gen)] = (s.routes src).map (fun i => (i, src, gen)) := by
  simp [State.tackHits, hgen]

theorem tackSends_nil (s : State) : s.tackSends [] = s := by simp [State.tackSends]

theorem range_filter_beq {n i : Nat} (h : i < n) : (List.range n).filter (fun j => i == j) = [i] := by
  have hcount : (List.range n).count i = 1 := List.count_eq_one_of_mem List.nodup_range (List.mem_range.2 h)
  simp only [BEq.comm (a := i), List.filter_beq, hcount, List.replicate_one]

theorem tackSends_singleton (s : State) {i : Nat} (src gen : Nat) (hi : i < 285) :
    s.tackSends [(i, src, gen)] = (s.countSat .tckMerge_count i 0).tackSend (i, min 255 src, gen) := by
  simp [State.tackSends, range_filter_beq hi, mergeAt]

/-! ## Deliveries, GPIO edges, timers -/

section

variable {s : State}

theorem actTackDelivery_of_flying {i : Nat} {line : List (Nat × Nat × Nat)}
    (hline : line = s.tack.flying.filter (fun e => sameSeam e.1 i)) (h : line.any (fun e => e.1 == i) = true) :
    actTackDelivery i s = .next ((seamPrefix i line).foldl (fun s e =>
      (s.setTack { s.tack with flying := s.tack.flying.erase e }).tackArrive e.1 e.2.1 e.2.2) s) := by
  subst hline
  exact if_pos h

theorem actTackDelivery_of_none {i : Nat}
    (h : (s.tack.flying.filter (fun e => sameSeam e.1 i)).any (fun e => e.1 == i) = false) :
    actTackDelivery i s = .next s := if_neg (Bool.eq_false_iff.1 h)

/-- The set-up asks for this edge: the pin is an input, its event is enabled, and the edge is the one selected. -/
def State.edgeChosen (s : State) (pin : Nat) (rising : Bool) : Prop :=
  bitOf (s.rd .periGpioCfg_dir) pin = false ∧ bitOf (s.rd .periGpioEvt_edgeEn) pin = true ∧
    bitOf (s.rd .periGpioEvt_edgeFall) pin = !rising

/-- The pin shows the level the edge leaves. -/
def State.gpioShown (s : State) (pin : Nat) (rising : Bool) : State :=
  { s with pins := { s.pins with gpioIn := withBit s.pins.gpioIn pin rising } }

theorem actGpioEdge_of_chosen {pin : Nat} {rising : Bool} (hpin : pin < 16) (h : s.edgeChosen pin rising) :
    actGpioEdge pin rising s = .next ((s.gpioShown pin rising).raiseTack (162 + pin) 0) := by
  obtain ⟨hdir, hen, hfall⟩ := h
  have hpast : ¬16 ≤ pin := by omega
  refine (if_neg hpast).trans (if_pos ?_)
  simp only [Bool.and_eq_true, Bool.not_eq_true', beq_iff_eq]
  exact ⟨⟨hdir, hen⟩, hfall⟩

theorem actGpioEdge_of_unchosen {pin : Nat} {rising : Bool} (hpin : pin < 16) (h : ¬s.edgeChosen pin rising) :
    actGpioEdge pin rising s = .next (s.gpioShown pin rising) := by
  have hpast : ¬16 ≤ pin := by omega
  refine (if_neg hpast).trans (if_neg fun hall => h ?_)
  simp only [Bool.and_eq_true, Bool.not_eq_true', beq_iff_eq] at hall
  obtain ⟨⟨hdir, hen⟩, hfall⟩ := hall
  exact ⟨hdir, hen, hfall⟩

theorem actGpioEdge_of_past {pin : Nat} (rising : Bool) (hpin : 16 ≤ pin) : actGpioEdge pin rising s = .next s :=
  if_pos hpin

/-- The timer exists, is armed and has a period. -/
def State.timerRuns (s : State) (t : Nat) : Prop := t < 8 ∧ (s.timer t).armed = true ∧ s.rd .periTimer_periodUs t ≠ 0

/-- The timer has expired: one that repeats is armed again, and its time counts from now. -/
def State.timerExpired (s : State) (t : Nat) : State :=
  s.setTimer t { s.timer t with armed := s.flag .periTimer_repeat t, since := s.time }

variable {t : Nat}

theorem actPeriTimerExpiry_of_runs (h : s.timerRuns t) :
    actPeriTimerExpiry t s =
      if (s.timerExpired t).flag .periTimer_event t then
        .next ((s.timerExpired t).raiseTack (178 + t) (match (s.timer t).gen with | some g => g + 1 | none => 0))
      else .next (s.timerExpired t) := by
  obtain ⟨ht, harmed, hperiod⟩ := h
  exact if_neg (by simp [ht, harmed, hperiod])

theorem actPeriTimerExpiry_of_stopped (h : ¬s.timerRuns t) : actPeriTimerExpiry t s = .next s := by
  refine if_pos ?_
  by_contra hgo
  simp only [Bool.or_eq_true, decide_eq_true_eq, Bool.not_eq_true', beq_iff_eq, not_or, Bool.not_eq_false] at hgo
  obtain ⟨⟨ht, harmed⟩, hperiod⟩ := hgo
  exact h ⟨by omega, harmed, hperiod⟩

end

/-- Settles O48: the Hub's transactions by what is joined, served and given back; the router's cycle, where one event is
pending, by the input its routes name. -/
theorem hubAndTack : Obligations.HubAndTack := by
  refine ⟨fun s r hr => ⟨?joins, fun hempty hclk hroom hready => ?alone, fun h => hubServe_of_nothing rfl h,
      fun p hp hsome h => hubServe_of_refused rfl hp hsome h, fun p hp hsome h => hubServe_of_permitted rfl hp hsome rfl h⟩,
    fun s r hr => congrArg settled (actHubRequest_of_malformed s hr),
    fun s m id => ⟨fun t ht => ⟨?responds, fun hempty => ?respondsAlone⟩,
      fun h => congrArg settled (actHubResponse_of_none h)⟩,
    fun s h => congrArg settled (actTackCycle_of_ready h), fun s h => congrArg settled (actTackCycle_of_unready h),
    fun s src gen h hp hgen => ⟨fun hroutes => ?unrouted, fun i hi hroutes => ?routed⟩,
    fun s i => ⟨fun h => congrArg settled (actTackDelivery_of_flying rfl h),
      fun h => congrArg settled (actTackDelivery_of_none h)⟩,
    fun s pin rising => ⟨fun hpin h => congrArg settled (actGpioEdge_of_chosen hpin h),
      fun hpin h => congrArg settled (actGpioEdge_of_unchosen hpin h),
      fun hpin => congrArg settled (actGpioEdge_of_past rising hpin)⟩,
    fun s t => ⟨fun h hev => congrArg settled ((actPeriTimerExpiry_of_runs h).trans (if_pos hev)),
      fun h hev => congrArg settled ((actPeriTimerExpiry_of_runs h).trans (if_neg (Bool.eq_false_iff.1 hev))),
      fun h => congrArg settled (actPeriTimerExpiry_of_stopped h)⟩⟩
  case joins => exact congrArg settled (actHubRequest_of_wellFormed s hr)
  case alone =>
    have hact := actHubRequest_of_wellFormed s hr
    rw [hubDrain_joined hempty hclk hroom hready] at hact
    exact congrArg settled hact
  case responds => exact congrArg settled (actHubResponse_of_answered ht)
  case respondsAlone =>
    have hact := actHubResponse_of_answered ht
    rw [hubDrain_of_nil (by exact hempty)] at hact
    exact congrArg settled hact
  all_goals
    have hact := actTackCycle_of_ready h
    rw [hp, tackTaken_singleton hp hgen, tackHits_singleton _ hgen, hroutes] at hact
  case unrouted =>
    rw [List.map_nil, tackSends_nil] at hact
    exact congrArg settled hact
  case routed =>
    rw [List.map_singleton, tackSends_singleton _ src gen hi] at hact
    exact congrArg settled hact

end Sys2Proof.Machine
end

section
/-! PROOF. Clocks and islands (R369, R370, R372, R373, R375, R377, R486): CLOCK_HOLD, the root, trips, divisors, droops and
the resets of single islands. -/

namespace Sys2Proof.Machine

open Sys2Proof

section

variable {s : State}

/-! ## The crystal and the root -/

theorem actMissingEdge_of_locked {t : State} (ht : t = s.clocksStop.countSat .rstStatus_holdCount)
    (hpor : s.power.porActive = false) (hroot : s.power.rootLock = true) :
    actMissingEdge s = .next { t with power := { t.power with
      hold := true, holdCause := if t.power.inReset = some 2 then some 2 else none } } := by
  subst ht
  exact (if_neg (Bool.eq_false_iff.1 hpor)).trans (if_pos hroot)

theorem actMissingEdge_of_unlocked (hpor : s.power.porActive = false) (hroot : s.power.rootLock = false) :
    actMissingEdge s = .next (({ s with power := { s.power with xtalStable := false } } : State).countSat
      .clkStatus_judgeRestarts) :=
  (if_neg (Bool.eq_false_iff.1 hpor)).trans (if_neg (Bool.eq_false_iff.1 hroot))

/-- A supply, pin or clock state other than a hot reset that waits leaves a quiet block quiet. -/
theorem quiet_power (h : s.Quiet) (p : Power) (hp : p.hotDue = s.power.hotDue) : ({ s with power := p } : State).Quiet :=
  quiet_of_agree h rfl rfl rfl rfl rfl rfl (fun _ _ _ => rfl) hp

section

variable (hthm : s.thmHeld = false) (hroot : s.power.rootLock = false)
include hthm hroot

theorem actXtalJudgedStable_of_unlocked :
    actXtalJudgedStable s = .next { s with power := { s.power with xtalStable := true } } :=
  if_neg (by simp [hthm, hroot])

variable {t : State} (ht : t = { s with power := { s.power with rootLock := true, hold := false, holdCause := none } })
  (hxtal : s.power.xtalStable = true)
include ht hxtal

/-- The lock starts the islands, after the restart of R377 where CLOCK_HOLD ends and no warm reset takes its place. -/
theorem actRootPllLock_of_stable :
    actRootPllLock s = .next (if s.power.hold && s.power.holdCause.isNone then t.resetBy 4
      else t).thimbleRuns.spreadLock.startIslands := by
  subst ht
  exact if_neg (by simp [hthm, hroot, hxtal])

theorem actRootPllLock_of_noRestart (h : s.power.hold = false ∨ s.power.holdCause ≠ none) :
    actRootPllLock s = .next t.thimbleRuns.spreadLock.startIslands := by
  have hno : ¬(s.power.hold && s.power.holdCause.isNone) = true := by
    rw [Bool.and_eq_true, Option.isNone_iff_eq_none, not_and_or]
    exact h.imp_left Bool.eq_false_iff.1
  rw [actRootPllLock_of_stable hthm hroot ht hxtal, if_neg hno]

theorem actRootPllLock_of_restart (hhold : s.power.hold = true) (hcause : s.power.holdCause = none) :
    actRootPllLock s = .next (t.resetBy 4).thimbleRuns.spreadLock.startIslands := by
  rw [actRootPllLock_of_stable hthm hroot ht hxtal, if_pos (by simp [hhold, hcause])]

end

theorem actThermalTrip_of_untripped (h : s.power.trip = false) :
    actThermalTrip s = .next { s.clocksStop with power := { s.clocksStop.power with trip := true } } :=
  if_neg (Bool.eq_false_iff.1 h)

/-! ## Islands -/

section

variable {i : Nat} (hi : i < 85)
include hi

theorem actDivisorSwitch_of_wanted (hroot : s.power.rootLock = true) :
    actDivisorSwitch i (s.wantedDivisor i) s = .next (s.switchDivisor i (s.wantedDivisor i)) :=
  if_pos ⟨hi, hroot, rfl⟩

theorem actDroopStretch_of_running (edges : Nat) (hrun : s.flag .clkIsland_running i = true) :
    actDroopStretch i edges s = .next (s.count .clkIsland_stretched i edges) := if_pos ⟨hi, hrun⟩

end

end

/-- What the reset of one island does, by its kind: a Needle, a quad, the Hub, a DDR5 channel, PCIe, a mesh port, the
Fitter, the Thimble, the peripherals. -/
def State.islandKindReset (s : State) (i : Nat) : State :=
  if i < 64 then s.resetNeedleIsland i
  else if i < 68 then s.resetQuad (i - 64)
  else if i = 68 then s.resetHubIsland
  else if i < 77 then s.resetDdrIsland (i - 69)
  else if i = 77 then s.hotReset
  else if i < 82 then (s.portLink (i - 78) false 0).startPort (i - 78)
  else if i = 82 then s.resetFitterIsland
  else if i = 83 then s.resetThimbleIsland
  else s.resetPeripheral

theorem actIslandReset_of_running {s : State} {i : Nat} (hi : i < 85) (halive : s.fitterAlive = true)
    (hrun : s.flag .clkIsland_running i = true) :
    actIslandReset i s = .next ((s.islandBegins i).islandKindReset i) := by
  have hgo : ¬(decide (i ≥ 85) || !s.fitterAlive || !s.flag .clkIsland_running i) = true := by
    simp [halive, hrun, hi]
  unfold actIslandReset State.islandKindReset
  rw [if_neg hgo]
  simp only [apply_ite Host.Outcome.next]

section

variable (s : State) {i : Nat}

theorem islandKindReset_needle (h : i < 64) : s.islandKindReset i = s.resetNeedleIsland i := if_pos h

theorem islandKindReset_quad (h1 : 64 ≤ i) (h2 : i < 68) : s.islandKindReset i = s.resetQuad (i - 64) := by
  simp [State.islandKindReset, h1.not_gt, h2]

theorem islandKindReset_hub : s.islandKindReset 68 = s.resetHubIsland := by
  simp [State.islandKindReset]

theorem islandKindReset_pcie : s.islandKindReset 77 = s.hotReset := by
  simp [State.islandKindReset]

theorem islandKindReset_fitter : s.islandKindReset 82 = s.resetFitterIsland := by
  simp [State.islandKindReset]

theorem islandKindReset_thimble : s.islandKindReset 83 = s.resetThimbleIsland := by
  simp [State.islandKindReset]

theorem islandKindReset_peripheral : s.islandKindReset 84 = s.resetPeripheral := by
  simp [State.islandKindReset]

theorem islandKindReset_ddr (h1 : 69 ≤ i) (h2 : i < 77) : s.islandKindReset i = s.resetDdrIsland (i - 69) := by
  have hn : ¬i < 64 ∧ ¬i < 68 ∧ ¬i = 68 := by omega
  simp [State.islandKindReset, hn, h2]

theorem islandKindReset_port (h1 : 78 ≤ i) (h2 : i < 82) :
    s.islandKindReset i = (s.portLink (i - 78) false 0).startPort (i - 78) := by
  have hn : ¬i < 64 ∧ ¬i < 68 ∧ ¬i = 68 ∧ ¬i < 77 ∧ ¬i = 77 := by omega
  simp [State.islandKindReset, hn, h2]

end

/-- Settles O49: each command's action; an island's reset by the kind of the island. -/
theorem clocksAndIslands : Obligations.ClocksAndIslands := by
  refine ⟨fun s hpor hroot => congrArg settled (actMissingEdge_of_locked rfl hpor hroot), fun s hq hpor hroot => ?restarts,
    fun s hq hthm hroot => ?stable,
    fun s hthm hroot hxtal => ⟨fun h => congrArg settled (actRootPllLock_of_noRestart hthm hroot rfl hxtal h),
      fun hhold hcause => congrArg settled (actRootPllLock_of_restart hthm hroot rfl hxtal hhold hcause)⟩,
    fun s h => congrArg settled (actThermalTrip_of_untripped h),
    fun s i hi hroot => congrArg settled (actDivisorSwitch_of_wanted hi hroot), fun s i edges hq hi hrun => ?droop,
    fun s i hi halive hrun => ?island⟩
  case restarts =>
    exact settled_of_quiet (actMissingEdge_of_unlocked hpor hroot) (quiet_countSat (quiet_power hq _ rfl) _ _ _ rfl)
  case stable => exact settled_of_quiet (actXtalJudgedStable_of_unlocked hthm hroot) (quiet_power hq _ rfl)
  case droop => exact settled_of_quiet (actDroopStretch_of_running hi edges hrun) (quiet_count hq _ _ _ rfl)
  case island =>
    have hreset : ∀ t, (s.islandBegins i).islandKindReset i = t → exec (.islandReset i) s = .next t.settle := by
      rintro t rfl
      exact congrArg settled (actIslandReset_of_running hi halive hrun)
    exact ⟨fun h => hreset _ (islandKindReset_needle _ h), fun h1 h2 => hreset _ (islandKindReset_quad _ h1 h2),
      fun h => hreset _ (h ▸ islandKindReset_hub _), fun h1 h2 => hreset _ (islandKindReset_ddr _ h1 h2),
      fun h => hreset _ (h ▸ islandKindReset_pcie _), fun h1 h2 => hreset _ (islandKindReset_port _ h1 h2),
      fun h => hreset _ (h ▸ islandKindReset_fitter _), fun h => hreset _ (h ▸ islandKindReset_thimble _),
      fun h => hreset _ (h ▸ islandKindReset_peripheral _)⟩

end Sys2Proof.Machine
end

section
/-! PROOF. Periodic work of a DDR5 channel (R388, R397-R399): what a calibration, a refresh, a sweep and a scrub step
change. -/

namespace Sys2Proof.Machine

open Sys2Proof

section

variable {s : State} {c r : Nat}

/-! ## Calibration and refresh -/

theorem actDqsOscInterval_of_drift {drift : Int} (hup : s.rankUp c r = true) (hd : 1 < drift.natAbs) :
    actDqsOscInterval c r drift s = .next (s.setChan c
      { s.chan c with dqs := Store.modify (fun _ => (0 : Int)) (s.chan c).dqs r (fun d => d + drift) }) :=
  if_pos (by simp [hup, hd])

theorem actZqCalInterval_of_up (hup : s.rankUp c r = true) :
    actZqCalInterval c r s = .next (s.setChan c { s.chan c with zq := (s.chan c).zq + 1 }) := if_pos hup

theorem actRankSweepBurst_of_up (hup : s.rankUp c r = true) :
    actRankSweepBurst c r s = .next (s.wr .ddrcState_sweeping c 1) := if_pos hup

theorem actDdrRefresh_of_up (hot : Bool) (hup : s.chanUp c = true) :
    actDdrRefresh c hot s =
      .next (s.setChan c { s.chan c with refreshes := (s.chan c).refreshes + 1, hotRefresh := hot }) := if_pos hup

section

variable (hdown : s.rankUp c r = false)
include hdown

theorem actDqsOscInterval_of_down (drift : Int) : actDqsOscInterval c r drift s = .next s := if_neg (by simp [hdown])

theorem actZqCalInterval_of_down : actZqCalInterval c r s = .next s := if_neg (by simp [hdown])

theorem actRankSweepBurst_of_down : actRankSweepBurst c r s = .next s := if_neg (by simp [hdown])

theorem actRankSweepEnd_of_down (lanes : List LaneMargin) : actRankSweepEnd c r lanes s = .next s :=
  if_pos (by simp [hdown])

end

/-! ## A sweep of one lane (R399) -/

theorem worstLane_singleton {f : LaneMargin → Nat} {m : LaneMargin} {best : Nat × Nat} (h : f m < best.2) :
    worstLane f [m] 0 best = (0, f m) := if_pos h

/-- The registers show the margins of a sweep that measured one lane. -/
def State.laneShown (s : State) (c r : Nat) (m : LaneMargin) : State :=
  ((((s.wr .ddrcState_sweeping c 0).count .ddrcMargin_sweeps (2 * c + r)).wr .ddrcMargin_width64ui (2 * c + r)
    (min 63 m.width)).wr .ddrcMargin_heightMv (2 * c + r) (min 255 m.height)).wr .ddrcMargin_worstLane (2 * c + r) 0

/-- A sweep of an unsettled rank shows its margins and is judged against no floor. -/
theorem rankSwept_of_unsettled {m : LaneMargin} (hleft : 0 < Store.get (fun _ => 0) (s.chan c).unsettled r)
    (hw : m.width < 64) (hh : m.height < 256) :
    s.rankSwept c r [m] = (s.laneShown c r m).setChan c { (s.laneShown c r m).chan c with
      unsettled := Store.put (fun _ => 0) ((s.laneShown c r m).chan c).unsettled r
        (Store.get (fun _ => 0) (s.chan c).unsettled r - 1) } := by
  have hwidth : worstLane (fun m => m.width) [m] 0 (0, 64) = (0, m.width) := worstLane_singleton hw
  have hheight : worstLane (fun m => m.height) [m] 0 (0, 256) = (0, m.height) := worstLane_singleton hh
  have hone : [m].take 80 = [m] := rfl
  unfold State.rankSwept
  simp only [hone, hwidth, hheight]
  exact if_pos hleft

theorem actRankSweepEnd_of_up {lanes : List LaneMargin} (hup : s.rankUp c r = true) (hl : lanes.isEmpty = false) :
    actRankSweepEnd c r lanes s = .next (s.rankSwept c r lanes) := if_neg (by simp [hup, hl])

/-! ## The patrol scrub (R397) -/

theorem ddrEcc_none (s : State) (a reporter : Nat) : s.ddrEcc .none a reporter = s := rfl

theorem actPatrolScrubStep_of_more {g : Nat} (wrote : Bool) (hg : g = s.scrubGranule c (s.chan c).scrubAt)
    (hup : s.chanUp c = true) (hrate : s.rd .ddrCfg_scrubH ≠ 0) (hsize : 256 ≤ s.ddrUsable)
    (hmore : s.scrubGranule c (g + 1) < s.ddrUsable / 256) :
    actPatrolScrubStep c .none wrote s = .next (s.setChan c { s.chan c with scrubAt := g + 1 }) := by
  subst hg
  have hsome : s.ddrUsable / 256 ≠ 0 := (Nat.div_pos hsize (by decide)).ne'
  have hread : (EccEvent.none == .double) = false := rfl
  simp [actPatrolScrubStep, hup, hrate, hsome, hread, ddrEcc_none, hmore]

theorem quiet_laneShown (h : s.Quiet) (c r : Nat) (m : LaneMargin) : (s.laneShown c r m).Quiet :=
  quiet_wr (quiet_wr (quiet_wr (quiet_count (quiet_wr h _ _ _ rfl) _ _ _ rfl) _ _ _ rfl) _ _ _ rfl) _ _ _ rfl

end

/-- Settles O50: each command's action on a rank or channel in service, and none on another; a channel's record and its
registers leave a quiet block quiet. -/
theorem ddrPeriodic : Obligations.DdrPeriodic := by
  refine ⟨fun s c r drift hq hup hd => ?dqs, fun s c r hq hup => ⟨?zq, ?burst⟩, fun s c hot hq hup => ?refresh,
    fun s c r drift hq hdown => ?down, fun s c r m hq hup hleft hw hh => ?sweep,
    fun s c wrote hq hup hrate hsize hmore => ?scrub⟩
  case dqs => exact settled_of_quiet (actDqsOscInterval_of_drift hup hd) (quiet_setChan hq _ _)
  case zq => exact settled_of_quiet (actZqCalInterval_of_up hup) (quiet_setChan hq _ _)
  case burst => exact settled_of_quiet (actRankSweepBurst_of_up hup) (quiet_wr hq _ _ _ rfl)
  case refresh => exact settled_of_quiet (actDdrRefresh_of_up hot hup) (quiet_setChan hq _ _)
  case down =>
    exact ⟨settled_of_quiet (actDqsOscInterval_of_down hdown drift) hq, settled_of_quiet (actZqCalInterval_of_down hdown) hq,
      settled_of_quiet (actRankSweepBurst_of_down hdown) hq, settled_of_quiet (actRankSweepEnd_of_down hdown []) hq⟩
  case sweep =>
    have hact := actRankSweepEnd_of_up (lanes := [m]) hup rfl
    rw [rankSwept_of_unsettled hleft hw hh] at hact
    exact settled_of_quiet hact (quiet_setChan (quiet_laneShown hq c r m) _ _)
  case scrub => exact settled_of_quiet (actPatrolScrubStep_of_more wrote rfl hup hrate hsize hmore) (quiet_setChan hq _ _)

end Sys2Proof.Machine
end

section
/-! PROOF. DDR5 channels that come into service, repairs, accesses and the migration (R166, R391, R393, R395, R396, R401,
R403-R406). -/

namespace Sys2Proof.Machine

open Sys2Proof

section

variable {s : State} {c : Nat}

/-! ## Training (R391, R395) -/

/-- What a training found is noted and shown. -/
def State.trainingShown (s : State) (c : Nat) (f : DdrFound) : State :=
  (s.setChan c { s.chan c with found := some f }).showGeom c f (s.badPopulation c f)

/-- Channel `c` ends its cold training: it has started at the lock, restores nothing, and is neither in service nor retired. -/
structure State.Trains (s : State) (c : Nat) : Prop where
  inRange : c < 8
  locked : s.locked = true
  started : (s.chan c).started = true
  cold : (s.chan c).restoring = false
  untrained : s.flag .ddrcState_trained c = false
  inUse : s.chanOut c = false

/-- The channel is cleared and serves at the rate in force, under the record of this training. -/
def State.channelTrained (s : State) (c : Nat) (f : DdrFound) : State :=
  let t := (s.takePop f).clearChannel c
  let u := ((t.wr .ddrcState_trained c 1).wr .ddrcState_spprUsed c
    (t.fit.sppr.filter (fun r => r.ch == c)).length).wr .ddrcState_selfRefresh c 0
  u.setChan c { u.chan c with record := some (u.ddr.rate, u.ddr.spare), record8000 := u.ddr.rate == 5, rate := u.ddrRateNow,
                              low := [], dqs := [], unsettled := [(0, 16), (1, 16)], scrubAt := 0 }

section

variable {f0 f : DdrFound} (h : s.Trains c) (hne : c ≠ 0) (hf : f = s.foundAs c f0)
include h hne hf

/-- No other channel is judged by the population of one that is not DDR0. -/
theorem actDdrTrainingDone_of_trains :
    actDdrTrainingDone c f0 s =
      if !f.present || s.badPopulation c f || !f.trained then .next ((s.trainingShown c f).latch (0x300 + c) 5)
      else .next ((((s.trainingShown c f).channelTrained c f).setReady (readyDdr c) true).startFaults c f) := by
  subst hf
  refine (if_neg ?open_).trans ((if_neg ?inUse).trans ((if_neg ?started).trans ?_))
  case open_ => simp [h.inRange, h.locked, h.cold, h.untrained]
  case inUse => simp [h.inUse]
  case started => simp [h.started]
  simp only [if_neg hne]
  rfl

theorem actDdrTrainingDone_of_fault (hbad : f.present = false ∨ s.badPopulation c f = true ∨ f.trained = false) :
    actDdrTrainingDone c f0 s = .next ((s.trainingShown c f).latch (0x300 + c) 5) := by
  rw [actDdrTrainingDone_of_trains h hne hf]
  refine if_pos ?_
  rcases hbad with hbad | hbad | hbad <;> simp [hbad]

theorem actDdrTrainingDone_of_good (hpresent : f.present = true) (hpop : s.badPopulation c f = false)
    (htrained : f.trained = true) :
    actDdrTrainingDone c f0 s =
      .next ((((s.trainingShown c f).channelTrained c f).setReady (readyDdr c) true).startFaults c f) :=
  (actDdrTrainingDone_of_trains h hne hf).trans (if_neg (by simp [hpresent, hpop, htrained]))

end

/-! ## Restores and repairs (R396, R403) -/

/-- A channel leaves self-refresh and stands as its record has it. -/
def State.channelRestored (s : State) (c : Nat) : State :=
  let t := (s.wr .ddrcState_selfRefresh c 0).wr .ddrcState_trained c 1
  let u := t.setChan c { s.chan c with restoring := false, rate := t.ddrRateNow, low := [], dqs := [],
                                       unsettled := [(0, 16), (1, 16)] }
  let v := match (s.chan c).found with | some f => (u.showGeom c f false).takePop f | none => u
  v.wr .ddrcState_spprUsed c (v.fit.sppr.filter (fun r => r.ch == c)).length

/-- The sweeps that follow a restore are judged, one for each rank that is populated and not fenced. -/
def State.restoreSwept (s : State) (c : Nat) (sweeps : List (List LaneMargin)) : State :=
  sweeps.zipIdx.foldl (fun s e =>
    if e.1.isEmpty || decide (s.rd .ddrcGeom_ranks c ≤ e.2) || bitOf (s.rd .ddrStatus_fencedRank) (2 * c + e.2) then s
    else s.rankSwept c e.2 e.1) s

theorem actDdrRestoreDone_of_restoring (sweeps : List (List LaneMargin)) (hc : c < 8) (hlock : s.locked = true)
    (hstart : (s.chan c).started = true) (hrest : (s.chan c).restoring = true) (hout : s.chanOut c = false)
    (hgate : bitOf (s.rd .clkGate_ddr) c = true) :
    actDdrRestoreDone c sweeps s = .next (((s.channelRestored c).restoreSwept c sweeps).setReady (readyDdr c) true) := by
  have hgo : (decide (c < 8) && s.locked && (s.chan c).started && (s.chan c).restoring && !s.chanOut c
      && bitOf (s.rd .clkGate_ddr) c) = true := by
    simp [hc, hlock, hstart, hrest, hout, hgate]
  exact if_pos hgo

/-- The repair `r` is in force: the columns lost are poisoned and it is counted. -/
def State.repaired (s : State) (c : Nat) (lost : List Nat) (r : Sppr) : State :=
  let u := (((lost.filter (fun k => decide (k < s.ddrC))).map (s.rowGranules r)).flatten).foldl
    (fun s g => (s.poisonLine (2 * g)).poisonLine (2 * g + 1)) s
  let v : State := { u with fit := { u.fit with sppr := u.fit.sppr ++ [r] } }
  v.wr .ddrcState_spprUsed c (v.rd .ddrcState_spprUsed c + 1)

section

variable {lost : List Nat} {r : Sppr} {t : State} (hr : s.ddr.repairs.find? (fun r => r.ch == c) = some r)
  (ht : t = s.setDdr { s.ddr with repairs := s.ddr.repairs.erase r })
include hr ht

theorem actDdrSpprDone_of_asked :
    actDdrSpprDone c lost s = if t.chanOut c then .next t else .next (t.repaired c lost r) := by
  subst ht
  simp only [actDdrSpprDone, hr]
  rfl

theorem actDdrSpprDone_of_out (hout : t.chanOut c = true) : actDdrSpprDone c lost s = .next t :=
  (actDdrSpprDone_of_asked hr ht).trans (if_pos hout)

theorem actDdrSpprDone_of_inUse (hin : t.chanOut c = false) : actDdrSpprDone c lost s = .next (t.repaired c lost r) :=
  (actDdrSpprDone_of_asked hr ht).trans (if_neg (Bool.eq_false_iff.1 hin))

end

/-! ## Accesses (R166, R401, R404) -/

/-- The length of an access: of the bytes it brings, or of those it asks for. -/
def ddrLen (r : DdrReq) : Nat := match r.data with | some d => d.length | none => r.len

/-- The access is answered. -/
def State.ddrAnswered (s : State) (x : Resp) (d : List Byte) : State := s.setDdr { s.ddr with ans := some (x, d) }

section

variable {r : DdrReq}

theorem ddrLen_of_write {d : List Byte} (h : r.data = some d) : ddrLen r = d.length := by simp only [ddrLen, h]

theorem ddrLen_of_read (h : r.data = none) : ddrLen r = r.len := by simp only [ddrLen, h]

theorem actDdrAccess_of_beyond (h : s.ddrUsable < r.offset + ddrLen r) :
    actDdrAccess r s = .next (s.ddrAnswered .decerr []) := if_pos h

section

variable (hin : r.offset + ddrLen r ≤ s.ddrUsable) (href : s.ddrRefused r.offset (ddrLen r) = true)
include hin href

theorem actDdrAccess_of_refused (hstrm : r.stream = none) : actDdrAccess r s = .next (s.ddrAnswered .refused []) := by
  refine (if_neg hin.not_gt).trans ((if_pos href).trans ?_)
  simp only [hstrm]
  rfl

theorem actDdrAccess_of_fenced {id u : Nat} (hstrm : r.stream = some id)
    (hunit : s.fencedUnit r.offset (ddrLen r) = some u) :
    actDdrAccess r s = .next ((s.ddrAnswered .refused []).strmFenced id u) := by
  have hunit' : (s.ddrAnswered .refused []).fencedUnit r.offset (ddrLen r) = some u := hunit
  refine (if_neg hin.not_gt).trans ((if_pos href).trans ?_)
  change (match r.stream, (s.ddrAnswered .refused []).fencedUnit r.offset (ddrLen r) with
    | some id, some u => Host.Outcome.next ((s.ddrAnswered .refused []).strmFenced id u)
    | _, _ => .next (s.ddrAnswered .refused [])) = _
  rw [hstrm, hunit']

end

/-- The access is served without a retry. -/
structure State.DdrServes (s : State) (r : DdrReq) : Prop where
  inside : r.offset + ddrLen r ≤ s.ddrUsable
  open_ : s.ddrRefused r.offset (ddrLen r) = false
  noCrc : r.crcRetries = 0
  noParity : r.parityRetries = 0
  fits : r.exhausted = false

/-- What reading finds: the ECC event of the access, or else a word poisoned before it. -/
def State.ddrLoaded (s : State) (r : DdrReq) : State :=
  let rep := repDdr (s.ddrPlace r.offset).ch
  let t := s.ddrEcc r.ecc r.offset rep
  if r.ecc ≠ .double ∧ s.ddrPoisoned r.offset r.len = true then t.ddrMet r.offset rep else t

theorem ddrLoaded_of_clean (hecc : r.ecc = .none) (hp : s.ddrPoisoned r.offset r.len = false) : s.ddrLoaded r = s := by
  simp [State.ddrLoaded, hecc, hp, ddrEcc_none]

/-- A read meets a word that cannot be corrected. -/
def State.ddrBad (s : State) (r : DdrReq) : Prop := r.ecc = .double ∨ (s.ddrLoaded r).ddrPoisoned r.offset r.len = true

section

variable (h : s.DdrServes r)
include h

theorem actDdrAccess_of_write {d : List Byte} (hd : r.data = some d) :
    actDdrAccess r s = .next ((s.ddrStore r.offset d).ddrAnswered .ok []) := by
  refine (if_neg h.inside.not_gt).trans ((if_neg (Bool.eq_false_iff.1 h.open_)).trans ?_)
  simp only [hd, h.noCrc, h.noParity, h.fits, gt_iff_lt, lt_irrefl, Bool.false_eq_true, if_false]
  rfl

theorem actDdrAccess_of_read (hd : r.data = none) :
    actDdrAccess r s =
      if r.ecc == .double || (s.ddrLoaded r).ddrPoisoned r.offset r.len then
        .next (match r.stream with
          | some id => (((s.ddrLoaded r).ddrAnswered .ecc []).endStrm id stDmaFault (resultOf 0xFF 1 0)).shuttleRun
          | none => (s.ddrLoaded r).ddrAnswered .ecc [])
      else .next ((s.ddrLoaded r).ddrAnswered .ok ((s.ddrLoaded r).ddrBytes r.offset r.len)) := by
  have hmet : ∀ t u : State, (if (r.ecc != .double && s.ddrPoisoned r.offset r.len) = true then t else u) =
      if r.ecc ≠ .double ∧ s.ddrPoisoned r.offset r.len = true then t else u := by
    intro t u
    simp only [Bool.and_eq_true, bne_iff_ne]
  refine (if_neg h.inside.not_gt).trans ((if_neg (Bool.eq_false_iff.1 h.open_)).trans ?_)
  simp only [hd, h.noCrc, h.noParity, h.fits, gt_iff_lt, lt_irrefl, Bool.false_eq_true, if_false, hmet]
  rfl

theorem actDdrAccess_of_good (hd : r.data = none) (hgood : ¬s.ddrBad r) :
    actDdrAccess r s = .next ((s.ddrLoaded r).ddrAnswered .ok ((s.ddrLoaded r).ddrBytes r.offset r.len)) := by
  refine (actDdrAccess_of_read h hd).trans (if_neg fun hbad => hgood ?_)
  simpa [State.ddrBad] using hbad

theorem actDdrAccess_of_bad (hd : r.data = none) (hbad : s.ddrBad r) (hstrm : r.stream = none) :
    actDdrAccess r s = .next ((s.ddrLoaded r).ddrAnswered .ecc []) := by
  refine (actDdrAccess_of_read h hd).trans ((if_pos ?_).trans ?_)
  · simpa [State.ddrBad] using hbad
  · simp only [hstrm]

end

end

/-! ## The migration (R405, R406) -/

theorem actMigrationGranuleCopy_of_more (hrun : s.flag .ddrMigrate_running = true) (hmore : 2 ≤ s.rd .ddrMigrate_next)
    (hgo : s.migrates = true) (hopen : s.ddrFenced (s.ddrPlace7 (s.rd .ddrMigrate_next - 1)) = false) :
    actMigrationGranuleCopy false s = .next (s.wr .ddrMigrate_next 0 (s.rd .ddrMigrate_next - 1)) := by
  have hleft : s.rd .ddrMigrate_next ≠ 0 := by omega
  have hnotLast : s.rd .ddrMigrate_next - 1 ≠ 0 := by omega
  simp [actMigrationGranuleCopy, hrun, hgo, hleft, hopen, hnotLast]

end

/-- Settles O51: each command's action on a channel other than DDR0 that trains or is restored, a repair asked for, an
access without retries and a granule that is not the last. -/
theorem ddrChannels : Obligations.DdrChannels := by
  refine ⟨fun s c f0 h1 hc hlock hstart hrest htrained hout => ⟨fun hbad => ?fault, fun hpresent hpop hgood => ?good⟩,
    fun s c sweeps hc hlock hstart hrest hout hgate =>
      congrArg settled (actDdrRestoreDone_of_restoring sweeps hc hlock hstart hrest hout hgate),
    fun s c lost r hr => ⟨fun hout => congrArg settled (actDdrSpprDone_of_out hr rfl hout),
      fun hin => congrArg settled (actDdrSpprDone_of_inUse hr rfl hin)⟩,
    fun s r hin href hpoison hcrc hpar hex hecc => ⟨fun d hd => ?stores, fun hd => ?loads⟩,
    fun s hrun hmore hgo hopen => congrArg settled (actMigrationGranuleCopy_of_more hrun hmore hgo hopen)⟩
  case fault =>
    exact congrArg settled (actDdrTrainingDone_of_fault ⟨hc, hlock, hstart, hrest, htrained, hout⟩ (by omega) rfl hbad)
  case good =>
    have hact := actDdrTrainingDone_of_good ⟨hc, hlock, hstart, hrest, htrained, hout⟩ (by omega) rfl hpresent hpop hgood
    rw [State.trainingShown, hpop] at hact
    exact congrArg settled hact
  case stores => exact congrArg settled (actDdrAccess_of_write ⟨hin, href, hcrc, hpar, hex⟩ hd)
  case loads =>
    have hclean : s.ddrPoisoned r.offset r.len = false := ddrLen_of_read hd ▸ hpoison
    have hloaded := ddrLoaded_of_clean hecc hclean
    have hgood : ¬s.ddrBad r := by simp [State.ddrBad, hloaded, hecc, hclean]
    have hact := actDdrAccess_of_good ⟨hin, href, hcrc, hpar, hex⟩ hd hgood
    rw [hloaded] at hact
    exact congrArg settled hact

/-- Settles O52: an access by where it lies, what refuses it, what it brings and what reading finds. -/
theorem ddrAccesses : Obligations.DdrAccesses := by
  refine ⟨fun s r hq h => settled_of_quiet (actDdrAccess_of_beyond h) (quiet_setDdr hq _),
    fun s r hin href => ⟨fun hstrm => congrArg settled (actDdrAccess_of_refused hin href hstrm),
      fun id u hstrm hunit => congrArg settled (actDdrAccess_of_fenced hin href hstrm hunit)⟩,
    fun s r d hd hin href hcrc hpar hex => ?stores,
    fun s r hd hin href hcrc hpar hex => ⟨fun hgood => ?loads, fun hbad hstrm => ?uncorrectable⟩,
    fun s hq hrun hmore hgo hopen => ?copies⟩
  case stores =>
    rw [← ddrLen_of_write hd] at hin href
    exact congrArg settled (actDdrAccess_of_write ⟨hin, href, hcrc, hpar, hex⟩ hd)
  case loads =>
    rw [← ddrLen_of_read hd] at hin href
    exact congrArg settled (actDdrAccess_of_good ⟨hin, href, hcrc, hpar, hex⟩ hd hgood)
  case uncorrectable =>
    rw [← ddrLen_of_read hd] at hin href
    exact congrArg settled (actDdrAccess_of_bad ⟨hin, href, hcrc, hpar, hex⟩ hd hbad hstrm)
  case copies => exact settled_of_quiet (actMigrationGranuleCopy_of_more hrun hmore hgo hopen) (quiet_wr hq _ _ _ rfl)

end Sys2Proof.Machine
end

section
/-! PROOF. Mesh frames (R413, R414, R417-R424): what a valid frame does, a discarded one, one in its sequence and one out of
it. -/

namespace Sys2Proof.Machine

open Sys2Proof

/-- A command whose meaning is a state the block then settles is known by that state. -/
theorem next_settle_congr {t u : State} (h : t = u) :
    (.next t.settle : Host.Outcome State Fault Refusal) = .next u.settle := by rw [h]

section

variable {s : State} {f : FrameHdr} {b : MeshBody}

/-! ## Frames without a sequence of their own -/

theorem heard_of_ok (h : s.frameOk f b = true) : s.heard f b = (s.hear f b).takeAck f.src f.ack := if_pos h

theorem heard_of_bad (h : s.frameOk f b = false) : s.heard f b = s.discardFrame f b := if_neg (Bool.eq_false_iff.1 h)

/-! ## Reliable frames (R414) -/

theorem renew_of_not (h : s.renews f b = false) : s.renew f b = s := if_pos (by simp [h])

theorem arrive_of_not_renews (act : State → State) (h : s.renews f b = false) :
    s.arrive f b act = s.receive f b act := by
  rw [State.arrive, renew_of_not h]

theorem receive_of_bad (act : State → State) (h : s.frameOk f b = false) : s.receive f b act = s.discardFrame f b :=
  if_pos (by simp [h])

section

variable {t : State} {p : Peer} (act : State → State) (h : s.frameOk f b = true)
  (ht : t = (s.hear f b).takeAck f.src f.ack) (hp : p = t.peer f.src)
include h ht hp

theorem receive_of_ok :
    s.receive f b act = if f.seq = p.rxSeq + 1 then act (t.setPeer f.src { p with rxSeq := f.seq, ackOwed := true })
      else t.setPeer f.src { p with ackOwed := true } := by
  subst hp ht
  exact if_neg (by simp [h])

theorem receive_of_next (hseq : f.seq = p.rxSeq + 1) :
    s.receive f b act = act (t.setPeer f.src { p with rxSeq := f.seq, ackOwed := true }) :=
  (receive_of_ok act h ht hp).trans (if_pos hseq)

theorem receive_of_other (hseq : f.seq ≠ p.rxSeq + 1) :
    s.receive f b act = t.setPeer f.src { p with ackOwed := true } :=
  (receive_of_ok act h ht hp).trans (if_neg hseq)

end

end

/-- Settles O53: a class without a sequence is heard or discarded; each other class is its action on arrival, which is its
reception where the pair does not begin again. -/
theorem meshFrames : Obligations.MeshFrames := fun _ _ =>
  ⟨fun _ _ => ⟨fun h => next_settle_congr (heard_of_ok h), fun h => next_settle_congr (heard_of_bad h)⟩,
    fun h => next_settle_congr (heard_of_ok h), fun _ => rfl, fun _ => rfl, fun _ _ => rfl, fun _ => rfl, fun _ => rfl,
    fun _ _ => rfl, fun _ => rfl, fun _ => rfl, fun _ => rfl, fun _ act h => arrive_of_not_renews act h,
    fun _ act h => receive_of_bad act h,
    fun _ act h => ⟨fun hseq => receive_of_next act h rfl rfl hseq, fun hseq => receive_of_other act h rfl rfl hseq⟩⟩

end Sys2Proof.Machine
end

section
/-! PROOF. Mesh timers, links, lane windows and renegotiations (R408, R414, R416-R418, R420, R427). -/

namespace Sys2Proof.Machine

open Sys2Proof

section

variable {s : State}

/-! ## Timers -/

theorem keepaliveTimer_of_joined (h : s.joined = true) :
    s.keepaliveTimer = s.sendGroup (.keepalive s.time s.portsUp.length) := if_pos h

theorem keepaliveTimer_of_apart (h : s.joined = false) : s.keepaliveTimer = s := if_neg (Bool.eq_false_iff.1 h)

/-- A device that is no member, or is lost already, is not lost again. -/
theorem peerLost_of_gone {p : Nat} (h : (s.peer p).member = false ∨ (s.peer p).lost = true) : s.peerLost p = s := by
  refine if_pos ?_
  rcases h with h | h <;> simp [h]

theorem ackTimer_of_owed {p port : Nat} (howed : (s.peer p).ackOwed = true) (hport : s.portFor p = some port) :
    s.ackTimer p = s.putFrame { s.newFrame p 0 0 0 .ack with port, sends := 1, at_ := s.time } := by
  simp [State.ackTimer, howed, hport]

section

variable {j : Joining} (hj : s.mesh.joining = some j)
include hj

theorem joinTimeout_of_unanswered (h : j.answered = []) :
    s.joinTimeout = s.failJoin j stTimeout (resultOf 0xFF 2 0) := by
  simp [State.joinTimeout, hj, h]

theorem joinTimeout_of_answered (h : j.answered ≠ []) : s.joinTimeout = s.finishJoin j := by
  simp [State.joinTimeout, hj, h]

end

theorem claimRetry_of_abandoned {sh : Nat} {c : Claiming} (hc : (s.shard sh).claiming = some c)
    (h : c.abandoned = true) : s.claimRetry sh = s.startClaim sh ((s.shard sh).highest + 1) c.work := by
  simp [State.claimRetry, hc, h]

/-! ## Ports and lanes (R408, R416, R427) -/

variable {p : Nat}

/-- The port may have a link: it has started, is in use, clocked, not retired, and does not renegotiate. -/
structure State.PortServes (s : State) (p : Nat) : Prop where
  inRange : p < 4
  locked : s.locked = true
  enabled : s.flag .svPortCtrl_enable p = true
  inUse : s.flag .svPortState_retired p = false
  ungated : s.portGated p = false
  settled : s.mesh.reneg.contains p = false
  clocked : s.clocked = true

section

variable (h : s.PortServes p) {hundred : Bool}
include h

/-- The 100 Gb/s type takes one pair of lanes, where it is permitted. -/
theorem actSvLinkUp_of_serves {two : Bool} (htwo : two = (hundred || s.rd .svPortState_laneRetired p != 0)) :
    actSvLinkUp p hundred s =
      if !two || s.flag .svPortCtrl_allow100g p then .next ((s.portLink p true (if two then 1 else 2)).berBegins p)
      else .next s := by
  obtain ⟨hp, hlock, hen, hret, hgate, hreneg, hclk⟩ := h
  subst htwo
  simp only [actSvLinkUp, hp, hlock, hen, hret, hgate, hreneg, hclk, decide_true, Bool.not_false, Bool.and_self,
    Bool.true_and]

theorem actSvLinkUp_of_pair (htwo : hundred = true ∨ s.rd .svPortState_laneRetired p ≠ 0) :
    actSvLinkUp p hundred s =
      if s.flag .svPortCtrl_allow100g p then .next ((s.portLink p true 1).berBegins p) else .next s := by
  have hpair : (hundred || s.rd .svPortState_laneRetired p != 0) = true := by simpa using htwo
  exact actSvLinkUp_of_serves h hpair.symm

theorem actSvLinkUp_of_four (htwo : ¬(hundred = true ∨ s.rd .svPortState_laneRetired p ≠ 0)) :
    actSvLinkUp p hundred s = .next ((s.portLink p true 2).berBegins p) := by
  have hfour : (hundred || s.rd .svPortState_laneRetired p != 0) = false := by simpa using htwo
  exact actSvLinkUp_of_serves h hfour.symm

end

section

variable (hp : p < 4) (hup : s.flag .svPortState_linkUp p = true) (hclk : s.clocked = true)
include hp hup hclk

theorem actSvLinkDown_of_up : actSvLinkDown p s = .next (s.portLink p false 0) := if_pos (by simp [hp, hup, hclk])

theorem actBerWindowEnd_of_up (cor : List Nat) (lost : Nat) :
    actBerWindowEnd p cor lost s = .next (((s.countSat .svPortErr_fecUncorr p lost).each 4 (fun l s =>
      if s.laneOut p l then s else s.laneWindow p l (cor.getD l 0))).berBegins p) := if_pos (by simp [hp, hup, hclk])

end

/-- The failures of a port's renegotiation within the last second. -/
def State.renegMissed (s : State) (p : Nat) : List (Nat × Nat) :=
  s.mesh.renegFail.filter (fun e => e.1 == p && decide (s.time < e.2 + 1000000000))

/-- One more failure of a port's renegotiation is noted. -/
def State.renegNoted (s : State) (p : Nat) : State :=
  s.setMesh { s.mesh with renegFail := s.mesh.renegFail.filter (fun e => e.1 != p) ++ s.renegMissed p ++ [(p, s.time)] }

section

variable (hreneg : s.mesh.reneg.contains p = true) (hclk : s.clocked = true)
include hreneg hclk

theorem actRenegotiationDone_of_ok :
    actRenegotiationDone p true s =
      .next (((s.setMesh { s.mesh with reneg := s.mesh.reneg.filter (fun q => q != p) }).portLink p true 1).berBegins p) :=
  (if_neg (by simp [hclk, List.contains_iff_mem.1 hreneg])).trans (if_pos rfl)

theorem actRenegotiationDone_of_failed :
    actRenegotiationDone p false s =
      if 2 ≤ (s.renegMissed p).length then .next ((s.renegNoted p).latch (0x400 + p) 1) else .next (s.renegNoted p) :=
  (if_neg (by simp [hclk, List.contains_iff_mem.1 hreneg])).trans (if_neg Bool.false_ne_true)

end

theorem quiet_setMesh (h : s.Quiet) (x : Mesh) (hx : x.confs = s.mesh.confs) : (s.setMesh x).Quiet :=
  quiet_of_agree h rfl rfl hx rfl rfl rfl (fun _ _ _ => rfl)

end

/-- Settles O54: each timer's work, and the action of each command of a port. -/
theorem meshTimersAndPorts : Obligations.MeshTimersAndPorts := by
  refine ⟨fun s h => next_settle_congr (keepaliveTimer_of_joined h), fun s hq h => ?apart, fun s p hq h => ?gone,
    fun s p => rfl, fun s p => rfl, fun s p port howed hport => next_settle_congr (ackTimer_of_owed howed hport),
    fun s j hj => ⟨fun h => next_settle_congr (joinTimeout_of_unanswered hj h),
      fun h => next_settle_congr (joinTimeout_of_answered hj h)⟩,
    fun s sh c hc h => next_settle_congr (claimRetry_of_abandoned hc h),
    fun s p hundred hp hlock hen hret hgate hreneg hclk => ?linkUp,
    fun s p hp hup hclk => congrArg settled (actSvLinkDown_of_up hp hup hclk),
    fun s p cor lost hp hup hclk => congrArg settled (actBerWindowEnd_of_up hp hup hclk cor lost),
    fun s p hreneg hclk => ⟨congrArg settled (actRenegotiationDone_of_ok hreneg hclk), fun hq hfew => ?missed,
      fun hmany => congrArg settled ((actRenegotiationDone_of_failed hreneg hclk).trans (if_pos hmany))⟩⟩
  case apart => exact settled_of_quiet (congrArg _ (keepaliveTimer_of_apart h)) hq
  case gone => exact settled_of_quiet (congrArg _ (peerLost_of_gone h)) hq
  case linkUp =>
    have hserves : s.PortServes p := ⟨hp, hlock, hen, hret, hgate, hreneg, hclk⟩
    exact ⟨fun htwo hallow => congrArg settled ((actSvLinkUp_of_pair hserves htwo).trans (if_pos hallow)),
      fun htwo hallow => congrArg settled ((actSvLinkUp_of_pair hserves htwo).trans (if_neg (Bool.eq_false_iff.1 hallow))),
      fun htwo => congrArg settled (actSvLinkUp_of_four hserves htwo)⟩
  case missed =>
    exact settled_of_quiet ((actRenegotiationDone_of_failed hreneg hclk).trans (if_neg (Nat.not_le.2 hfew)))
      (quiet_setMesh hq _ rfl)

end Sys2Proof.Machine
end

section
/-! PROOF. The Fitter's life (R428, R429, R445, R448, R483): heartbeat, end, restarts, return, the policy summary and the
adaptation of weights. -/

namespace Sys2Proof.Machine

open Sys2Proof

section

variable {s : State}

/-! ## Heartbeat and end (R428, R429) -/

theorem actHbOutToggle_of_alive (halive : s.fitterAlive = true) :
    actHbOutToggle s = .next { s with pins := { s.pins with hbOut := !s.pins.hbOut } } := if_pos halive

theorem quiet_pins (h : s.Quiet) (p : Pins) : ({ s with pins := p } : State).Quiet :=
  quiet_of_agree h rfl rfl rfl rfl rfl rfl (fun _ _ _ => rfl)

theorem actLivenessDeadlineMiss_of_alive {t : State} (ht : t = (s.wr .fitStatus_alive 0 0).setReady readyFitter false)
    (lockup : Bool) (halive : s.fitterAlive = true) :
    actLivenessDeadlineMiss lockup s =
      .next (t.setFit { t.fit with downCause := if lockup then 2 else 1, lockup, restarting := false }) := by
  subst ht
  exact if_neg (by simp [halive])

/-! ## Restart and return (R429) -/

/-- The Fitter is down and may be restarted: its end has a cause, no restart is under way, and the clocks run. -/
structure State.FitterDown (s : State) : Prop where
  dead : s.fitterAlive = false
  mayRestart : s.fit.stopped = false
  idle : s.fit.restarting = false
  caused : s.fit.downCause ≠ 0
  clocked : s.clocked = true

section

variable (h : s.FitterDown) {recent : List Nat}
  (hrecent : recent = s.fit.restartAt.filter (fun t => decide (s.time < t + 3600000000000)))
include h hrecent

/-- At most three restarts are begun in any hour. -/
theorem actFitterRestart_of_down {r : State} (hr : r = ((s.countSat .fitStatus_restarts).islandBegins 82).resetFitterIsland) :
    actFitterRestart s = if 3 ≤ recent.length then .next (s.setFit { s.fit with stopped := true })
      else .next (r.setFit { r.fit with restartAt := recent ++ [r.time] }) := by
  subst hr hrecent
  exact if_neg (by simp [h.dead, h.mayRestart, h.idle, h.caused, h.clocked])

theorem actFitterRestart_of_few {r : State} (hr : r = ((s.countSat .fitStatus_restarts).islandBegins 82).resetFitterIsland)
    (hfew : recent.length < 3) :
    actFitterRestart s = .next (r.setFit { r.fit with restartAt := recent ++ [r.time] }) :=
  (actFitterRestart_of_down h hrecent hr).trans (if_neg (Nat.not_le.2 hfew))

theorem actFitterRestart_of_many (hmany : 3 ≤ recent.length) :
    actFitterRestart s = .next (s.setFit { s.fit with stopped := true }) :=
  (actFitterRestart_of_down h hrecent rfl).trans (if_pos hmany)

end

theorem actFitterAlive_of_restarted {t : State} (ht : t = s.setErr { s.err with held := [], heldDrop := 0 })
    (hdead : s.fitterAlive = false) (hrestart : s.fit.restarting = true) (hboot : s.isReady readyBoot = true)
    (himage : s.imagesOk 64 = true) (hclk : s.clocked = true) :
    actFitterAlive s = .next (s.err.held.foldl State.coalesce
      ((State.classifyLatched 256 t.fitterRuns.nameResets).report 0x0040 0x15 4
        (s.fit.downCause + min s.err.heldDrop 65535 * 65536) repFitter)) := by
  subst ht
  exact if_neg (by simp [hdead, hrestart, hboot, himage, hclk])

/-! ## The policy summary and the weights (R445, R448) -/

section

variable (halive : s.fitterAlive = true)
include halive

theorem actPolicyInterval_of_actions
    (h : s.fit.promotions + s.fit.demotions + s.fit.weightChanges + s.fit.avoidances ≠ 0) :
    actPolicyInterval s =
      .next ((s.setFit { s.fit with promotions := 0, demotions := 0, weightChanges := 0, avoidances := 0 }).report 0x0606
        0x10 0 (s.fit.promotions % 65536 + s.fit.demotions % 65536 * 2 ^ 16 + s.fit.weightChanges % 65536 * 2 ^ 32
          + s.fit.avoidances % 65536 * 2 ^ 48) repFitter) := by
  refine if_neg ?_
  rw [halive, Bool.not_true, Bool.false_or, beq_iff_eq]
  exact h

/-- With adaptation off the effective weights return to the weights, each that moves counted. -/
theorem actAdaptPeriod_of_off {moved : List Nat} (use : List QueueUse) (hoff : s.flag .fitCtrl_adapt = false)
    (hmoved : moved = (List.range 256).filter (fun f => s.rd .fitTenant_effective f != s.rd .fitTenant_weight f)) :
    actAdaptPeriod use s = .next (s.weightsBack.setFit
      { s.fit with weightChanges := s.fit.weightChanges + moved.length }) := by
  subst hmoved
  exact (if_neg (by simp [halive])).trans (if_pos (by simp [hoff]))

section

variable (hon : s.flag .fitCtrl_adapt = true) (hsettled : s.flag .fitStatus_settled = true)
include hon hsettled

theorem actAdaptPeriod_nil : actAdaptPeriod [] s = .next s := by
  simp [actAdaptPeriod, halive, hon, hsettled]

/-- One tenant is weighed against no other. -/
theorem actAdaptPeriod_singleton {use : QueueUse} {w : Nat}
    (hw : w = newWeight (s.rd .fitTenant_effective 0) (s.rd .fitTenant_weight 0) (max 1 (s.rd .fitTenant_minimum 0))
      (s.rd .fitTenant_maximum 0) use false) :
    actAdaptPeriod [use] s = .next (if w = s.rd .fitTenant_effective 0 then s
      else (s.wr .fitTenant_effective 0 w).setFit { s.fit with weightChanges := s.fit.weightChanges + 1 }) := by
  subst hw
  simp [actAdaptPeriod, halive, hon, hsettled]

end

end

end

/-- Settles O55: each command's action in the states named; the pins and the Fitter's record leave a quiet block quiet. -/
theorem fitterLife : Obligations.FitterLife := by
  refine ⟨fun s hq halive _ _ => ?beats, fun s lockup hq halive => ?ends, fun s hdead hstop hidle hcause hclk => ?restarts,
    fun s hdead hrestart hboot himage hclk =>
      congrArg settled (actFitterAlive_of_restarted rfl hdead hrestart hboot himage hclk),
    fun s halive h => congrArg settled (actPolicyInterval_of_actions halive h),
    fun s use halive hoff => congrArg settled (actAdaptPeriod_of_off halive use hoff rfl),
    fun s use halive hon hset => ?one, fun s hq halive hon hset => settled_of_quiet (actAdaptPeriod_nil halive hon hset) hq⟩
  case beats => exact settled_of_quiet (actHbOutToggle_of_alive halive) (quiet_pins hq _)
  case ends =>
    exact settled_of_quiet (actLivenessDeadlineMiss_of_alive rfl lockup halive)
      (quiet_setFit (quiet_setReady (quiet_wr hq _ _ _ rfl) _ _) _ rfl)
  case restarts =>
    have hdown : s.FitterDown := ⟨hdead, hstop, hidle, hcause, hclk⟩
    exact ⟨fun hfew => congrArg settled (actFitterRestart_of_few hdown rfl rfl hfew),
      fun hq hmany => settled_of_quiet (actFitterRestart_of_many hdown rfl hmany) (quiet_setFit hq _ rfl)⟩
  case one =>
    have hact := actAdaptPeriod_singleton (use := use) halive hon hset rfl
    refine ⟨fun hsame => ?_, fun hmoved => ?_⟩
    · rw [if_pos hsame] at hact
      exact congrArg settled hact
    · rw [if_neg hmoved] at hact
      exact congrArg settled hact

end Sys2Proof.Machine
end

section
/-! PROOF. The Fitter's records (R430, R432, R438, R442, R449, R450), temperature and power (R451, R452). -/

namespace Sys2Proof.Machine

open Sys2Proof

section

variable {s : State}

/-! ## Samples, buckets, the log, windows -/

/-- An island's sample enters its averages. -/
def State.sampled (s : State) (i : Nat) (values : List Nat) : State :=
  s.setFit { s.fit with
    samples := Store.modify (fun _ => 0) s.fit.samples i (fun n => min 16 (n + 1)),
    averages := Store.put (fun _ => []) s.fit.averages i
      (tapeAverages (Store.get (fun _ => []) s.fit.averages i) values) }

theorem actTapeSample_of_running {i : Nat} (values : List Nat) (halive : s.fitterAlive = true) (hi : i < 85)
    (hrun : s.flag .clkIsland_running i = true) : actTapeSample i values s = .next (s.sampled i values).noteSettled :=
  if_neg (by simp [halive, hrun, hi])

/-- A new slice of a unit's bucket opens: the oldest leaves, and events of rows that are as old with it. -/
def State.sliceOpened (s : State) (u : Nat) : State :=
  let l := 0 :: (s.bucket u).take 15
  let t := s.setBucket u (if l.all (fun x => x == 0) then [] else l)
  let aged := t.fit.rowEv.map (fun e => if e.1 = u then (e.1, e.2.1 + 1, e.2.2) else e)
  t.setFit { t.fit with rowEv := aged.filter (fun e => decide (e.2.1 < 16)) }

theorem actBucketSliceAdvance_of_other {u : Nat} (hu : ¬(0x200 ≤ u ∧ u ≤ 0x22F)) :
    actBucketSliceAdvance u s = .next (s.sliceOpened u) := if_neg hu

/-- The buckets of the Bolt's banks also decide which banks are avoided. -/
theorem actBucketSliceAdvance_of_bank {u : Nat} (h1 : 0x200 ≤ u) (h2 : u ≤ 0x22F) :
    actBucketSliceAdvance u s = .next ((s.sliceOpened u).noteAvoid (u - 0x200)) := if_pos ⟨h1, h2⟩

theorem actRetirementLogWrite_of_queued {r : LogRec} {more : List LogRec} {t : State}
    (ht : t = s.setFit { s.fit with logQueue := more }) (h : s.fit.logQueue = r :: more) :
    actRetirementLogWrite s = .next (({ t with log := t.log.append r } : State).swapLog).showLog := by
  subst ht
  simp only [actRetirementLogWrite, h]

theorem actCoalWindowClose_of_open {origin cls : Nat} {w : ErrWindow}
    (h : s.err.windows.find? (fun w => w.origin == origin && w.cls == cls) = some w) :
    actCoalWindowClose origin cls s = .next ((s.closeWindow w).forgetPlaces origin cls) := by
  simp only [actCoalWindowClose, h]

/-! ## The end of a profile switch (R449, R450) -/

/-- A started channel whose record is of DDR5-8800 runs at the rate of the profile, its margins to settle anew. -/
def State.rateFollows (s : State) (c : Nat) : State :=
  let x := s.chan c
  if x.started && x.record8000 && x.rate != s.ddrRateNow then
    s.setChan c { x with rate := s.ddrRateNow, unsettled := [(0, max 1 (Store.get (fun _ => 0) x.unsettled 0)),
                                                             (1, max 1 (Store.get (fun _ => 0) x.unsettled 1))] }
  else s

/-- The profile asked for is active: divisors, DDR5 rates and polling classes follow, and the change is reported. -/
def State.profileSwitched (s : State) : State :=
  let p := s.rd .globalProfile_requested
  let t := (s.wr .globalProfile_active 0 p).wr .globalProfile_switching 0 0
  let u := t.each 64 (fun n s => if s.flag .clkIsland_running n then s.switchDivisor n (s.wantedDivisor n) else s)
  let v := u.each 8 (fun c s => s.rateFollows c)
  let x := if s.fit.profPrev = 1 then
    (v.demoteTo 2 (v.rd .ringPoll_hotMax) 4096).demoteTo 1 (v.rd .ringPoll_warmMax) 4096 else v
  x.report 0x0606 0x0D 0 (p + 4 * s.fit.profPrev) repFitter

/-- The switch may end: the Fitter is alive, no quad drains, and no migration that the profile change waits for runs. -/
structure State.SwitchEnds (s : State) : Prop where
  switching : s.flag .globalProfile_switching = true
  alive : s.fitterAlive = true
  drained : s.sht.draining = false
  migrated : s.flag .ddrMigrate_running = false ∨ s.rd .globalProfile_requested ≠ 2 ∧ s.fit.profPrev ≠ 2

section

variable (h : s.SwitchEnds) {y : State} (hy : y = s.profileSwitched)
include h hy

theorem actProfileSwitchDone_of_ends :
    actProfileSwitchDone s = .next (match y.fit.profQueue with
      | [] => y
      | (sq, cid, _) :: more =>
        let z := y.finish sq cid stOk s.fit.profPrev
        State.profNext (more.length + 1) (z.setFit { z.fit with profQueue := more })) := by
  subst hy
  refine (if_neg ?_).trans ?_
  · rcases h.migrated with hm | ⟨hp, hold⟩ <;> simp [h.switching, h.alive, h.drained, *]
  · change (match s.profileSwitched.fit.profQueue with
      | [] => Host.Outcome.next s.profileSwitched
      | (sq, cid, _) :: more => .next (State.profNext (more.length + 1)
          ((s.profileSwitched.finish sq cid stOk s.fit.profPrev).setFit
            { (s.profileSwitched.finish sq cid stOk s.fit.profPrev).fit with profQueue := more }))) = _
    cases s.profileSwitched.fit.profQueue <;> rfl

theorem actProfileSwitchDone_of_unasked (hq : y.fit.profQueue = []) : actProfileSwitchDone s = .next y := by
  rw [actProfileSwitchDone_of_ends h hy, hq]

theorem actProfileSwitchDone_of_asked {sq cid q : Nat} {more : List (Nat × Nat × Nat)}
    (hq : y.fit.profQueue = (sq, cid, q) :: more) {z : State} (hz : z = y.finish sq cid stOk s.fit.profPrev) :
    actProfileSwitchDone s = .next (State.profNext (more.length + 1) (z.setFit { z.fit with profQueue := more })) := by
  rw [actProfileSwitchDone_of_ends h hy, hq, hz]

end

end

/-- Settles O56: each command's action in the states named; the average and its count are the definition's. -/
theorem fitterRecords : Obligations.FitterRecords := by
  refine ⟨fun s i values halive hi hrun => congrArg settled (actTapeSample_of_running values halive hi hrun),
    fun n k v => ⟨rfl, rfl⟩, fun s u => ⟨fun h => congrArg settled (actBucketSliceAdvance_of_other h),
      fun h1 h2 => congrArg settled (actBucketSliceAdvance_of_bank h1 h2)⟩,
    fun s r more h => congrArg settled (actRetirementLogWrite_of_queued rfl h),
    fun s origin cls w h => congrArg settled (actCoalWindowClose_of_open h),
    fun s hsw halive hdrain hmigr => ?switch⟩
  case switch =>
    have hends : s.SwitchEnds := ⟨hsw, halive, hdrain, hmigr⟩
    exact ⟨fun hq => congrArg settled (actProfileSwitchDone_of_unasked hends rfl hq),
      fun sq cid q more hq => congrArg settled (actProfileSwitchDone_of_asked hends rfl hq rfl)⟩

/-! ## Temperature (R451) -/

/-- The temperature at which the step rises, and the one below which it falls. -/
def State.throttleAt (s : State) : Nat := min 100 (s.rd .fitThermal_throttleC)
def State.releaseBelow (s : State) : Nat :=
  if s.throttleAt ≤ s.rd .fitThermal_releaseC then s.throttleAt - 1 else s.rd .fitThermal_releaseC

/-- Both counts of samples start again. -/
def State.thermalEnded (s : State) : State := s.setFit { s.fit with hotMs := 0, coolMs := 0 }

section

variable {s t : State} {c : Nat} (ht : t = s.wr .fitStatus_hottestC 0 (min c 255))
include ht

theorem actThermalSample_of_dead (hdead : t.fitterAlive = false) : actThermalSample c s = .next t := by
  subst ht
  exact if_pos (by simp [hdead])

variable (halive : t.fitterAlive = true)
include halive

theorem actThermalSample_of_alive :
    actThermalSample c s =
      if t.throttleAt ≤ c then
        if t.fit.hotMs + 1 < 10 then .next (t.setFit { t.fit with hotMs := t.fit.hotMs + 1, coolMs := 0 })
        else if t.rd .fitStatus_thermalStep < 3 then
          .next (t.thermalEnded.thermalStep (t.rd .fitStatus_thermalStep + 1) c)
        else .next t.thermalEnded
      else if c < t.releaseBelow then
        if t.fit.coolMs + 1 < 100 then .next (t.setFit { t.fit with coolMs := t.fit.coolMs + 1, hotMs := 0 })
        else if 0 < t.rd .fitStatus_thermalStep then
          .next (t.thermalEnded.thermalStep (t.rd .fitStatus_thermalStep - 1) c)
        else .next t.thermalEnded
      else .next t.thermalEnded := by
  subst ht
  exact if_neg (by simp [halive])

theorem actThermalSample_of_hot (hhot : t.throttleAt ≤ c) :
    actThermalSample c s =
      if t.fit.hotMs + 1 < 10 then .next (t.setFit { t.fit with hotMs := t.fit.hotMs + 1, coolMs := 0 })
      else if t.rd .fitStatus_thermalStep < 3 then
        .next (t.thermalEnded.thermalStep (t.rd .fitStatus_thermalStep + 1) c)
      else .next t.thermalEnded :=
  (actThermalSample_of_alive ht halive).trans (if_pos hhot)

variable (hbelow : c < t.throttleAt)
include hbelow

theorem actThermalSample_of_cool (hcool : c < t.releaseBelow) :
    actThermalSample c s =
      if t.fit.coolMs + 1 < 100 then .next (t.setFit { t.fit with coolMs := t.fit.coolMs + 1, hotMs := 0 })
      else if 0 < t.rd .fitStatus_thermalStep then
        .next (t.thermalEnded.thermalStep (t.rd .fitStatus_thermalStep - 1) c)
      else .next t.thermalEnded :=
  (actThermalSample_of_alive ht halive).trans ((if_neg hbelow.not_ge).trans (if_pos hcool))

theorem actThermalSample_of_between (hmid : t.releaseBelow ≤ c) : actThermalSample c s = .next t.thermalEnded :=
  (actThermalSample_of_alive ht halive).trans ((if_neg hbelow.not_ge).trans (if_neg hmid.not_gt))

end

/-! ## Power (R452) -/

/-- The power step changes, which is reported with the window's power. -/
def State.powerStepped (s : State) (w m : Nat) : State :=
  (s.wr .fitStatus_powerStep 0 m).report 0x0606 0x0F 1 (m + w % 65536 * 65536) repFitter

section

variable {s t : State} {w : Nat} (ht : t = s.wr .fitStatus_powerW 0 (min w 4095))
include ht

theorem actPowerWindow_of_dead (hdead : t.fitterAlive = false) : actPowerWindow w s = .next t := by
  subst ht
  exact if_pos (by simp [hdead])

variable (halive : t.fitterAlive = true)
include halive

theorem actPowerWindow_of_alive :
    actPowerWindow w s =
      if t.powerCap < w ∧ t.rd .fitStatus_powerStep < 3 then .next (t.powerStepped w (t.rd .fitStatus_powerStep + 1))
      else if w * 100 < t.powerCap * 95 ∧ 0 < t.rd .fitStatus_powerStep then
        .next (t.powerStepped w (t.rd .fitStatus_powerStep - 1))
      else .next t := by
  subst ht
  exact if_neg (by simp [halive])

theorem actPowerWindow_of_rises (hover : t.powerCap < w) (hstep : t.rd .fitStatus_powerStep < 3) :
    actPowerWindow w s = .next (t.powerStepped w (t.rd .fitStatus_powerStep + 1)) :=
  (actPowerWindow_of_alive ht halive).trans (if_pos ⟨hover, hstep⟩)

theorem actPowerWindow_of_falls (hunder : w * 100 < t.powerCap * 95) (hstep : 0 < t.rd .fitStatus_powerStep) :
    actPowerWindow w s = .next (t.powerStepped w (t.rd .fitStatus_powerStep - 1)) :=
  (actPowerWindow_of_alive ht halive).trans ((if_neg (by omega)).trans (if_pos ⟨hunder, hstep⟩))

/-- A window that is neither above the cap with a step left to take, nor below 95 % of it with a step to give back. -/
theorem actPowerWindow_of_stays (hup : t.powerCap < w → 3 ≤ t.rd .fitStatus_powerStep)
    (hdown : w * 100 < t.powerCap * 95 → t.rd .fitStatus_powerStep = 0) : actPowerWindow w s = .next t :=
  (actPowerWindow_of_alive ht halive).trans ((if_neg (by omega)).trans (if_neg (by omega)))

end

/-- Settles O57: a sample by where its temperature lies and how many came before it, a window by its power and the step. -/
theorem thermalAndPower : Obligations.ThermalAndPower := by
  refine ⟨fun s c => ⟨fun hdead => congrArg settled (actThermalSample_of_dead rfl hdead), fun halive hhot => ?hot,
      fun halive hbelow hcool => ?cool,
      fun halive hbelow hmid => congrArg settled (actThermalSample_of_between rfl halive hbelow hmid)⟩,
    fun s w => ⟨fun hdead => congrArg settled (actPowerWindow_of_dead rfl hdead),
      fun halive hover hstep => congrArg settled (actPowerWindow_of_rises rfl halive hover hstep),
      fun halive hover hstep => congrArg settled (actPowerWindow_of_stays rfl halive (fun _ => hstep) (by omega)),
      fun halive hunder hstep => congrArg settled (actPowerWindow_of_falls rfl halive hunder hstep),
      fun halive hunder hstep => congrArg settled (actPowerWindow_of_stays rfl halive (by omega) (fun _ => hstep)),
      fun halive hin hnear => congrArg settled (actPowerWindow_of_stays rfl halive (by omega) (by omega))⟩,
    fun s => rfl⟩
  case hot =>
    have hact := actThermalSample_of_hot rfl halive hhot
    exact ⟨fun hfew => congrArg settled (hact.trans (if_pos hfew)),
      fun hmany hstep => congrArg settled (hact.trans ((if_neg hmany.not_gt).trans (if_pos hstep))),
      fun hmany hstep => congrArg settled (hact.trans ((if_neg hmany.not_gt).trans (if_neg hstep.not_gt)))⟩
  case cool =>
    have hact := actThermalSample_of_cool rfl halive hbelow hcool
    exact ⟨fun hfew => congrArg settled (hact.trans (if_pos hfew)),
      fun hmany hstep => congrArg settled (hact.trans ((if_neg hmany.not_gt).trans (if_pos hstep))),
      fun hmany hstep => congrArg settled (hact.trans ((if_neg hmany.not_gt).trans (if_neg (by omega))))⟩

end Sys2Proof.Machine
end

section
/-! PROOF. Boot, images, watchdog, debug unlock, provisioning (R456, R461, R462, R469-R471), the random source and tampering
(R459, R467, R468). -/

namespace Sys2Proof.Machine

open Sys2Proof

section

variable {s : State}

/-! ## Stage 1 (R462) -/

/-- Stage 1 is still to be verified: the Thimble is out of reset, has not stopped and has not booted. -/
structure State.Boots (s : State) : Prop where
  released : s.thmHeld = false
  going : s.thm.stopped = false
  unbooted : s.isReady readyBoot = false

section

variable (h : s.Boots) {active other : ImageJudge} {a : Nat} (ha : a = s.bootSlot)
include h ha

theorem actStage1Verified_of_active (hok : judgeCode s.rollback 128 active = 0) :
    actStage1Verified active other s = .next (s.stage1Runs a (judgeSvn active)) := by
  subst ha
  exact (if_neg (by simp [h.released, h.going, h.unbooted])).trans (if_pos hok)

section

variable (hbad : judgeCode s.rollback 128 active ≠ 0) {t : State}
  (ht : t = s.rejected a 1 (judgeCode s.rollback 128 active))
include hbad ht

theorem actStage1Verified_of_rejected {v : State} (hv : v = t.rejected (1 - a) 1 (judgeCode t.rollback 128 other)) :
    actStage1Verified active other s =
      if judgeCode t.rollback 128 other = 0 then .next (t.stage1Runs (1 - a) (judgeSvn other))
      else .next (v.setThm { v.thm with stopped := true }) := by
  subst hv ht ha
  exact (if_neg (by simp [h.released, h.going, h.unbooted])).trans (if_neg hbad)

theorem actStage1Verified_of_other (hok : judgeCode t.rollback 128 other = 0) :
    actStage1Verified active other s = .next (t.stage1Runs (1 - a) (judgeSvn other)) :=
  (actStage1Verified_of_rejected h ha hbad ht rfl).trans (if_pos hok)

theorem actStage1Verified_of_neither {v : State} (hv : v = t.rejected (1 - a) 1 (judgeCode t.rollback 128 other))
    (hnone : judgeCode t.rollback 128 other ≠ 0) :
    actStage1Verified active other s = .next (v.setThm { v.thm with stopped := true }) :=
  (actStage1Verified_of_rejected h ha hbad ht hv).trans (if_neg hnone)

end

end

/-! ## Images (R462) -/

/-- An image of this type is still to be verified, and the Thimble has booted and reaches the Hub. -/
structure State.ImageDue (s : State) (kind : Nat) : Prop where
  released : s.thmHeld = false
  booted : s.isReady readyBoot = true
  hub : s.isReady readyHub = true
  first : 2 ≤ kind
  last : kind ≤ 4
  fresh : s.thm.judged.contains kind = false

/-- The image is rejected, and a Fitter whose image it is does not restart. -/
def State.imageRejected (s : State) (kind c : Nat) : State :=
  let x := s.rejected s.bundle.slot kind c
  if kind = 3 then x.setFit { x.fit with restarting := false } else x

/-- The image is measured, and that of a Fitter that starts for the first time starts it. -/
def State.imageAccepted (s : State) (kind : Nat) : State :=
  let t := ((s.showBundle s.bundle).judgedOk kind).measure kind
  if kind = 3 && !t.fit.restarting then t.fitterUp else t

/-- The Needles start once all three images are accepted and the Fitter is alive. -/
def State.needlesFollow (s : State) : State :=
  if [2, 3, 4].all (fun k => s.thm.judged.contains k) && s.fitterAlive then s.needlesUp else s

section

variable {kind : Nat} (h : s.ImageDue kind)
include h

theorem not_imageIgnored : ¬(s.thmHeld || !s.isReady readyBoot || !s.isReady readyHub || decide (kind < 2)
    || decide (kind > 4) || s.thm.judged.contains kind) = true := by
  have hlow : decide (kind < 2) = false := decide_eq_false h.first.not_gt
  have hhigh : decide (kind > 4) = false := decide_eq_false h.last.not_gt
  rw [h.released, h.booted, h.hub, h.fresh, hlow, hhigh]
  decide

variable {j : ImageJudge} {c : Nat} (hc : c = judgeCode s.bundle.svn s.bundle.svn j)
include hc

theorem actImageVerified_of_rejected (hbad : c ≠ 0) : actImageVerified kind j s = .next (s.imageRejected kind c) := by
  subst hc
  exact (if_neg (not_imageIgnored h)).trans (if_pos hbad)

theorem actImageVerified_of_accepted (hok : c = 0) :
    actImageVerified kind j s = .next (s.imageAccepted kind).needlesFollow := by
  subst hc
  exact (if_neg (not_imageIgnored h)).trans
    ((if_neg (not_not.2 hok)).trans (apply_ite Host.Outcome.next _ _ _).symm)

end

/-! ## Watchdog, debug unlock, provisioning (R456, R469, R470) -/

section

variable (hthm : s.thmHeld = false)
include hthm

theorem actThimbleWatchdogExpiry_of_released {t : State}
    (ht : t = (s.vaultWipe.resampleProg.setReady readyBoot false).setReady readyTrng false) :
    actThimbleWatchdogExpiry s =
      .next ((t.setThm { t.thm with drbg := false, stopped := false, sessions := [], rolling := none }).thmReport
        0x36 4 0) := by
  subst ht
  exact if_neg (Bool.eq_false_iff.1 hthm)

theorem actDebugUnlock_of_signed (hboot : s.isReady readyBoot = true) (hlc : s.lifeState = lcProvisioned)
    (hshut : s.flag .thmLc_debugOpen = false) :
    actDebugUnlock true s = .next (s.vaultWipe.wr .thmLc_debugOpen 0 1) :=
  if_neg (by simp [hthm, hboot, hlc, hshut])

theorem actJtagProvisionRequest_of_blank (hlc : s.lifeState = lcBlank) (hdrbg : s.thm.drbg = true) :
    actJtagProvisionRequest s = .next ((s.freshBytes 32).2.lcTransition lcProvisioned 0
      (fun t => t.programItem fuSeed 6 (s.freshBytes 32).1)) :=
  if_neg (by simp [hthm, hlc, hdrbg])

end

theorem actDebugUnlock_of_unsigned : actDebugUnlock false s = .next s := if_pos (by simp)

/-! ## The random source (R467) -/

@[simp] theorem setReady_thm (s : State) (b : Nat) (v : Bool) : (s.setReady b v).thm = s.thm := by
  unfold State.setReady
  split <;> rfl

@[simp] theorem setReady_vault (s : State) (b : Nat) (v : Bool) : (s.setReady b v).vault = s.vault := by
  unfold State.setReady
  split <;> rfl

/-- With the table key sealed and no mesh key to unseal, unsealing places the keys. -/
theorem unseal_of_tableKey (hsealed : s.thm.sealed = none) (hcur : s.vault.sealedCur = true) :
    s.unseal = s.placeKeys := by
  simp [State.unseal, hsealed, hcur]

theorem actTrngStartupDone_of_starting {t : State} (ht : t = (s.setThm { s.thm with drbg := true }).setReady readyTrng true)
    (hthm : s.thmHeld = false) (hroot : s.power.rootLock = true) (hhold : s.power.hold = false)
    (hlives : s.thm.trngDead = false) (hunready : s.isReady readyTrng = false) :
    actTrngStartupDone s = .next (if t.isReady readyBoot then t.unseal else t) := by
  subst ht
  exact if_neg (by simp [hthm, hroot, hhold, hlives, hunready])

theorem actTrngHealthFail_of_alive {adaptive : Bool} {t : State} {l : List Nat}
    (ht : t = s.countSat (if adaptive then .thmTrng_aptFail else .thmTrng_rctFail))
    (hl : l = t.thm.trngFails.filter (fun x => decide (t.time < x + 60000000000)) ++ [t.time])
    (hthm : s.thmHeld = false) (hroot : s.power.rootLock = true) (hlives : s.thm.trngDead = false) :
    actTrngHealthFail adaptive s =
      .next (((t.setThm { t.thm with drbg := false, trngFails := l, trngDead := decide (3 ≤ l.length) }).setReady readyTrng
        false).thmReport 0x33 3 (b2n adaptive + min l.length 255 * 256)) := by
  subst hl ht
  exact if_neg (by simp [hthm, hroot, hlives])

theorem actDrbgReseed_of_drbg (h : s.thm.drbg = true) : actDrbgReseed s = .next (s.count .thmTrng_reseeds) := if_pos h

/-! ## A tamper trip (R459, R468) -/

/-- The trip is shown, counted, reported with where its fuse word stands, and measured. -/
def State.tamperNoted (s : State) (sensor at_ : Nat) : State :=
  (((s.wr .thmTamperStat_last 0 (2 ^ sensor)).countSat .thmTamperStat_count).thmReport 0x32 4
    (2 ^ sensor + at_ * 2 ^ 16)).measure 5

/-- The fuse word that records a trip: the sensor, the cold resets so far and the temperature. -/
def State.tamperWord (s : State) (sensor celsius : Nat) : Nat :=
  2 ^ sensor + s.thm.coldCount % 65536 * 2 ^ 16 + celsius % 65536 * 2 ^ 32

section

variable {sensor celsius : Nat} {t : State} (ht : t = s.keyDestruction) (hpor : s.power.porActive = false)
  (hon : s.sensorOn sensor = true)
include ht hpor hon

theorem actTamperTrip_of_free {i : Nat} (h : t.nextFuse fuTamper 16 = some i) :
    actTamperTrip sensor celsius s =
      .next ((t.programFuse i (t.tamperWord sensor celsius)).tamperNoted sensor (i - fuTamper)) := by
  unfold actTamperTrip
  rw [if_neg (by simp [hpor, hon])]
  simp only [← ht, h, State.tamperNoted, State.tamperWord]

/-- With no fuse word left the trip is recorded without one. -/
theorem actTamperTrip_of_full (h : t.nextFuse fuTamper 16 = none) :
    actTamperTrip sensor celsius s = .next (t.tamperNoted sensor 15) := by
  unfold actTamperTrip
  rw [if_neg (by simp [hpor, hon])]
  simp only [← ht, h, State.tamperNoted]

end

end

/-- Settles O58: stage 1 by which slot verifies, an image by whether it is accepted, and the action of each other command. -/
theorem bootAndLifeCycle : Obligations.BootAndLifeCycle := by
  refine ⟨fun s active other hthm hgo hboot => ?stage1, fun s kind j hthm hboot hhub h2 h4 hfresh => ?image,
    fun s hthm => congrArg settled (actThimbleWatchdogExpiry_of_released hthm rfl),
    fun s hthm hboot hlc hshut => congrArg settled (actDebugUnlock_of_signed hthm hboot hlc hshut),
    fun s hq => settled_of_quiet actDebugUnlock_of_unsigned hq,
    fun s hthm hlc hdrbg => congrArg settled (actJtagProvisionRequest_of_blank hthm hlc hdrbg)⟩
  case stage1 =>
    have hboots : s.Boots := ⟨hthm, hgo, hboot⟩
    exact ⟨fun hok => congrArg settled (actStage1Verified_of_active hboots rfl hok),
      fun hbad hok => congrArg settled (actStage1Verified_of_other hboots rfl hbad rfl hok),
      fun hbad hnone => congrArg settled (actStage1Verified_of_neither hboots rfl hbad rfl rfl hnone)⟩
  case image =>
    have hdue : s.ImageDue kind := ⟨hthm, hboot, hhub, h2, h4, hfresh⟩
    refine ⟨fun hbad hkind => ?_, fun hbad hkind => ?_,
      fun hok => congrArg settled (actImageVerified_of_accepted hdue rfl hok)⟩
    all_goals have hact := actImageVerified_of_rejected hdue rfl hbad
    · rw [State.imageRejected, if_pos hkind] at hact
      exact congrArg settled hact
    · rw [State.imageRejected, if_neg hkind] at hact
      exact congrArg settled hact

/-- Settles O59: the source by whether stage 1 runs, a failure with those of the last minute, a trip by whether a fuse word
is left. -/
theorem randomAndTamper : Obligations.RandomAndTamper := by
  refine ⟨fun s hthm hroot hhold hlives hunready => ?startup,
    fun s adaptive hthm hroot hlives => congrArg settled (actTrngHealthFail_of_alive rfl rfl hthm hroot hlives),
    fun s hq hdrbg => settled_of_quiet (actDrbgReseed_of_drbg hdrbg) (quiet_count hq _ _ _ rfl),
    fun s sensor celsius hpor hon => ⟨fun i h => congrArg settled (actTamperTrip_of_free rfl hpor hon h),
      fun h => congrArg settled (actTamperTrip_of_full rfl hpor hon h)⟩⟩
  case startup =>
    have hact := actTrngStartupDone_of_starting rfl hthm hroot hhold hlives hunready
    refine ⟨fun hboot => ?runs, fun hboot hsealed hcur => ?places, fun hboot => ?waits⟩
    case runs =>
      rw [if_pos hboot] at hact
      exact congrArg settled hact
    case places =>
      rw [if_pos hboot, unseal_of_tableKey (by simpa using hsealed) (by simpa using hcur)] at hact
      exact congrArg settled hact
    case waits =>
      rw [if_neg (Bool.eq_false_iff.1 hboot)] at hact
      exact congrArg settled hact

end Sys2Proof.Machine
end

section
/-! PROOF. SPDM and vendor requests (R456, R463, R466): what the Thimble answers, and whom it refuses. -/

namespace Sys2Proof.Machine

open Sys2Proof

section

variable {s : State}

/-- The Thimble answers: it is out of reset and has booted. -/
structure State.ThimbleAnswers (s : State) : Prop where
  released : s.thmHeld = false
  booted : s.isReady readyBoot = true

variable (h : s.ThimbleAnswers)
include h

/-! ## SPDM requests (R466) -/

theorem actSpdmRequest_getMeasurement {i : Nat} (h1 : 1 ≤ i) (h8 : i ≤ 8) :
    actSpdmRequest (.getMeasurement i) s = .next (s.signed.2.answer (.measurement i (s.digestOf i) s.signed.1)) :=
  (if_neg (by simp [h.released, h.booted])).trans (if_pos ⟨h1, h8⟩)

theorem actSpdmRequest_getCertificate {k : Nat} (hk : k < 8) :
    actSpdmRequest (.getCertificate k) s = .next (s.answer (.certificate k (s.norBytes (certBase k) 0x2000))) :=
  (if_neg (by simp [h.released, h.booted])).trans (if_pos hk)

theorem actSpdmRequest_setCertificate_of_refused (k : Nat) (chain : List Byte) {v : VendorAuth}
    (hv : s.vendorOk v = false) : actSpdmRequest (.setCertificate k chain v) s = .next (s.answer .unsupported) :=
  (if_neg (by simp [h.released, h.booted])).trans (if_pos (by simp [hv]))

theorem actSpdmRequest_challenge (n : List Byte) :
    actSpdmRequest (.challenge n) s = .next (s.signed.2.answer (.signed s.signed.1)) :=
  if_neg (by simp [h.released, h.booted])

/-! ## Vendor requests (R456, R463) -/

theorem vendor_of_refused {v : VendorAuth} (act : State → State) (hv : s.vendorOk v = false) :
    s.vendor v act = s.answer .unsupported :=
  (if_neg (by simp [h.released, h.booted])).trans (if_neg (Bool.eq_false_iff.1 hv))

variable {v : VendorAuth} (hv : s.vendorOk v = true)
include hv

theorem vendor_of_ok (act : State → State) : s.vendor v act = act s :=
  (if_neg (by simp [h.released, h.booted])).trans (if_pos hv)

theorem actFwWrite_of_fits {off : Nat} {data : List Byte} (hlen : data.length ≤ 4096)
    (hin : off + data.length ≤ 0x800000) :
    actFwWrite v off data s = .next ((s.norWrite (bundleBase (1 - s.bundle.slot) + off) data).answer .ok) :=
  congrArg Host.Outcome.next ((vendor_of_ok h hv _).trans (if_pos ⟨hlen, hin⟩))

theorem actFwActivate_of_verified {j : ImageJudge} (hj : judgeCode s.rollback 128 j = 0) :
    actFwActivate v j s = .next (s.rollTo (1 - s.bundle.slot) (judgeSvn j) 2) :=
  congrArg Host.Outcome.next ((vendor_of_ok h hv _).trans (if_pos hj))

section

variable (htrial : s.bundle.trial = 1)
include htrial

theorem actFwRevert_of_trial : actFwRevert v s = .next (s.rollTo (1 - s.bundle.slot) s.thm.oldSvn 4) :=
  congrArg Host.Outcome.next ((vendor_of_ok h hv _).trans (if_pos htrial))

/-- With the rollback counter at the running version already, a commit blows no fuse. -/
theorem actFwCommit_of_trial (hroll : s.thm.rolling = none) (hsvn : s.bundle.svn ≤ s.rollback) :
    actFwCommit v s =
      .next (((((s.writeBoot s.bundle.slot 0).showBundle { s.bundle with trial := 0 }).thmReport 0x31 0
        (3 + s.bundle.svn * 256)).measure 5).answer .ok) := by
  have hfuses : s.bundle.svn - s.rollback = 0 := Nat.sub_eq_zero_of_le hsvn
  refine congrArg Host.Outcome.next ((vendor_of_ok h hv _).trans ((if_neg (by simp [htrial, hroll])).trans ?_))
  simp only [hfuses]
  rfl

end

theorem actMeshKeyInstall_of_key {key : List Byte} {number : Nat} (hlen : key.length = 32) (hlc : s.lifeState ≠ lcRetired)
    {t : State} (ht : t = ((s.setThm { s.thm with sealed := some (key, number, s.sealEpoch) }).setMesh
      { s.mesh with key := some (key, number) }).sealRecord 2 number key) :
    actMeshKeyInstall v key number s = .next ((t.thmReport 0x37 0 number).answer .ok) := by
  subst ht
  exact congrArg Host.Outcome.next ((vendor_of_ok h hv _).trans (if_pos ⟨hlen, hlc⟩))

theorem actLcRetire_of_owner (hlc : s.lifeState = lcDeployed) (howner : v.owner = true) :
    actLcRetire v s = .next ((s.lcTransition lcRetired 0 (fun s => s)).answer .ok) :=
  congrArg Host.Outcome.next ((vendor_of_ok h hv _).trans (if_pos ⟨hlc, howner⟩))

end

/-- Settles O60: each request's answer, and the action of each vendor request by whether its session may make it. -/
theorem spdmAndVendor : Obligations.SpdmAndVendor := by
  refine ⟨fun s hthm hboot => ?spdm, fun s v off data hthm hboot hlen hin => ⟨fun hv => ?writes, fun hv => ?refuses⟩,
    fun s v j hj hthm hboot hv => congrArg settled (actFwActivate_of_verified ⟨hthm, hboot⟩ hv hj),
    fun s v hthm hboot hv htrial hroll => ⟨congrArg settled (actFwRevert_of_trial ⟨hthm, hboot⟩ hv htrial),
      fun hsvn => congrArg settled (actFwCommit_of_trial ⟨hthm, hboot⟩ hv htrial hroll hsvn)⟩,
    fun s v key number hthm hboot hv hlen hlc =>
      congrArg settled (actMeshKeyInstall_of_key ⟨hthm, hboot⟩ hv hlen hlc rfl),
    fun s v hthm hboot hv hlc howner => congrArg settled (actLcRetire_of_owner ⟨hthm, hboot⟩ hv hlc howner)⟩
  case spdm =>
    have h : s.ThimbleAnswers := ⟨hthm, hboot⟩
    exact ⟨fun i h1 h8 => congrArg settled (actSpdmRequest_getMeasurement h h1 h8),
      fun k hk => congrArg settled (actSpdmRequest_getCertificate h hk),
      fun k chain v hv => congrArg settled (actSpdmRequest_setCertificate_of_refused h k chain hv),
      fun n => congrArg settled (actSpdmRequest_challenge h n)⟩
  case writes => exact congrArg settled (actFwWrite_of_fits ⟨hthm, hboot⟩ hv hlen hin)
  case refuses => exact next_settle_congr (vendor_of_refused ⟨hthm, hboot⟩ _ hv)

end Sys2Proof.Machine
end
